-- ==== Sys2Proof/Word.lean ====
section
/-! DEFINITION. Word: the byte, the index types and the row's data bytes. -/

namespace Sys2Proof

/-- One byte of the service port, of a stored row or of a frame. -/
abbrev Byte := BitVec 8

/-- A node id on the hall link, 0..15 (00_scope.md section 3). -/
abbrev NodeId := Fin 16

/-- A valve channel number, 0..11 (R63). -/
abbrev ChanId := Fin 12

/-- A row number of the configuration store, 0..12 (R157). -/
abbrev RowId := Fin 13

/-- A moment or a length of time in milliseconds. -/
abbrev Time := Nat

/-- The 14 data bytes of a stored row (R183). -/
abbrev RowData := Vector Byte 14

/-- All channel numbers, ascending. -/
def allChans : List ChanId := [0, 1, 2, 3, 4, 5, 6, 7, 8, 9, 10, 11]

/-- All node ids, ascending. -/
def allNodes : List NodeId := [0, 1, 2, 3, 4, 5, 6, 7, 8, 9, 10, 11, 12, 13, 14, 15]

/-- All row numbers, ascending. -/
def allRows : List RowId := [0, 1, 2, 3, 4, 5, 6, 7, 8, 9, 10, 11, 12]

/-- Exact division rounded upward, as every demand figure is (03 chapter opening, R52 to R55). -/
def ceilDiv (a b : Nat) : Nat := (a + b - 1) / b

end Sys2Proof
end

