-- ==== Sys2Proof/Syntax.lean ====
section
/-! DEFINITION. Syntax: the 63 commands of spec/opcode_table.json with their operands, and the
enumerated values those operands use. -/

namespace Sys2Proof

/-- The two detection zones (02 section 2.1). -/
inductive Zone where
  | a | b
deriving DecidableEq, Repr

/-- The nine hall states (section 1.1). -/
inductive HallState where
  | quiet | alert | countdown | hold | awaitSlot | discharging | soak | spent | lockout
deriving DecidableEq, Repr

/-- The sequencer's mode (section 1.6 of 00_scope.md). -/
inductive Mode where
  | normal | fallback
deriving DecidableEq, Repr

/-- Class of a reserve bid (R84). -/
inductive BidClass where
  | ordinary | elevated
deriving DecidableEq, Repr

/-- Vent status of a node (R84, R131). -/
inductive VentStatus where
  | none | waiting | holding
deriving DecidableEq, Repr

/-- Outcome of a FED frame (R84): COMPLETE, PARTIAL, LAPSED, REFUSED. -/
inductive FedOutcome where
  | complete | part | lapsed | refused
deriving DecidableEq, Repr

/-- One grant entry of a holder part (R84). -/
structure Grant where
  grantee : NodeId
  count : Nat
deriving DecidableEq, Repr

/-- The holder part of a STANDING (R84). -/
structure HolderPart where
  ready : Nat
  lockout : Bool
  grants : List Grant
deriving DecidableEq, Repr

/-- The fields of a STANDING after its source id (R84). Vent group 0 is none (R182). -/
structure Standing where
  hall : HallState
  mode : Mode
  lockout : Bool
  short : Bool
  low : Bool
  trouble : Bool
  ventGroup : Nat
  ventStatus : VentStatus
  bidHolder : NodeId
  wanted : Nat
  cls : BidClass
  holderPart : Option HolderPart
deriving DecidableEq, Repr

/-- A frame of the hall link: its kind, source id and fields (R84). -/
inductive Frame where
  | standing (src : NodeId) (content : Standing)
  | bid (src holder : NodeId) (wanted : Nat) (cls : BidClass)
  | yield (src holder : NodeId)
  | wayopen (src holder : NodeId) (count : Nat)
  | fed (src grantee : NodeId) (confirmed failed : Nat) (outcome : FedOutcome)
  | vent (src : NodeId) (group : Nat)
  | ventfree (src : NodeId) (group : Nat)
deriving DecidableEq, Repr

/-- The eight supervised plant outputs, in the order of R184. -/
inductive SupOutput where
  | sounder | strobe | sign | hvac | damper | epo | trouble | released
deriving DecidableEq, Repr

/-- Class of one supervision readback (section 8.6). -/
inductive SupClass where
  | normal | openLine | shortLine
deriving DecidableEq, Repr

/-- How far start-up goes on (to the first `upTo` rows read; with 13, all are and VALIDATE stands; above 13,
to the entry to RUN), what the inputs read at the entry to RUN (R29, R65, R78), and the stored bits that
have flipped before the rows are read (R158; bit n of a row is bit n mod 8 of its byte n / 8). Currents are in
0.1 mA, the temperature in 0.1 degree Celsius or `none` for an open circuit, the hall pressure in
Pa, cylinder pressures in percent; a contact or limit switch is `true` when made. -/
structure LoadInputs where
  upTo : Nat
  zoneA : Nat
  zoneB : Nat
  manual : Nat
  hold : Nat
  keyNormal : Bool
  keyIsolate : Bool
  temperature : Option Int
  pressure : Int
  cylinders : Vector Nat 12
  selectorOpen : Bool
  selectorClosed : Bool
  flips : List (RowId × Fin 128)
deriving DecidableEq, Repr

/-- The commands: one constructor per row of spec/opcode_table.json. -/
inductive Instr where
  /-- POWER_ON: the supply has risen through its threshold; `straps` is the level of the four straps. -/
  | powerOn (straps : NodeId)
  /-- RESET_LINE: the reset input has been held asserted for `micros` microseconds; it is let go now, with
  these straps, or held on (log 47). -/
  | resetLine (micros : Nat) (straps : Option NodeId)
  /-- LOAD: start-up goes on as far as its inputs say (log 49). -/
  | load (inputs : LoadInputs)
  /-- ZONE_SAMPLE: one sample of a zone line, in 0.1 mA. -/
  | zoneSample (zone : Zone) (current : Nat)
  /-- MANUAL_STATION_SAMPLE: one sample of the manual release station, in 0.1 mA. -/
  | manualStationSample (current : Nat)
  /-- HOLD_SWITCH_SAMPLE: one sample of the hold switch, in 0.1 mA. -/
  | holdSwitchSample (current : Nat)
  /-- KEY_SAMPLE: one sample of the lockout key's two contacts. -/
  | keySample (normalMade isolateMade : Bool)
  /-- DEGRADED_CONFIRM_EXPIRY -/
  | degradedConfirmExpiry
  /-- EPO_POINT_REACHED -/
  | epoPointReached
  /-- COUNTDOWN_EXPIRY -/
  | countdownExpiry
  /-- DISCHARGE_DURATION_EXPIRY -/
  | dischargeDurationExpiry
  /-- SOAK_EXPIRY -/
  | soakExpiry
  /-- TEMPERATURE_READ: `none` is an open sensor circuit. -/
  | temperatureRead (reading : Option Int)
  /-- HALL_PRESSURE_READ: one reading in Pa. -/
  | hallPressureRead (reading : Int)
  /-- DEFER_TIMER_EXPIRY -/
  | deferTimerExpiry
  /-- CYLINDER_PRESSURE_READ: one reading of a channel, in percent. -/
  | cylinderPressureRead (channel : ChanId) (reading : Nat)
  /-- PULSE_START -/
  | pulseStart
  /-- PULSE_LENGTH_EXPIRY -/
  | pulseLengthExpiry
  /-- CONFIRM_WINDOW_EXPIRY -/
  | confirmWindowExpiry (channel : ChanId)
  /-- STAGGER_TIMER_EXPIRY -/
  | staggerTimerExpiry
  /-- DRIVE_MONITOR_CUT -/
  | driveMonitorCut (channel : ChanId)
  /-- SELECTOR_LIMIT_READ: which limit switches are made. -/
  | selectorLimitRead (openMade closedMade : Bool)
  /-- SELECTOR_TRAVEL_EXPIRY -/
  | selectorTravelExpiry
  /-- FRAME_OFFER: the line is idle; `differsAt` is the first bit whose read-back differs from the
  bit sent, or `none` when the frame was sent to its end. -/
  | frameOffer (differsAt : Option Nat)
  /-- BAD_FRAME: the bytes of a frame heard in full. -/
  | badFrame (bytes : List Byte)
  /-- STANDING_RECEIVED -/
  | standingReceived (src : NodeId) (content : Standing)
  /-- BID_RECEIVED -/
  | bidReceived (src holder : NodeId) (wanted : Nat) (cls : BidClass)
  /-- YIELD_RECEIVED -/
  | yieldReceived (src holder : NodeId)
  /-- WAYOPEN_RECEIVED -/
  | wayopenReceived (src holder : NodeId) (count : Nat)
  /-- FED_RECEIVED -/
  | fedReceived (src grantee : NodeId) (confirmed failed : Nat) (outcome : FedOutcome)
  /-- VENT_RECEIVED -/
  | ventReceived (src : NodeId) (group : Nat)
  /-- VENTFREE_RECEIVED -/
  | ventfreeReceived (src : NodeId) (group : Nat)
  /-- STATUS_TIMER_EXPIRY -/
  | statusTimerExpiry
  /-- LISTEN_TIMER_EXPIRY -/
  | listenTimerExpiry
  /-- SILENCE_TIMER_EXPIRY -/
  | silenceTimerExpiry
  /-- PLACEMENT_TIMER_EXPIRY -/
  | placementTimerExpiry
  /-- PRESENCE_TIMER_EXPIRY of one peer-table entry. -/
  | presenceTimerExpiry (node : NodeId)
  /-- GRANT_HOLD_EXPIRY of one bid-queue entry. -/
  | grantHoldExpiry (node : NodeId)
  /-- RESERVE_WAIT_EXPIRY -/
  | reserveWaitExpiry
  /-- FEED_TIMEOUT_EXPIRY -/
  | feedTimeoutExpiry
  /-- FLOW_TIMER_EXPIRY -/
  | flowTimerExpiry
  /-- SLOT_WAIT_EXPIRY -/
  | slotWaitExpiry
  /-- SUPERVISION_READ of one supervised output. -/
  | supervisionRead (output : SupOutput) (cls : SupClass)
  /-- SETTLE_TIME_EXPIRY of one supervised output. -/
  | settleTimeExpiry (output : SupOutput)
  /-- SOUNDER_PHASE_EXPIRY -/
  | sounderPhaseExpiry
  /-- STORE_WRITE_COMPLETION -/
  | storeWriteCompletion
  /-- INDEX_WRITE: the index byte of a write transaction. -/
  | indexWrite (byte : Byte)
  /-- READ_ADDRESS: the port's read address, and `count` data bytes read after it. -/
  | readAddress (count : Nat)
  /-- WINDOW_RECORD_READ: the partner reads on through the last byte of the window record. -/
  | windowRecordRead
  /-- BAD_FRAME_COUNTER_READ: the partner reads on through the counter's last byte. -/
  | badFrameCounterRead
  /-- STICKY_FLAG_CLEAR: a data byte written in the sticky flags area. -/
  | stickyFlagClear (byte : Byte)
  /-- WINDOW_POINTER_WRITE: a data byte written at a window's pointer index. -/
  | windowPointerWrite (byte : Byte)
  /-- AUTO_SNAP_WRITE: a data byte written at the control index. -/
  | autoSnapWrite (byte : Byte)
  /-- REGISTER_WRITE: a data byte written where it has no behaviour of its own. -/
  | registerWrite (byte : Byte)
  /-- SNAP: the code byte of the SNAP command. -/
  | snap
  /-- ALARM_RESET: the code byte of the ALARM RESET command; its zone set is the parameter byte. -/
  | alarmReset
  /-- CLEAR_RELEASE: the code byte of the CLEAR RELEASE command. -/
  | clearRelease
  /-- RESTART: the code byte of the RESTART command; `straps` is the level of the four straps then. -/
  | restart (straps : NodeId)
  /-- STORE_READ_ROW: a store control byte with start set and operation READ. -/
  | storeReadRow (control : Byte)
  /-- STORE_WRITE_ROW: a store control byte with start set and operation WRITE. -/
  | storeWriteRow (control : Byte)
  /-- START_CONDITION: a start condition, the seven address bits and the direction bit. -/
  | startCondition (address : BitVec 7) (read : Bool)
  /-- SUPPLY_BELOW_THRESHOLD -/
  | supplyBelowThreshold
  /-- DRIVE_CURRENT_WITHOUT_COMMAND: a driver begins (`drawing`) or ceases to draw current of its
  own accord. -/
  | driveCurrentWithoutCommand (channel : ChanId) (drawing : Bool)
deriving DecidableEq, Repr

end Sys2Proof
end

