-- ==== Sys2Proof/Decode.lean ====
section
/-! DEFINITION. Decode: the command a word of the table's bits spells. No row of
spec/opcode_table.json gives bits, so no word spells a command. -/

namespace Sys2Proof

/-- The command that a word spells by the table's bits: none, for the table gives no row any. -/
def decodeTableWord (_nbits _w : Nat) : Option Instr := none

end Sys2Proof
end

