-- ==== Sys2Proof/Config.lean ====
section
/-! DEFINITION. Config: the figures fixed in the part, and the free values the spec leaves open. -/

namespace Sys2Proof.Config

/-- Sample period of the zone lines, station, hold switch and key (R29). -/
def fieldPeriod : Time := 50
/-- Read period of the hall temperature (R43). -/
def temperaturePeriod : Time := 1000
/-- Read period of hall pressure, cylinder pressure, limit switches and supervision (R44, R65, 4.8, R152). -/
def readPeriod : Time := 100
/-- Time a fault, and a recovery from it, must hold (R33, R37, R39, R42, R153). -/
def faultTime : Time := 1000
/-- Time the manual release station must read OPERATED (R36). -/
def operatedTime : Time := 500
/-- Settling time of the hold switch (R38). -/
def holdChangeTime : Time := 200
/-- Settling time of the lockout key (R40). -/
def keyChangeTime : Time := 100
/-- Cylinder pressure below which flow is seen, in percent (R64, R74). -/
def flowThreshold : Nat := 50
/-- Cylinder pressure below which a cylinder is empty, in percent (R64, R65). -/
def emptyThreshold : Nat := 10
/-- Longest continuous drive of a channel output (R76). -/
def driveLimit : Time := 3000
/-- Time of one row write (R166). -/
def writeTime : Time := 6
/-- Shortest assertion of the reset line that resets, in microseconds (R160). -/
def resetMicros : Nat := 100
/-- Settle time of a plant output after a change of its commanded state (R152). -/
def settleTime : Time := 100
/-- ON and OFF time of sounder stage 1 (R145). -/
def stage1Phase : Time := 1000
/-- ON and OFF time of sounder stage 2 (R145). -/
def stage2Phase : Time := 250
/-- Format marker of row 0 (R183). -/
def formatMarker : Nat := 0xC46E
/-- Released marker of row 12 (R183). -/
def releasedMarker : Nat := 0xA5
/-- End mark of a frame (R182). -/
def endMark : Nat := 0x7E
/-- The bad-frame counter's greatest value (R83). -/
def badFrameMax : Nat := 65535

/-- FREE VALUE. What a row read gives when three or more of its stored bits differ: the data
delivered as CORRECTED, or none for UNCORRECTABLE (R158: "may read as CORRECTED with wrong data, or
as UNCORRECTABLE"; the check code is not given). Arguments: the data as written, the flipped bits. -/
opaque multiBitRead : RowData → List (Fin 128) → Option RowData

/-- FREE VALUE. The holder id a STANDING carries when no reserve holder is configured: the frame has
the field (R84) and no rule gives its value; its bid then shows wanted 0, and a reader does not read
it. Argument: the free-value counter. -/
opaque noHolderId : Nat → NodeId

/-- FREE VALUE. Whether RCL takes a link loss or its holder's absence before the other blocks move
the hall out of AWAIT_SLOT in the same event; R95 and R100 give no order and R128 acts by hall
state. Argument: the free-value counter. -/
opaque rclTakesFirst : Nat → Bool

/-- FREE VALUE. Whether a running time that is no whole number of the view's units is shown rounded
upward; R184 names the unit only. Arguments: the unit and the time. -/
opaque partUnitUp : Nat → Nat → Bool

/-- FREE VALUE. The bits the view shows for a field whose value is absent, where R184 gives no code
for it. Arguments: the snapshot's moment and a key of the field. -/
opaque absentBits : Nat → Nat → Nat

end Sys2Proof.Config
end

