-- ==== Sys2Proof/Machine/State.lean ====
section
/-! DEFINITION. State: every piece of state the spec gives the node, as plain data, the reasons a
step can stop, and the state right after reset. A timer is `none` while stopped and holds the moment
at which it ends while running; a run holds the moment of the sample that began it. -/

namespace Sys2Proof.Machine

/-! ## Field Input Unit (02_field_lines_and_confirmation.md) -/

/-- Class of a zone sample (R31): OPEN, NORMAL, ALARM, SHORT. -/
inductive ZoneClass where
  | openLoop | normal | alarm | shortLoop
deriving DecidableEq, Repr

/-- Kind of a line fault (R33, R153): OPEN or SHORT. -/
inductive LineFault where
  | openLoop | shortLoop
deriving DecidableEq, Repr

/-- Outcome of the last ALARM RESET for a zone (R35). -/
inductive ResetOutcome where
  | none | cleared | refused | notLatched
deriving DecidableEq, Repr

/-- Class of a manual station sample (R36). -/
inductive StationClass where
  | normal | operated | fault
deriving DecidableEq, Repr

/-- Class of a hold switch sample (R38). -/
inductive HoldClass where
  | released | operated | fault
deriving DecidableEq, Repr

/-- Delivered position of the hold switch (R38). -/
inductive HoldPos where
  | released | operated
deriving DecidableEq, Repr

/-- Class of a key sample (R40). -/
inductive KeyClass where
  | normal | isolate | fault
deriving DecidableEq, Repr

/-- Delivered position of the lockout key (R40). -/
inductive KeyPos where
  | normal | isolate
deriving DecidableEq, Repr

/-- Status of the temperature record (R43). -/
inductive TempStatus where
  | ok | outOfRange | openCircuit
deriving DecidableEq, Repr

/-- Status of the hall pressure record (R44). -/
inductive PressStatus where
  | ok | fault
deriving DecidableEq, Repr

/-- A run that acts once: the moment it began, and whether it has acted (R31, R36). -/
structure Run where
  since : Time
  done : Bool
deriving DecidableEq, Repr

/-- Record of one zone line (R29). `sampleAt` is its sample timer. -/
structure ZoneRec where
  cls : Option ZoneClass
  latched : Bool
  isolated : Bool
  fault : Bool
  kind : Option LineFault
  alarmRun : Option Run
  faultRun : Option Time
  normalRun : Option Time
  lastReset : ResetOutcome
  sampleAt : Time
deriving DecidableEq, Repr

/-- Record of the manual release station (R29). -/
structure StationRec where
  cls : Option StationClass
  opRun : Option Run
  faultRun : Option Time
  recRun : Option Time
  fault : Bool
  sampleAt : Time
deriving DecidableEq, Repr

/-- Record of the hold switch (R29). -/
structure HoldRec where
  cls : Option HoldClass
  changeRun : Option Time
  faultRun : Option Time
  recRun : Option Time
  delivered : HoldPos
  fault : Bool
  sampleAt : Time
deriving DecidableEq, Repr

/-- Record of the lockout key (R29). -/
structure KeyRec where
  cls : Option KeyClass
  changeRun : Option Time
  faultRun : Option Time
  recRun : Option Time
  delivered : KeyPos
  fault : Bool
  sampleAt : Time
deriving DecidableEq, Repr

/-- Record of the hall temperature (R43). -/
structure TempRec where
  value : Option Int
  status : TempStatus
  sampleAt : Time
deriving DecidableEq, Repr

/-- Record of the hall differential pressure (R44). -/
structure PressRec where
  value : Option Int
  status : PressStatus
  sampleAt : Time
deriving DecidableEq, Repr

/-- The Field Input Unit's records (R29). -/
structure Fiu where
  zoneA : ZoneRec
  zoneB : ZoneRec
  station : StationRec
  hold : HoldRec
  key : KeyRec
  temp : TempRec
  press : PressRec
deriving DecidableEq, Repr

/-! ## Hall Sequencer (01_hall_release_sequence.md) -/

/-- How the current event was confirmed (R1). -/
inductive Cause where
  | none | crossZone | degraded | manual
deriving DecidableEq, Repr

/-- Status of an own firing list entry (R1). -/
inductive FireStatus where
  | pending | confirmed | failed
deriving DecidableEq, Repr

/-- The sequencer's view of the reserve (R1). -/
inductive ReservePhase where
  | none | opened | resolved
deriving DecidableEq, Repr

/-- Outcome of the reserve phase (R18). -/
inductive ReserveOutcome where
  | none | fed | yielded | lapsed | lost
deriving DecidableEq, Repr

/-- The countdown: not running (remaining 0), running towards its end, or held with time left (R1). -/
inductive Countdown where
  | off
  | running (ends : Time)
  | held (left : Time)
deriving DecidableEq, Repr

/-- The sequencer's record (R1), with the outcome it records of the reserve phase (R18, R186). -/
structure Hsq where
  hall : HallState
  mode : Mode
  countdown : Countdown
  latchedA : Bool
  latchedB : Bool
  faultA : Bool
  faultB : Bool
  adjacent : Bool
  cause : Cause
  manualOverride : Bool
  degraded : Option Time
  epoReached : Bool
  firing : List (ChanId × FireStatus)
  reservePhase : ReservePhase
  reserveOutcome : ReserveOutcome
  duration : Option Time
  elapsed : Bool
  soak : Option Time
deriving DecidableEq, Repr

/-! ## Agent Planner (03_agent_demand_and_the_release_plan.md) -/

/-- Stage of the plan record (R47). -/
inductive PlanStage where
  | none | planned | replanned
deriving DecidableEq, Repr

/-- How the latched temperature was obtained (R50). -/
inductive TempSource where
  | sensor | clamped | default
deriving DecidableEq, Repr

/-- The release plan record (R47). -/
structure Apl where
  stage : PlanStage
  temp : Int
  source : TempSource
  s8 : Nat
  w : Nat
  wd : Nat
  readyCount : Nat
  nOwn : Nat
  nRes : Nat
  wp : Nat
  m : Nat
  ca : Nat
  ownConfirmed : Nat
  resConfirmed : Nat
  short : Bool
  low : Bool
  tempDefault : Bool
  noReserve : Bool
  evaluated : Bool
deriving DecidableEq, Repr

/-! ## Valve Channel Unit (04_valve_channels_and_the_pulse_arbiter.md) -/

/-- Role of a channel (R63). -/
inductive Role where
  | unused | hall | reserve
deriving DecidableEq, Repr

/-- State of a channel (R63). -/
inductive ChanState where
  | ready | low | committed | queued | firing | spent | failed | isolated
deriving DecidableEq, Repr

/-- Owner of a pulse (R63). -/
inductive Requester where
  | none | hsq | rva
deriving DecidableEq, Repr

/-- Record of one valve channel (R63). `selfDriven` and `currentSince` are what the drive monitor of
R76 reads back: whether the driver draws current of its own accord, and since when current flows. -/
structure Channel where
  role : Role
  state : ChanState
  pressure : Nat
  committedTo : Option NodeId
  requester : Requester
  feedGrantee : Option NodeId
  flowSeen : Bool
  window : Option Time
  driveCut : Bool
  selfDriven : Bool
  currentSince : Option Time
  readAt : Time
deriving DecidableEq, Repr

/-- Hall pressure deferral (R73). -/
inductive Deferral where
  | inactive | active | waived
deriving DecidableEq, Repr

/-- State of the selector valve (section 4.8). -/
inductive SelState where
  | closed | opening | opened | closing | jammed
deriving DecidableEq, Repr

/-- Reading of the selector's limit switches (section 4.8). -/
inductive SelReading where
  | closed | opened | moving | fault
deriving DecidableEq, Repr

/-- Drive of the selector motor (section 4.8). -/
inductive SelDrive where
  | off | driveOpen | driveClose
deriving DecidableEq, Repr

/-- The selector record (section 4.8). -/
structure Selector where
  state : SelState
  reading : SelReading
  travel : Option Time
  drive : SelDrive
  readAt : Time
deriving DecidableEq, Repr

/-- The channel table and the unit record of VCU (R63). -/
structure Vcu where
  channels : Vector Channel 12
  queue : List ChanId
  outputOn : Option ChanId
  lastStart : Option Time
  pulseEnd : Option Time
  stagger : Option Time
  deferral : Deferral
  deferTimer : Option Time
  selector : Selector
deriving DecidableEq, Repr

/-! ## Link Controller (05_the_hall_link.md) -/

/-- Link state (R92). -/
inductive LinkState where
  | listen | joined | lost
deriving DecidableEq, Repr

/-- Content of a BID after its source id (R84). -/
structure BidContent where
  holder : NodeId
  wanted : Nat
  cls : BidClass
deriving DecidableEq, Repr

/-- An answer of the answer list, and the content of a FED after its source id (R84, R119). -/
structure Answer where
  grantee : NodeId
  confirmed : Nat
  failed : Nat
  outcome : FedOutcome
deriving DecidableEq, Repr

/-- The outbox: one place for each kind (R89). A waiting STANDING has no content until its offer
(R85). -/
structure Outbox where
  fed : Option Answer
  wayopen : Option (NodeId × Nat)
  yieldTo : Option NodeId
  ventfree : Option Nat
  bid : Option BidContent
  vent : Option Nat
  standing : Bool
deriving DecidableEq, Repr

/-- One peer-table entry (R98). `lastHeard` gives its age; `presence` is its presence timer (R100). -/
structure Peer where
  present : Bool
  lastHeard : Option Time
  presence : Option Time
  hall : Option HallState
  mode : Option Mode
  lockout : Bool
  short : Bool
  low : Bool
  trouble : Bool
  ventGroup : Nat
  ventStatus : VentStatus
  bidHolder : NodeId
  wanted : Nat
  cls : BidClass
  holderPart : Option HolderPart
deriving DecidableEq, Repr

/-- The link record (R92), the outbox, the frame in flight (R82) and the peer table (R98). `dropped` is
the frame that was in flight at the last entry to LOST, whose echo may still be heard there (R94, R96;
log 46); it counts only in LOST. -/
structure Lkc where
  link : LinkState
  listen : Option Time
  silence : Option Time
  placement : Option Time
  status : Option Time
  clash : Bool
  badFrames : Nat
  outbox : Outbox
  inFlight : Option Frame
  dropped : Option Frame
  peers : Vector Peer 16
deriving DecidableEq, Repr

/-! ## Reserve Arbiter and Reserve Client (06_reserve_bank_bids_grants_and_feeds.md) -/

/-- Whether a WAYOPEN of the claimant waits or runs (R104). -/
inductive FeedTaken where
  | no | waiting | running
deriving DecidableEq, Repr

/-- One bid-queue entry (R104). -/
structure BidEntry where
  node : NodeId
  cls : BidClass
  wanted : Nat
  granted : Nat
  inFeed : Nat
  fed : Nat
  hold : Option Time
  taken : FeedTaken
deriving DecidableEq, Repr

/-- Status of a place of a feed (R116). -/
inductive PlaceStatus where
  | pending | confirmed | failed | cancelled
deriving DecidableEq, Repr

/-- One place of the current feed (R116). -/
structure Place where
  channel : ChanId
  status : PlaceStatus
deriving DecidableEq, Repr

/-- The feed record (R116), with the orphaned mark of R113 and the channels requested within the
feed (R117). -/
structure Feed where
  grantee : NodeId
  places : List Place
  confirmed : Nat
  failed : Nat
  cancelledSeen : Bool
  orphaned : Bool
  used : List ChanId
deriving DecidableEq, Repr

/-- The Reserve Arbiter's state (R104). -/
structure Rva where
  bids : List BidEntry
  feedQueue : List (NodeId × Nat)
  feed : Option Feed
  answers : List Answer
deriving DecidableEq, Repr

/-- State of the node's own bid (R120). -/
inductive BidState where
  | none | held | queued | placed
deriving DecidableEq, Repr

/-- Progress of the reserve in DISCHARGING (R120). -/
inductive FeedPhase where
  | idle | waitingGrant | opening | requested | done
deriving DecidableEq, Repr

/-- Outcome of the last FED that answered a WAYOPEN (R120). -/
inductive LastAnswer where
  | none | complete | part | lapsed | refused
deriving DecidableEq, Repr

/-- The reserve wait (R120, R127). -/
inductive ReserveWait where
  | stopped
  | running (ends : Time)
  | expired
deriving DecidableEq, Repr

/-- The Reserve Client's record (R120). `rebid` marks a bid to be placed again after a loss of the
holder (R128). -/
structure Rcl where
  bid : BidState
  n : Nat
  grantHeard : Nat
  phase : FeedPhase
  asked : Nat
  fed : Nat
  lastAnswer : LastAnswer
  flowTaken : Bool
  wait : ReserveWait
  feedTimeout : Option Time
  flowTimer : Option Time
  closePending : Bool
  outcome : ReserveOutcome
  rebid : Bool
deriving DecidableEq, Repr

/-! ## Vent Slot Unit (07_vent_slots.md) -/

/-- State of the node's own VENT (R131). -/
inductive OwnVent where
  | none | held | queued | placed
deriving DecidableEq, Repr

/-- The VSU record (R131). -/
structure Vsu where
  queue : List NodeId
  own : OwnVent
  sought : Bool
  slotWait : Option Time
  status : VentStatus
deriving DecidableEq, Repr

/-! ## Plant Output Unit (08_plant_outputs_and_annunciation.md) -/

/-- Sounder stage (R143). -/
inductive Stage where
  | off | stage1 | stage2 | stage3
deriving DecidableEq, Repr

/-- Supervision record of one output (R143). -/
structure SupRec where
  cls : Option SupClass
  faultRun : Option Time
  recRun : Option Time
  inFault : Bool
  kind : Option LineFault
  settle : Option Time
  readAt : Time
deriving DecidableEq, Repr

/-- The POU record (R143). Relays and contacts are `true` when energised; output trouble is computed
from the in-fault marks. -/
structure Pou where
  stage : Stage
  patternOn : Bool
  patternEnd : Option Time
  strobe : Bool
  sign : Bool
  hvac : Bool
  damper : Bool
  epo : Bool
  released : Bool
  troubleClosed : Bool
  attn : Bool
  sup : Vector SupRec 8
deriving DecidableEq, Repr

/-! ## Configuration Store (09_configuration_store_and_start_up.md) -/

/-- Start-up progress (R157). -/
inductive Phase where
  | load | validate | run
deriving DecidableEq, Repr

/-- Check result of a row (R158). -/
inductive RowResult where
  | clean | corrected | uncorrectable
deriving DecidableEq, Repr

/-- Outcome of VALIDATE (R157). -/
inductive Validation where
  | valid | invalid
deriving DecidableEq, Repr

/-- The checks of VALIDATE, in the order of R162's table. -/
inductive Check where
  | rowUncorrectable | format | notCommissioned | digest | fieldRange | relation | specificVolume
  | roleCount | holderWithoutBank
deriving DecidableEq, Repr

/-- State of the release record (R157). -/
inductive ReleaseState where
  | clear | released | unreadable
deriving DecidableEq, Repr

/-- The release record (R157). -/
structure ReleaseRec where
  state : ReleaseState
  hallId : Nat
  wd : Nat
  nOwn : Nat
  nRes : Nat
deriving DecidableEq, Repr

/-- The three kinds of row write (R165). -/
inductive WriteKind where
  | config | release | erase
deriving DecidableEq, Repr

/-- The row write in flight (R157, R166). -/
structure RowWrite where
  row : RowId
  kind : WriteKind
  data : RowData
  ends : Time
deriving DecidableEq, Repr

/-- A stored row: the data as last written, whether it is void (R166), and the stored bits that have
flipped since (R158). -/
structure Row where
  data : RowData
  void : Bool
  flips : List (Fin 128)
deriving DecidableEq, Repr

/-- Kind of the last reset (R160). -/
inductive ResetCause where
  | power | line | command
deriving DecidableEq, Repr

/-- The working configuration: the fields of rows 0 to 10 (R159). Times stand in the unit of the
table. The vent group is 0 for none. -/
structure Cfg where
  hallId : Nat
  period : Nat
  volume : Nat
  concentration : Nat
  factor : Nat
  k1 : Nat
  k2 : Nat
  tmin : Int
  tmax : Int
  mh : Nat
  mr : Nat
  roles : Vector Role 12
  countdown : Nat
  manualCountdown : Nat
  holdRestart : Nat
  degradedDelay : Nat
  epoEnable : Bool
  epoLead : Nat
  duration : Nat
  soak : Nat
  verifyA : Nat
  verifyB : Nat
  neighbours : Nat
  ventGroup : Nat
  ventCapacity : Nat
  slotWait : Nat
  fullThreshold : Nat
  pulse : Nat
  stagger : Nat
  window : Nat
  pressureLimit : Nat
  resumeThreshold : Nat
  deferLimit : Nat
  selectorTime : Nat
  holder : Option NodeId
  cls : BidClass
  reserveWait : Nat
  feedTimeout : Nat
  grantHold : Nat
deriving DecidableEq, Repr

/-- The store's record beside and with its rows (R157). `kept` is the data LOAD kept of the rows it has
read (R161). -/
structure Cfs where
  rows : Vector Row 13
  phase : Phase
  rowResult : Vector (Option RowResult) 13
  kept : Vector (Option RowData) 13
  validation : Validation
  findings : List (Check × Nat)
  serial : Nat
  cfg : Cfg
  release : ReleaseRec
  busy : Option RowWrite
  releasePending : Option RowData
  configPending : Bool
  nodeId : NodeId
  cause : ResetCause
  releaseTrouble : Bool
deriving DecidableEq, Repr

/-! ## Service Port (10_service_port.md) -/

/-- Transaction of the port (R172). -/
inductive Transaction where
  | idle | addressedWrite | addressedRead
deriving DecidableEq, Repr

/-- The commands a result record can name (R172, R185). -/
inductive Command where
  | none | snap | alarmReset | clearRelease | restart | storeReadRow | storeWriteRow
deriving DecidableEq, Repr

/-- Result of a command (R172). -/
inductive CmdResult where
  | none | accepted | done | busy | refused
deriving DecidableEq, Repr

/-- Operation of the store control byte (R172). -/
inductive StoreOp where
  | read | write
deriving DecidableEq, Repr

/-- The SVP record (R172). `code` is the command code byte as last taken (R175); `flags` holds the four
bytes of the sticky flags area, byte 0x1F lowest. `expectIndex`, `nacked` and `out` belong to the
transaction in progress (R173): the index byte is awaited, a byte was not acknowledged, the bytes
returned so far. `awaiting` is the command count of the accepted command whose completion the store
will report (R180). -/
structure Svp where
  index : Nat
  pointers : Vector Nat 8
  autoSnap : Bool
  counterTaken : Bool
  flags : BitVec 32
  param : Byte
  code : Byte
  command : Command
  result : CmdResult
  count : Nat
  rowNumber : Byte
  op : StoreOp
  enable : Bool
  startBit : Bool
  rowResult : Option RowResult
  buffer : RowData
  transaction : Transaction
  expectIndex : Bool
  nacked : Bool
  out : List Nat
  awaiting : Option Nat
deriving DecidableEq, Repr

/-! ## The node and the machine's state -/

/-- Everything that stands in the node now. `now` is the clock, `free` the model's counter for free
values; `supplyLow` and `lineHeld` are the lasting causes of a reset: the supply is below its threshold,
the reset line is asserted (R160). -/
structure Node where
  now : Time
  free : Nat
  supplyLow : Bool
  lineHeld : Bool
  fiu : Fiu
  hsq : Hsq
  apl : Apl
  vcu : Vcu
  lkc : Lkc
  rva : Rva
  rcl : Rcl
  vsu : Vsu
  pou : Pou
  cfs : Cfs
  svp : Svp
deriving DecidableEq, Repr

/-- The machine's state: the node, the service port's snapshot of it (R175), and the queue of
commands that wait, first in, first out. -/
structure State where
  node : Node
  snapshot : Node
  pending : List Instr
deriving DecidableEq, Repr

/-- Why a step would stop with a fault. The spec gives every event of the block an effect, so no
meaning raises one: the type has no constructor, and no statement can be weakened by one (safe). -/
inductive Fault where
deriving DecidableEq, Repr

/-- Why a step would be refused. -/
inductive Refusal where
  /-- Raised by an arm of `exec` for a command without a meaning, by its mnemonic; no arm raises it.
  A refusal stops the run where the hardware goes on, so it is safe. -/
  | notModelled (mnemonic : String)
deriving DecidableEq, Repr

/-! ## Values after a reset -/

/-- A zone record after reset (R29). -/
def ZoneRec.start (now : Time) : ZoneRec :=
  { cls := none, latched := false, isolated := false, fault := false, kind := none,
    alarmRun := none, faultRun := none, normalRun := none, lastReset := .none, sampleAt := now }

/-- The FIU records after reset (R29). -/
def Fiu.start (now : Time) : Fiu :=
  { zoneA := .start now, zoneB := .start now,
    station := { cls := none, opRun := none, faultRun := none, recRun := none, fault := false,
                 sampleAt := now },
    hold := { cls := none, changeRun := none, faultRun := none, recRun := none,
              delivered := .released, fault := false, sampleAt := now },
    key := { cls := none, changeRun := none, faultRun := none, recRun := none,
             delivered := .isolate, fault := false, sampleAt := now },
    temp := { value := none, status := .openCircuit, sampleAt := now },
    press := { value := none, status := .fault, sampleAt := now } }

/-- The sequencer's record after reset (R1). DESIGN CHOICE (log 7): mode NORMAL until VALIDATE, hall QUIET
until row 12 is read. -/
def Hsq.start : Hsq :=
  { hall := .quiet, mode := .normal, countdown := .off, latchedA := false, latchedB := false,
    faultA := false, faultB := false, adjacent := false, cause := .none, manualOverride := false,
    degraded := none, epoReached := false, firing := [], reservePhase := .none,
    reserveOutcome := .none, duration := none, elapsed := false, soak := none }

/-- The plan record after reset (R47). -/
def Apl.start : Apl :=
  { stage := .none, temp := 0, source := .sensor, s8 := 0, w := 0, wd := 0, readyCount := 0,
    nOwn := 0, nRes := 0, wp := 0, m := 0, ca := 0, ownConfirmed := 0, resConfirmed := 0,
    short := false, low := false, tempDefault := false, noReserve := false, evaluated := false }

/-- A channel record after reset (R63). DESIGN CHOICE (log 7): role UNUSED, state ISOLATED and
pressure 0 until the entry to RUN builds them. DESIGN CHOICE (log 52): no driver draws of its own accord
once a reset has released the cuts (R79). -/
def Channel.start (now : Time) : Channel :=
  { role := .unused, state := .isolated, pressure := 0, committedTo := none, requester := .none,
    feedGrantee := none, flowSeen := false, window := none, driveCut := false, selfDriven := false,
    currentSince := none, readAt := now }

/-- VCU after reset (R63, R79). DESIGN CHOICE (log 7): the selector's state and
its latest reading are CLOSED until its first reading. -/
def Vcu.start (now : Time) : Vcu :=
  { channels := .replicate 12 (.start now), queue := [], outputOn := none, lastStart := none,
    pulseEnd := none, stagger := none, deferral := .inactive, deferTimer := none,
    selector := { state := .closed, reading := .closed, travel := none, drive := .off,
                  readAt := now } }

/-- An empty outbox (R89). -/
def Outbox.empty : Outbox :=
  { fed := none, wayopen := none, yieldTo := none, ventfree := none, bid := none, vent := none,
    standing := false }

/-- A peer-table entry after reset (R98). DESIGN CHOICE (log 7): the holder id and class of its empty
bid. -/
def Peer.start : Peer :=
  { present := false, lastHeard := none, presence := none, hall := none, mode := none,
    lockout := false, short := false, low := false, trouble := false, ventGroup := 0,
    ventStatus := .none, bidHolder := 0, wanted := 0, cls := .ordinary, holderPart := none }

/-- LKC after reset, before it starts at the entry to RUN (R92). -/
def Lkc.start : Lkc :=
  { link := .listen, listen := none, silence := none, placement := none, status := none,
    clash := false, badFrames := 0, outbox := .empty, inFlight := none, dropped := none,
    peers := .replicate 16 .start }

/-- RVA after reset (R104). -/
def Rva.start : Rva := { bids := [], feedQueue := [], feed := none, answers := [] }

/-- The RCL record after reset (R120). -/
def Rcl.start : Rcl :=
  { bid := .none, n := 0, grantHeard := 0, phase := .idle, asked := 0, fed := 0,
    lastAnswer := .none, flowTaken := false, wait := .stopped, feedTimeout := none,
    flowTimer := none, closePending := false, outcome := .none, rebid := false }

/-- The VSU record after reset (R131). -/
def Vsu.start : Vsu :=
  { queue := [], own := .none, sought := false, slotWait := none, status := .none }

/-- The POU record after reset (R143). -/
def Pou.start (now : Time) : Pou :=
  { stage := .off, patternOn := false, patternEnd := none, strobe := false, sign := false,
    hvac := false, damper := false, epo := false, released := false, troubleClosed := false,
    attn := false,
    sup := .replicate 8 { cls := none, faultRun := none, recRun := none, inFault := false,
                          kind := none, settle := none, readAt := now } }

/-- The FALLBACK working configuration with the given roles and hall id (R2, R30, R64, R92, R163);
fields no block uses in FALLBACK are 0 (R184). -/
def Cfg.fallback (roles : Vector Role 12) (hallId : Nat) : Cfg :=
  { hallId := hallId, period := 1000, volume := 0, concentration := 0, factor := 0, k1 := 0, k2 := 0,
    tmin := 0, tmax := 0, mh := 0, mr := 0, roles := roles, countdown := 0, manualCountdown := 30,
    holdRestart := 0, degradedDelay := 0, epoEnable := false, epoLead := 0, duration := 60,
    soak := 600, verifyA := 2000, verifyB := 2000, neighbours := 0, ventGroup := 0,
    ventCapacity := 0, slotWait := 0, fullThreshold := 90, pulse := 1000, stagger := 2000,
    window := 5000, pressureLimit := 400, resumeThreshold := 250, deferLimit := 30,
    selectorTime := 40, holder := none, cls := .ordinary, reserveWait := 0, feedTimeout := 0,
    grantHold := 0 }

/-- The store after reset (R157): its rows are kept. DESIGN CHOICE (log 7): the serial, validation
result, working configuration and release record until LOAD and VALIDATE give them. -/
def Cfs.start (rows : Vector Row 13) (nodeId : NodeId) (cause : ResetCause) : Cfs :=
  { rows := rows, phase := .load, rowResult := .replicate 13 none, kept := .replicate 13 none,
    validation := .valid, findings := [], serial := 0, cfg := .fallback (.replicate 12 .unused) 0,
    release := { state := .clear, hallId := 0, wd := 0, nOwn := 0, nRes := 0 },
    busy := none, releasePending := none, configPending := false, nodeId := nodeId,
    cause := cause, releaseTrouble := false }

/-- The SVP record after reset (R172). DESIGN CHOICE (log 48): the command code byte reads 0. -/
def Svp.start : Svp :=
  { index := 0, pointers := .replicate 8 0, autoSnap := true, counterTaken := false, flags := 0,
    param := 0, code := 0, command := .none, result := .none, count := 0, rowNumber := 0, op := .read,
    enable := false, startBit := false, rowResult := none, buffer := .replicate 14 0,
    transaction := .idle, expectIndex := false, nacked := false, out := [], awaiting := none }

/-- The node right after a reset with the given cause: every record at its value after reset; only
the clock, the free-value counter and the rows go on, and no lasting cause holds the part. -/
def Node.start (now : Time) (free : Nat) (rows : Vector Row 13) (nodeId : NodeId)
    (cause : ResetCause) : Node :=
  { now := now, free := free, supplyLow := false, lineHeld := false, fiu := .start now, hsq := .start,
    apl := .start, vcu := .start now, lkc := .start, rva := .start, rcl := .start, vsu := .start,
    pou := .start now, cfs := .start rows nodeId cause, svp := .start }

/-- A sound row with the given data. -/
def Row.sound (data : RowData) : Row := { data := data, void := false, flips := [] }

/-- The contents of a new part (R159, "shipped"; R183 for the bytes). -/
def shippedRows : Vector Row 13 :=
  #v[.sound #v[0x6E, 0xC4, 0, 0, 0xE8, 0x03, 0, 0, 0, 0, 0, 0, 0, 0],
     .sound #v[0xE8, 0x03, 0xBC, 0x02, 120, 0, 0, 0, 0, 0, 0, 0, 0, 0],
     .sound #v[0xE0, 0x2E, 0xC0, 0x12, 100, 0, 0x5E, 0x01, 0, 0, 0, 0, 0, 0],
     .sound #v[0xE8, 0x03, 0xE8, 0x03, 0, 0, 0, 0, 0, 0, 0, 0, 0, 0],
     .sound #v[0, 0, 0, 0, 0, 0, 0, 0, 0, 0, 0, 0, 0, 0],
     .sound #v[30, 10, 20, 60, 0, 0, 10, 0, 0, 0, 0, 0, 0, 0],
     .sound #v[60, 0x58, 0x02, 0xD0, 0x07, 0xD0, 0x07, 0, 0, 0, 0, 0, 0, 0],
     .sound #v[0, 0, 0, 1, 90, 0, 0, 0, 0, 0, 0, 0, 0, 0],
     .sound #v[90, 0xE8, 0x03, 0xD0, 0x07, 0x88, 0x13, 0, 0, 0, 0, 0, 0, 0],
     .sound #v[0x90, 0x01, 250, 0, 30, 40, 0, 0, 0, 0, 0, 0, 0, 0],
     .sound #v[0xFF, 0, 120, 0, 60, 0, 180, 0, 0, 0, 0, 0, 0, 0],
     .sound #v[0, 0, 0xC7, 0x12, 0, 0, 0, 0, 0, 0, 0, 0, 0, 0],
     .sound #v[0, 0, 0, 0, 0, 0, 0, 0, 0, 0, 0, 0, 0, 0]]

/-- The machine right after a power-on reset of a shipped part: LOAD is about to run. DESIGN CHOICE
(log 6): power-on, shipped rows, straps 0, clock 0. -/
def State.reset : State :=
  let n := Node.start 0 0 shippedRows 0 .power
  { node := n, snapshot := n, pending := [] }

end Sys2Proof.Machine
end

