-- ==== Sys2Proof/Machine/Operands.lean ====
section
/-! DEFINITION. Operands: the class each reading is put into. -/

namespace Sys2Proof.Machine

/-- Class of a zone current in 0.1 mA (R31; a reading above 600 is taken as 600, and is SHORT). -/
def zoneClass (current : Nat) : ZoneClass :=
  if current < 20 then .openLoop else if current < 120 then .normal
  else if current < 400 then .alarm else .shortLoop

/-- Class of a manual station current in 0.1 mA (R36). -/
def stationClass (current : Nat) : StationClass :=
  if current < 20 then .fault else if current < 120 then .normal
  else if current < 400 then .operated else .fault

/-- Class of a hold switch current in 0.1 mA (R38). -/
def holdClass (current : Nat) : HoldClass :=
  if current < 20 then .fault else if current < 120 then .released
  else if current < 400 then .operated else .fault

/-- The position a hold switch class counts as: FAULT counts as RELEASED (R38). -/
def HoldClass.counted : HoldClass → HoldPos
  | .operated => .operated
  | .released => .released
  | .fault => .released

/-- Class of the key's two contacts (R40). -/
def keyClass (normalMade isolateMade : Bool) : KeyClass :=
  match normalMade, isolateMade with
  | true, false => .normal
  | false, true => .isolate
  | true, true => .fault
  | false, false => .fault

/-- The position a key class counts as: FAULT counts as ISOLATE (R40). -/
def KeyClass.counted : KeyClass → KeyPos
  | .normal => .normal
  | .isolate => .isolate
  | .fault => .isolate

/-- The fault kind an OPEN or SHORT zone sample records (R33). -/
def ZoneClass.faultKind? : ZoneClass → Option LineFault
  | .openLoop => some .openLoop
  | .shortLoop => some .shortLoop
  | .normal => none
  | .alarm => none

/-- The fault kind an OPEN or SHORT supervision read records (R153). -/
def supFaultKind? : SupClass → Option LineFault
  | .openLine => some .openLoop
  | .shortLine => some .shortLoop
  | .normal => none

/-- Status of a temperature read (R43). -/
def tempStatus : Option Int → TempStatus
  | none => .openCircuit
  | some t => if -400 ≤ t ∧ t ≤ 850 then .ok else .outOfRange

/-- Status of a hall pressure read (R44). -/
def pressStatus (p : Int) : PressStatus := if -500 ≤ p ∧ p ≤ 3000 then .ok else .fault

/-- Class of a cylinder pressure read (R65). -/
inductive PressureClass where
  | fit | low | empty
deriving DecidableEq, Repr

/-- Class of a cylinder pressure in percent against the full threshold (R65). -/
def pressureClass (full reading : Nat) : PressureClass :=
  if full ≤ reading then .fit
  else if Config.emptyThreshold ≤ reading then .low else .empty

/-- Reading of the two limit switches (section 4.8). -/
def selReading (openMade closedMade : Bool) : SelReading :=
  match openMade, closedMade with
  | true, false => .opened
  | false, true => .closed
  | false, false => .moving
  | true, true => .fault

/-- Index of a supervised output, in the order of R184. -/
def supIdx : SupOutput → Fin 8
  | .sounder => 0 | .strobe => 1 | .sign => 2 | .hvac => 3
  | .damper => 4 | .epo => 5 | .trouble => 6 | .released => 7

/-- All supervised outputs, in the order of R184. -/
def allOutputs : List SupOutput :=
  [.sounder, .strobe, .sign, .hvac, .damper, .epo, .trouble, .released]

/-- The checks in the order of R162's table. -/
def allChecks : List Check :=
  [.rowUncorrectable, .format, .notCommissioned, .digest, .fieldRange, .relation, .specificVolume,
   .roleCount, .holderWithoutBank]

end Sys2Proof.Machine
end

