-- ==== Sys2Proof/Machine/Flags.lean ====
section
/-! DEFINITION. Flags: the 24 sticky flags (R177, places by R184) and the trouble conditions (R46,
R81, R101, R153, R171) with their aggregate (R150). -/

namespace Sys2Proof.Machine

/-- The 24 sticky flags (R177). -/
inductive Flag where
  | confirmed | degradedConfirm | holdIgnored | manualIgnored | released | ventForced
  | isolatedRelease | tempDefault | short | low | cylLow | pressureForced | pressureSensorFault
  | groupFailed | driveFault | selectorJam | linkLost | idClash | holderLost | feedLost
  | outputFault | secCorrected | configInvalid | releaseRowLost
deriving DecidableEq, Repr

/-- Bit of a flag in the four bytes 0x1F..0x22, byte 0x1F lowest (R184). -/
def Flag.bit : Flag → Fin 32
  | .confirmed => 0 | .degradedConfirm => 1 | .holdIgnored => 2 | .manualIgnored => 3
  | .released => 4 | .ventForced => 5 | .isolatedRelease => 6 | .tempDefault => 7
  | .short => 8 | .low => 9 | .cylLow => 10 | .pressureForced => 12
  | .pressureSensorFault => 13 | .groupFailed => 14 | .driveFault => 15
  | .selectorJam => 16 | .linkLost => 17 | .idClash => 18 | .holderLost => 19 | .feedLost => 20
  | .outputFault => 21 | .secCorrected => 22 | .configInvalid => 23 | .releaseRowLost => 24

/-- Whether a sticky flag is set. -/
def Node.flag (n : Node) (f : Flag) : Bool := n.svp.flags.getLsb f.bit

/-- Set a sticky flag; a flag already set stays set (R177). -/
def Node.setFlag (n : Node) (f : Flag) : Node :=
  { n with svp.flags := n.svp.flags ||| BitVec.twoPow 32 f.bit }

/-- Set a sticky flag when a condition holds. -/
def Node.setFlagIf (n : Node) (c : Bool) (f : Flag) : Node := if c then n.setFlag f else n

/-- Clear the flags that the one bits of a byte name, in byte k of the sticky flags area (R177). -/
def Node.clearFlags (n : Node) (k : Nat) (byte : Byte) : Node :=
  { n with svp.flags := n.svp.flags &&& ~~~ ((byte.setWidth 32) <<< (8 * k)) }

/-- Whether any channel meets a condition. -/
def Vcu.anyChan (v : Vcu) (p : Channel → Bool) : Bool := allChans.any (fun c => p (v.channels.get c))

/-- The trouble conditions of every block, in the order of R184's status bytes 0x0A and 0x0B. -/
def Node.troubles (n : Node) : List Bool :=
  let run := decide (n.cfs.phase = .run)
  [n.fiu.zoneA.fault, n.fiu.zoneB.fault, n.fiu.station.fault, n.fiu.hold.fault, n.fiu.key.fault,
   -- TEMP_FAULT and HALL_PRESSURE_FAULT stand by the reads, which start at RUN (R43, R44, R46)
   run && decide (n.fiu.temp.status ≠ .ok),
   run && decide (n.fiu.press.status ≠ .ok),
   -- CYLINDER_TROUBLE, SELECTOR_TROUBLE, DRIVE_TROUBLE (R81)
   n.vcu.anyChan (fun c => decide (c.role ≠ .unused) && (decide (c.state = .low) || decide (c.state = .failed))),
   decide (n.vcu.selector.state = .jammed),
   n.vcu.anyChan Channel.driveCut,
   -- LINK_TROUBLE (R101)
   decide (n.lkc.link = .lost),
   -- OUTPUT_TROUBLE (R153)
   allOutputs.any (fun o => (n.pou.sup.get (supIdx o)).inFault),
   -- CONFIG_TROUBLE, RELEASE_RECORD_TROUBLE (R171)
   run && decide (n.hsq.mode = .fallback),
   n.cfs.releaseTrouble]

/-- The trouble aggregate (R150). -/
def Node.trouble (n : Node) : Bool := n.troubles.any id

end Sys2Proof.Machine
end

