-- ==== Sys2Proof/Machine/Ops.lean ====
section
/-! DEFINITION. Ops: the named reads and writes of the node's records that every family uses. -/

namespace Sys2Proof.Machine

/-- Replace every element of a vector by a function of it. -/
def mapVec {α : Type} {k : Nat} (f : α → α) (v : Vector α k) : Vector α k :=
  Vector.ofFn (fun i => f (v.get i))

/-- A reset cause holds the part: the supply below its threshold, or the reset line asserted (R160). -/
def Node.held (n : Node) : Bool := n.supplyLow || n.lineHeld

/-- The part is in RUN and no reset cause holds it (R160, R161). -/
def Node.running (n : Node) : Bool := !n.held && decide (n.cfs.phase = .run)

/-- A running timer whose end has come. -/
def due (now : Time) (timer : Option Time) : Bool :=
  match timer with
  | none => false
  | some t => decide (t ≤ now)

/-- Time left on a timer; 0 when stopped. -/
def timeLeft (now : Time) (timer : Option Time) : Nat :=
  match timer with
  | none => 0
  | some t => t - now

/-- A run that has lasted at least `len` at a sample taken now (R29). -/
def lasted (now : Time) (run : Option Time) (len : Time) : Bool :=
  match run with
  | none => false
  | some t => decide (t + len ≤ now)

/-- A run after a sample that belongs to it: started when not running. -/
def startRun (now : Time) (run : Option Time) : Option Time :=
  match run with
  | none => some now
  | some t => some t

/-- The node's own id (R160). -/
abbrev Node.id (n : Node) : NodeId := n.cfs.nodeId

/-- The working configuration (R157). -/
abbrev Node.cfg (n : Node) : Cfg := n.cfs.cfg

/-- The key is delivered ISOLATE (R40). -/
def Node.isolate (n : Node) : Bool := decide (n.fiu.key.delivered = .isolate)

/-- The mode is NORMAL. -/
def Node.normal (n : Node) : Bool := decide (n.hsq.mode = .normal)

/-- One channel record. -/
def Node.chan (n : Node) (c : ChanId) : Channel := n.vcu.channels.get c

/-- Replace one channel record. -/
def Node.setChan (n : Node) (c : ChanId) (r : Channel) : Node :=
  { n with vcu.channels := n.vcu.channels.set c r }

/-- Change one channel record. -/
def Node.modChan (n : Node) (c : ChanId) (f : Channel → Channel) : Node := n.setChan c (f (n.chan c))

/-- One peer-table entry. -/
def Node.peer (n : Node) (i : NodeId) : Peer := n.lkc.peers.get i

/-- Replace one peer-table entry. -/
def Node.setPeer (n : Node) (i : NodeId) (p : Peer) : Node :=
  { n with lkc.peers := n.lkc.peers.set i p }

/-- The countdown remaining in ms (R1). -/
def Node.remaining (n : Node) : Nat :=
  match n.hsq.countdown with
  | .off => 0
  | .running ends => ends - n.now
  | .held left => left

/-- The channels in ascending order that meet a condition. -/
def Node.chansWith (n : Node) (p : Channel → Bool) : List ChanId := allChans.filter (fun c => p (n.chan c))

/-- The HALL channels that VCU reports READY, ascending (R16, R54). -/
def Node.readyHall (n : Node) : List ChanId :=
  n.chansWith (fun c => decide (c.role = .hall) && decide (c.state = .ready))

/-- The free RESERVE channels, ascending: role RESERVE and state READY (R107). -/
def Node.freeReserve (n : Node) : List ChanId :=
  n.chansWith (fun c => decide (c.role = .reserve) && decide (c.state = .ready))

/-- The channels committed to a node, ascending (R63). -/
def Node.committedTo (n : Node) (i : NodeId) : List ChanId :=
  n.chansWith (fun c => decide (c.state = .committed) && decide (c.committedTo = some i))

/-- The table holds a RESERVE channel (R85, R103). -/
def Node.hasReserve (n : Node) : Bool := n.vcu.anyChan (fun c => decide (c.role = .reserve))

end Sys2Proof.Machine
end

