-- ==== Sys2Proof/Machine/Outbox.lean ====
section
/-! DEFINITION. Outbox: frames handed to LKC, the two withdrawals, and the return of a frame that was
not placed (R89, R90). -/

namespace Sys2Proof.Machine

/-- In LOST a frame of any kind but STANDING is refused (R89). -/
def Node.refusesFrames (n : Node) : Bool := decide (n.lkc.link = .lost)

/-- The node's own frame of this kind is in flight. -/
def Node.bidInFlight (n : Node) : Bool :=
  match n.lkc.inFlight with
  | some (.bid _ _ _ _) => true
  | _ => false

/-- As `bidInFlight`, for VENT. -/
def Node.ventInFlight (n : Node) : Bool :=
  match n.lkc.inFlight with
  | some (.vent _ _) => true
  | _ => false

/-- As `bidInFlight`, for FED. -/
def Node.fedInFlight (n : Node) : Bool :=
  match n.lkc.inFlight with
  | some (.fed _ _ _ _ _) => true
  | _ => false

/-- Change the outbox. -/
def Node.modOutbox (n : Node) (f : Outbox → Outbox) : Node :=
  { n with lkc.outbox := f n.lkc.outbox }

/-- Hand over a STANDING; while the identity clash stands nothing is queued (R85, R97). -/
def queueStanding (n : Node) : Node :=
  if n.lkc.clash then n else n.modOutbox (fun o => { o with standing := true })

/-- Hand over a BID (R89). -/
def queueBid (b : BidContent) (n : Node) : Node :=
  if n.refusesFrames then n else n.modOutbox (fun o => { o with bid := some b })

/-- Hand over a WAYOPEN (R89). -/
def queueWayopen (holder : NodeId) (count : Nat) (n : Node) : Node :=
  if n.refusesFrames then n else n.modOutbox (fun o => { o with wayopen := some (holder, count) })

/-- Hand over a FED (R89). -/
def queueFed (a : Answer) (n : Node) : Node :=
  if n.refusesFrames then n else n.modOutbox (fun o => { o with fed := some a })

/-- Hand over a VENT (R89). -/
def queueVent (group : Nat) (n : Node) : Node :=
  if n.refusesFrames then n else n.modOutbox (fun o => { o with vent := some group })

/-- Hand over a YIELD: a waiting BID is removed and the YIELD dropped with it (R90). DESIGN CHOICE
(log 14): with an older BID in flight besides, the YIELD joins, as for a BID in flight alone. -/
def queueYield (holder : NodeId) (n : Node) : Node :=
  if n.refusesFrames then n
  else if n.lkc.outbox.bid.isSome && !n.bidInFlight then n.modOutbox (fun o => { o with bid := none })
  else n.modOutbox (fun o => { o with bid := none, yieldTo := some holder })

/-- Hand over a VENTFREE, which acts on this node's VENT in the same ways (R90). -/
def queueVentfree (group : Nat) (n : Node) : Node :=
  if n.refusesFrames then n
  else if n.lkc.outbox.vent.isSome && !n.ventInFlight then n.modOutbox (fun o => { o with vent := none })
  else n.modOutbox (fun o => { o with vent := none, ventfree := some group })

/-- Keep the newer of a waiting frame and a returning one (R89). -/
def newer {α : Type} (waiting : Option α) (returning : α) : Option α :=
  match waiting with
  | some w => some w
  | none => some returning

/-- The outbox after a frame returns to it unplaced: its place is taken again if empty (R89); a
returning BID meets a waiting YIELD, and a returning VENT a waiting VENTFREE, and both go (R90). -/
def returnFrame : Frame → Outbox → Outbox
  | .standing _ _, o => { o with standing := true }
  | .bid _ holder wanted cls, o =>
    if o.yieldTo.isSome then { o with yieldTo := none }
    else { o with bid := newer o.bid { holder := holder, wanted := wanted, cls := cls } }
  | .yield _ holder, o => { o with yieldTo := newer o.yieldTo holder }
  | .wayopen _ holder count, o => { o with wayopen := newer o.wayopen (holder, count) }
  | .fed _ grantee c f out, o =>
    { o with fed := newer o.fed { grantee := grantee, confirmed := c, failed := f, outcome := out } }
  | .vent _ group, o =>
    if o.ventfree.isSome then { o with ventfree := none } else { o with vent := newer o.vent group }
  | .ventfree _ group, o => { o with ventfree := newer o.ventfree group }

/-- Return the frame in flight, if any, to the outbox (R82, R86). -/
def returnInFlight (n : Node) : Node :=
  match n.lkc.inFlight with
  | none => n
  | some f => { n with lkc.inFlight := none, lkc.outbox := returnFrame f n.lkc.outbox }

/-- The outbox holds a frame that may be offered in the present link state: any kind in JOINED,
STANDING alone in LISTEN and LOST, none while the clash stands (R91, R97). -/
def Node.offerable (n : Node) : Bool :=
  let o := n.lkc.outbox
  !n.lkc.clash && (o.standing ||
    (decide (n.lkc.link = .joined) &&
      (o.fed.isSome || o.wayopen.isSome || o.yieldTo.isSome || o.ventfree.isSome || o.bid.isSome
        || o.vent.isSome)))

end Sys2Proof.Machine
end

