-- ==== Sys2Proof/Machine/Valve.lean ====
section
/-! DEFINITION. Valve: the channel table, the pulse queue and its arbiter, the drive monitor, the
deferral and the selector valve (R63 to R81). What VCU tells the owners of a channel is returned as a
list of reports, in the order they arise. -/

namespace Sys2Proof.Machine

/-- Outcome of a pulse request that VCU reports (R75, R67). -/
inductive PulseResult where
  | confirmed | failed | cancelled
deriving DecidableEq, Repr

/-- What VCU reports to the owners of channels: a pulse of HSQ or of RVA resolved (R75), a committed
channel lost (R66, R76), a RESERVE channel entering READY (R108). -/
inductive VReport where
  | own (channel : ChanId) (result : PulseResult)
  | feed (channel : ChanId) (result : PulseResult)
  | uncommitted (node : NodeId)
  | ready
deriving DecidableEq, Repr

/-- The state a channel takes in place of READY: ISOLATED while the key is delivered ISOLATE (R67). -/
def Node.restState (n : Node) : ChanState := if n.isolate then .isolated else .ready

/-- The report to the requester of a pulse (R75). -/
def pulseReport (c : ChanId) (r : Requester) (result : PulseResult) : List VReport :=
  match r with
  | .none => []
  | .hsq => [.own c result]
  | .rva => [.feed c result]

/-- The output of a channel is off: not commanded, and no current read back (R74). -/
def Node.outputDead (n : Node) (c : ChanId) : Bool :=
  decide (n.vcu.outputOn ≠ some c) && (n.chan c).currentSince.isNone

/-- A channel record that leaves the queue or FIRING for `st`: owner, feed and commitment cleared and
the window stopped (R66, R67, R74). -/
def Channel.leave (r : Channel) (st : ChanState) : Channel :=
  { r with state := st, requester := .none, committedTo := none, feedGrantee := none, window := none }

/-- Remove a channel from the pulse queue; the entries behind close up (R69). -/
def dequeue (c : ChanId) (n : Node) : Node := { n with vcu.queue := n.vcu.queue.filter (· ≠ c) }

/-- A FIRING channel leaves FIRING at the first event after which a condition of R74 holds. -/
def resolveFiring (c : ChanId) (n : Node) : Node × List VReport :=
  let r := n.chan c
  if r.state ≠ .firing then (n, [])
  else if r.driveCut then (n.setChan c (r.leave .failed), pulseReport c r.requester .failed)
  else if n.outputDead c && r.flowSeen then
    (n.setChan c (r.leave .spent), pulseReport c r.requester .confirmed)
  else if n.outputDead c && r.window.isNone then
    ((n.setChan c (r.leave .failed)).setFlag .groupFailed, pulseReport c r.requester .failed)
  else (n, [])

/-- A read of class LOW or empty takes a channel to LOW or SPENT (R66). -/
def PressureClass.downState : PressureClass → ChanState
  | .fit => .ready
  | .low => .low
  | .empty => .spent

/-- One cylinder pressure read of a HALL or RESERVE channel whose reading is stored (R66, R74). -/
def classifyRead (c : ChanId) (cls : PressureClass) (n : Node) : Node × List VReport :=
  let r := n.chan c
  match r.state, cls with
  | .firing, _ =>
    let seen := decide (r.pressure < Config.flowThreshold)
    resolveFiring c (n.setChan c { r with flowSeen := r.flowSeen || seen })
  | .ready, .fit => (n, [])
  | .isolated, .fit => (n, [])
  | .committed, .fit => (n, [])
  | .queued, .fit => (n, [])
  | .low, .low => (n, [])
  | .low, .empty => (n.setChan c { r with state := .spent }, [])
  | .low, .fit =>
    (n.setChan c { r with state := n.restState },
      if r.role = .reserve ∧ n.restState = .ready then [.ready] else [])
  | .spent, _ => (n, [])
  | .failed, _ => (n, [])
  | .ready, _ => ((n.setChan c { r with state := cls.downState }).setFlag .cylLow, [])
  | .isolated, _ => ((n.setChan c { r with state := cls.downState }).setFlag .cylLow, [])
  | .committed, _ =>
    ((n.setChan c { r with state := cls.downState, committedTo := none }).setFlag .cylLow,
      (r.committedTo.map VReport.uncommitted).toList)
  | .queued, _ =>
    ((dequeue c (n.setChan c (r.leave cls.downState))).setFlag .cylLow,
      pulseReport c r.requester .failed)

/-- A cylinder pressure read: a reading above 150 is taken as 150 and stored (R65); an UNUSED channel
takes no other state (R63). -/
def cylinderRead (c : ChanId) (reading : Nat) (n : Node) : Node × List VReport :=
  let p := min reading 150
  let m := n.modChan c (fun r => { r with pressure := p, readAt := n.now + Config.readPeriod })
  if (m.chan c).role = .unused then (m, [])
  else classifyRead c (pressureClass m.cfg.fullThreshold p) m

/-! ## Requests of the owners -/

/-- RVA commits a channel to a grantee (R68); `none` is a refusal. -/
def commit (c : ChanId) (grantee : NodeId) (n : Node) : Option Node :=
  let r := n.chan c
  if r.role = .reserve ∧ r.state = .ready then
    some (n.setChan c { r with state := .committed, committedTo := some grantee })
  else none

/-- RVA uncommits a channel (R68); a request for a channel that is not COMMITTED is refused. -/
def uncommit (c : ChanId) (n : Node) : Node :=
  let r := n.chan c
  if r.state = .committed then n.setChan c { r with state := n.restState, committedTo := none } else n

/-- Uncommit each of a list of channels. -/
def uncommitAll (cs : List ChanId) (n : Node) : Node := cs.foldl (fun m c => uncommit c m) n

/-- The table's last step on an accepted pulse request: QUEUED, at the tail of the queue (R69). -/
def enqueue (c : ChanId) (r : Channel) (n : Node) : Node :=
  let m := n.setChan c { r with state := .queued }
  { m with vcu.queue := m.vcu.queue ++ [c] }

/-- HSQ requests a pulse on a HALL channel (R69); `none` is a refusal. -/
def requestHall (c : ChanId) (n : Node) : Option Node :=
  let r := n.chan c
  if r.role = .hall ∧ r.state = .ready ∧ n.hsq.hall = .discharging then
    some (enqueue c { r with requester := .hsq } n)
  else none

/-- RVA requests a pulse on a channel committed to the feed's grantee (R69). -/
def requestCommitted (c : ChanId) (grantee : NodeId) (n : Node) : Option Node :=
  let r := n.chan c
  if r.role = .reserve ∧ r.state = .committed ∧ r.committedTo = some grantee then
    some (enqueue c { r with requester := .rva, feedGrantee := some grantee } n)
  else none

/-- RVA requests a pulse on a READY channel as a substitute within the feed (R69). -/
def requestSubstitute (c : ChanId) (grantee : NodeId) (n : Node) : Option Node :=
  let r := n.chan c
  if r.role = .reserve ∧ r.state = .ready then
    some (enqueue c { r with requester := .rva, feedGrantee := some grantee,
                             committedTo := some grantee } n)
  else none

/-- HSQ cancels a HALL channel it has queued (R70); `none` is a refusal. -/
def cancelHall (c : ChanId) (n : Node) : Option Node :=
  let r := n.chan c
  if r.role = .hall ∧ r.state = .queued ∧ r.requester = .hsq then
    some (dequeue c (n.setChan c (r.leave n.restState)))
  else none

/-! ## The arbiter and the pulse -/

/-- A queued entry is eligible (R71). -/
def Node.eligible (n : Node) (c : ChanId) : Bool :=
  match (n.chan c).role with
  | .reserve => true
  | .hall => decide (n.vcu.deferral ≠ .active) && decide (n.hsq.hall = .discharging)
  | .unused => false

/-- The arbiter's conditions of R71 but for an eligible entry: no output on and none drawing current,
the stagger interval passed, the key delivered NORMAL. -/
def Node.arbiterFree (n : Node) : Bool :=
  n.vcu.outputOn.isNone && !n.vcu.anyChan (fun r => r.currentSince.isSome) && n.vcu.stagger.isNone
    && !n.isolate

/-- The entry the arbiter would start: the oldest eligible one (R71). -/
def Node.nextPulse (n : Node) : Option ChanId :=
  if n.arbiterFree then n.vcu.queue.find? n.eligible else none

/-- A pulse start (R72, R74). -/
def startPulse (c : ChanId) (n : Node) : Node :=
  let m := (dequeue c n).modChan c (fun r =>
    { r with state := .firing, flowSeen := false, window := some (n.now + n.cfg.window),
             currentSince := some (r.currentSince.getD n.now) })
  { m with vcu.outputOn := some c, vcu.lastStart := some n.now,
           vcu.pulseEnd := some (n.now + n.cfg.pulse), vcu.stagger := some (n.now + n.cfg.stagger) }

/-- The commanded output, if any, is commanded off. Its current ends unless the driver draws current
of its own accord (R74, R76). -/
def outputOff (n : Node) : Node :=
  match n.vcu.outputOn with
  | none => n
  | some c =>
    { n with vcu.outputOn := none, vcu.pulseEnd := none }.modChan c (fun r =>
      if r.selfDriven then r else { r with currentSince := none })

/-- Command the output off and resolve its channel (R74). -/
def endPulse (n : Node) : Node × List VReport :=
  match n.vcu.outputOn with
  | none => (n, [])
  | some c => resolveFiring c (outputOff n)

/-- A confirm window ends (R74). -/
def endWindow (c : ChanId) (n : Node) : Node × List VReport :=
  resolveFiring c (n.modChan c (fun r => { r with window := none }))

/-- The drive monitor's cut (R76). An UNUSED channel keeps ISOLATED (R63; log 20). -/
def cutDrive (c : ChanId) (n : Node) : Node × List VReport :=
  let m := (n.modChan c (fun r => { r with driveCut := true, currentSince := none })).setFlag .driveFault
  let m := if m.vcu.outputOn = some c then { m with vcu.outputOn := none, vcu.pulseEnd := none } else m
  let r := m.chan c
  match r.state with
  | .firing => resolveFiring c m
  | .queued => (dequeue c (m.setChan c (r.leave .failed)), pulseReport c r.requester .failed)
  | .committed =>
    (m.setChan c { r with state := .failed, committedTo := none },
      (r.committedTo.map VReport.uncommitted).toList)
  | .ready => (m.setChan c { r with state := .failed }, [])
  | .isolated => (if r.role = .unused then m else m.setChan c { r with state := .failed }, [])
  | .low => (m.setChan c { r with state := .failed }, [])
  | .spent => (m, [])
  | .failed => (m, [])

/-- A driver begins or ceases to draw current of its own accord (R76). After a cut the monitor's
switch keeps the output without current; while commanded, the output draws current anyway. -/
def selfDrive (c : ChanId) (drawing : Bool) (n : Node) : Node × List VReport :=
  let r := n.chan c
  if r.driveCut then (n, [])
  else if drawing then
    (n.setChan c { r with selfDriven := true, currentSince := some (r.currentSince.getD n.now) }, [])
  else if n.vcu.outputOn = some c then (n.setChan c { r with selfDriven := false }, [])
  else resolveFiring c (n.setChan c { r with selfDriven := false, currentSince := none })

/-! ## Deferral -/

/-- A hall pressure read taken for the deferral, in DISCHARGING (R73). -/
def deferralRead (status : PressStatus) (reading : Int) (n : Node) : Node :=
  if n.hsq.hall ≠ .discharging then n
  else match n.vcu.deferral, status with
    | .inactive, .fault => { n with vcu.deferral := .waived }.setFlag .pressureSensorFault
    | .active, .fault =>
      { n with vcu.deferral := .waived, vcu.deferTimer := none }.setFlag .pressureSensorFault
    | .waived, .fault => n.setFlag .pressureSensorFault
    | .inactive, .ok =>
      if (n.cfg.pressureLimit : Int) ≤ reading then
        { n with vcu.deferral := .active, vcu.deferTimer := some (n.now + 1000 * n.cfg.deferLimit) }
      else n
    | .active, .ok =>
      if reading < (n.cfg.resumeThreshold : Int) then
        { n with vcu.deferral := .inactive, vcu.deferTimer := none }
      else n
    | .waived, .ok => n

/-- Deferral at every entry to and exit from DISCHARGING (R73). -/
def resetDeferral (n : Node) : Node := { n with vcu.deferral := .inactive, vcu.deferTimer := none }

/-! ## The selector valve -/

/-- What VCU reports to RCL of the selector (section 4.8, R78). -/
inductive SelReport where
  | opened | closed | jammed
deriving DecidableEq, Repr

/-- The end of the selector confirm time from now (R64). -/
def Node.travelEnd (n : Node) : Option Time := some (n.now + 1000 * n.cfg.selectorTime)

/-- The selector starts to travel. -/
def selTravel (st : SelState) (drive : SelDrive) (n : Node) : Node :=
  { n with vcu.selector.state := st, vcu.selector.drive := drive, vcu.selector.travel := n.travelEnd }

/-- The OPEN command (section 4.8); refused while the key is delivered ISOLATE (R67). -/
def selOpen (n : Node) : Node :=
  if n.isolate then n
  else match n.vcu.selector.state with
    | .closed => selTravel .opening .driveOpen n
    | .closing => selTravel .opening .driveOpen n
    | .opening => n
    | .opened => n
    | .jammed => n

/-- The CLOSE command (section 4.8). -/
def selClose (n : Node) : Node :=
  match n.vcu.selector.state with
  | .opening => selTravel .closing .driveClose n
  | .opened => selTravel .closing .driveClose n
  | .closed => n
  | .closing => n
  | .jammed => n

/-- The selector jams (R78). -/
def selJam (n : Node) : Node :=
  { n with vcu.selector.state := .jammed, vcu.selector.drive := .off,
           vcu.selector.travel := none }.setFlag .selectorJam

/-- The selector comes to rest in a state that its reading confirms. -/
def selArrive (st : SelState) (n : Node) : Node :=
  { n with vcu.selector.state := st, vcu.selector.drive := .off, vcu.selector.travel := none }

/-- The travel timer of a selector at rest: stopped by a matching reading, started by the first
differing one (R78). -/
def selWatch (matching : Bool) (n : Node) : Node :=
  if matching then { n with vcu.selector.travel := none }
  else if n.vcu.selector.travel.isSome then n
  else { n with vcu.selector.travel := n.travelEnd }

/-- One read of the limit switches (section 4.8, R78). -/
def selRead (reading : SelReading) (n : Node) : Node × List SelReport :=
  let m := { n with vcu.selector.reading := reading,
                    vcu.selector.readAt := n.now + Config.readPeriod }
  match m.vcu.selector.state, reading with
  | .jammed, _ => (m, [])
  | _, .fault => (selJam m, [.jammed])
  | .opening, .opened => (selArrive .opened m, [.opened])
  | .opening, .closed => (m, [])
  | .opening, .moving => (m, [])
  | .closing, .closed => (selArrive .closed m, [.closed])
  | .closing, .opened => (m, [])
  | .closing, .moving => (m, [])
  | .closed, .closed => (selWatch true m, [])
  | .closed, .opened => (selWatch false m, [])
  | .closed, .moving => (selWatch false m, [])
  | .opened, .opened => (selWatch true m, [])
  | .opened, .closed => (selWatch false m, [])
  | .opened, .moving => (selWatch false m, [])

/-! ## The lockout key at VCU -/

/-- The change of the delivered key position to ISOLATE at VCU (R67, R78): outputs off, the queue
emptied with cancelled reports, READY channels shown ISOLATED, the selector closed. -/
def vcuIsolate (n : Node) : Node × List VReport :=
  let (m, ended) := endPulse n
  let cancelled := m.vcu.queue.flatMap (fun c => pulseReport c (m.chan c).requester .cancelled)
  let table := mapVec (fun r : Channel =>
    if r.state = .queued then r.leave .isolated
    else if r.state = .ready then { r with state := .isolated } else r) m.vcu.channels
  (selClose { m with vcu.channels := table, vcu.queue := [] }, ended ++ cancelled)

/-- The change to NORMAL at VCU: every ISOLATED channel of role HALL or RESERVE becomes READY (R67). -/
def vcuNormal (n : Node) : Node × List VReport :=
  let back := fun r : Channel => decide (r.state = .isolated) && decide (r.role ≠ .unused)
  let table := mapVec (fun r => if back r then { r with state := .ready } else r) n.vcu.channels
  ({ n with vcu.channels := table },
    if n.vcu.anyChan (fun r => back r && decide (r.role = .reserve)) then [.ready] else [])

end Sys2Proof.Machine
end

