-- ==== Sys2Proof/Machine/Arbiter.lean ====
section
/-! DEFINITION. Arbiter: the holder side of the reserve bank (R103 to R119). -/

namespace Sys2Proof.Machine

/-- RVA is active in NORMAL mode with a RESERVE channel (R103). -/
def Node.rvaActive (n : Node) : Bool := n.normal && n.hasReserve

/-- Outstanding count of an entry (R104). -/
def BidEntry.outstanding (e : BidEntry) : Nat := e.wanted - e.granted - e.inFeed - e.fed

/-- The entry of a node. -/
def Node.entry (n : Node) (i : NodeId) : Option BidEntry := n.rva.bids.find? (fun e => e.node = i)

/-- Change the entry of a node, if it has one. -/
def modEntry (i : NodeId) (f : BidEntry → BidEntry) (n : Node) : Node :=
  { n with rva.bids := n.rva.bids.map (fun e => if e.node = i then f e else e) }

/-- Drop the entry of a node. -/
def dropEntry (i : NodeId) (n : Node) : Node :=
  { n with rva.bids := n.rva.bids.filter (fun e => e.node ≠ i) }

/-- The place of a new entry: behind the last ELEVATED entry and ahead of every ORDINARY one, or at
the tail (R105). -/
def insertEntry (e : BidEntry) (es : List BidEntry) : List BidEntry :=
  match e.cls with
  | .elevated => es.filter (fun x => x.cls = .elevated) ++ [e] ++ es.filter (fun x => x.cls = .ordinary)
  | .ordinary => es ++ [e]

/-- Whether a WAYOPEN of a node runs as the current feed, one not orphaned, or waits in the feed queue
(R104, R113; log 50). -/
def Node.takenOf (n : Node) (i : NodeId) : FeedTaken :=
  if n.rva.feed.any (fun f => decide (f.grantee = i) && !f.orphaned) then .running
  else if n.rva.feedQueue.any (fun w => w.1 = i) then .waiting
  else .no

/-- An entry just created by a BID or a rebuild (R104, R105, R114). -/
def freshEntry (i : NodeId) (wanted : Nat) (cls : BidClass) (taken : FeedTaken) : BidEntry :=
  { node := i, cls := cls, wanted := wanted, granted := 0, inFeed := 0, fed := 0, hold := none,
    taken := taken }

/-- Stop the grant hold timer of an entry whose granted count is 0 (R104, R106, R108). -/
def BidEntry.settleHold (e : BidEntry) : BidEntry := if e.granted = 0 then { e with hold := none } else e

/-! ## Grants -/

/-- Commit each of a list of channels to a node; the number VCU accepted, and the node (R107). -/
def commitAll (i : NodeId) : List ChanId → Nat × Node → Nat × Node
  | [], acc => acc
  | c :: cs, (k, n) =>
    match commit c i n with
    | some m => commitAll i cs (k + 1, m)
    | none => commitAll i cs (k, n)

/-- The walk at one entry: the smaller of its outstanding count and the free channels, lowest first;
the grant hold timer restarts when granted rises with no WAYOPEN taken (R107). -/
def walkEntry (e : BidEntry) (n : Node) : BidEntry × Node :=
  let (k, m) := commitAll e.node (n.freeReserve.take e.outstanding) (0, n)
  ({ e with granted := e.granted + k,
            hold := if 0 < k ∧ e.taken = .no then some (n.now + 1000 * n.cfg.grantHold) else e.hold }, m)

/-- The walk over entries in queue order. -/
def walkList : List BidEntry → Node → List BidEntry × Node
  | [], n => ([], n)
  | e :: es, n =>
    let (e', m) := walkEntry e n
    let (es', p) := walkList es m
    (e' :: es', p)

/-- The grant walk (R107); none while the key is delivered ISOLATE (R112). -/
def grantWalk (n : Node) : Node :=
  if n.isolate then n
  else
    let (es, m) := walkList n.rva.bids n
    { m with rva.bids := es }

/-! ## Answers -/

/-- The smaller of a sum and 8 (R119). -/
def cap8 (x : Nat) : Nat := min x 8

/-- A newer answer merged into a waiting one (R119). -/
def mergeAnswer (x a : Answer) : Answer :=
  { x with confirmed := cap8 (x.confirmed + a.confirmed), failed := cap8 (x.failed + a.failed),
           outcome := a.outcome }

/-- Add an answer: merged into the one its grantee already has, else at the tail (R119). -/
def addAnswer (a : Answer) (n : Node) : Node :=
  if n.rva.answers.any (fun x => x.grantee = a.grantee) then
    let merged := n.rva.answers.map (fun x => if x.grantee = a.grantee then mergeAnswer x a else x)
    { n with rva.answers := merged }
  else { n with rva.answers := n.rva.answers ++ [a] }

/-- A FED answer with zero counts. -/
def zeroAnswer (i : NodeId) (outcome : FedOutcome) : Answer :=
  { grantee := i, confirmed := 0, failed := 0, outcome := outcome }

/-- Hand the head answer to LKC when no FED of this node waits or is in flight (R119). -/
def sendAnswer (n : Node) : Node :=
  match n.rva.answers with
  | [] => n
  | a :: _ => if n.lkc.outbox.fed.isSome || n.fedInFlight then n else queueFed a n

/-- The FED of this node was placed: the head answer leaves the list and the next is handed over. -/
def answerPlaced (n : Node) : Node := sendAnswer { n with rva.answers := n.rva.answers.tail }

/-! ## Entries leaving the queue -/

/-- Remove an entry and return every channel committed to it (R110, R111). -/
def returnEntry (i : NodeId) (n : Node) : Node := dropEntry i (uncommitAll (n.committedTo i) n)

/-- Remove a WAYOPEN of the node waiting in the feed queue, answered FED LAPSED (R111). -/
def lapseWaiting (i : NodeId) (n : Node) : Node :=
  if n.rva.feedQueue.any (fun w => w.1 = i) then
    addAnswer (zeroAnswer i .lapsed)
      { n with rva.feedQueue := n.rva.feedQueue.filter (fun w => w.1 ≠ i) }
  else n

/-- An entry is removed for a YIELD, an absence or a STANDING without its bid (R111). -/
def removeEntry (i : NodeId) (n : Node) : Node :=
  match n.entry i with
  | none => n
  | some _ => sendAnswer (grantWalk (lapseWaiting i (returnEntry i n)))

/-- A grant lapses (R110). -/
def lapseGrant (i : NodeId) (n : Node) : Node := grantWalk (returnEntry i n)

/-! ## Bids -/

/-- Return the surplus of an entry, highest-numbered channels first (R106). -/
def returnSurplus (i : NodeId) (n : Node) : Node :=
  match n.entry i with
  | none => n
  | some e =>
    let surplus := e.granted + e.inFeed + e.fed - e.wanted
    let back := (n.committedTo i).reverse.take surplus
    modEntry i (fun e => { e with granted := e.granted - back.length }.settleHold) (uncommitAll back n)

/-- Set the wanted count and class of an entry; a change of class moves it (R106). -/
def updateBid (i : NodeId) (wanted : Nat) (cls : BidClass) (n : Node) : Node :=
  match n.entry i with
  | none => n
  | some e =>
    if e.cls = cls then modEntry i (fun e => { e with wanted := wanted }) n
    else
      let m := dropEntry i n
      let moved := { e with wanted := wanted, cls := cls }
      { m with rva.bids := insertEntry moved m.rva.bids }

/-- The entry is fully fed: its wanted count is at or below fed, with nothing in feed (R106). -/
def dropIfFed (i : NodeId) (n : Node) : Node :=
  match n.entry i with
  | none => n
  | some e => if e.wanted ≤ e.fed ∧ e.inFeed = 0 then returnEntry i n else n

/-- RVA takes a BID (R105, R106). -/
def rvaBid (src holder : NodeId) (wanted : Nat) (cls : BidClass) (n : Node) : Node :=
  if !n.rvaActive || decide (holder ≠ n.id) then n
  else match n.entry src with
    | none =>
      grantWalk { n with rva.bids := insertEntry (freshEntry src wanted cls (n.takenOf src)) n.rva.bids }
    | some _ => grantWalk (dropIfFed src (returnSurplus src (updateBid src wanted cls n)))

/-- RVA takes a YIELD (R111). -/
def rvaYield (src holder : NodeId) (n : Node) : Node :=
  if !n.rvaActive || decide (holder ≠ n.id) then n else removeEntry src n

/-- RVA takes a change of a peer-table entry: a node that is ABSENT, or whose bid is empty or names
another holder, loses its entry (R111). It acts in JOINED only (R103). -/
def rvaPeer (i : NodeId) (n : Node) : Node :=
  let p := n.peer i
  if n.lkc.link ≠ .joined then n
  else if !p.present || decide (p.wanted = 0) || decide (p.bidHolder ≠ n.id) then removeEntry i n else n

/-! ## Feeds -/

/-- The place is pending on a channel. -/
def Place.awaits (p : Place) (c : ChanId) : Bool :=
  decide (p.channel = c) && decide (p.status = .pending)

/-- Resolve the pending place that holds a channel. -/
def setPlace (c : ChanId) (st : PlaceStatus) (f : Feed) : Feed :=
  let places := f.places.map (fun p => if p.awaits c then { p with status := st } else p)
  { f with places := places }

/-- Move the pending place that holds a channel to a substitute. -/
def movePlace (c d : ChanId) (f : Feed) : Feed :=
  let places := f.places.map (fun p => if p.awaits c then { p with channel := d } else p)
  { f with places := places, used := f.used ++ [d] }

/-- Seek a substitute for a failed place among the candidates; a refused request is a further
failure (R117). -/
def seekSubstitute (c : ChanId) : List ChanId → Feed → Node → Node
  | [], f, n => { n with rva.feed := some (setPlace c .failed f) }
  | d :: ds, f, n =>
    match requestSubstitute d f.grantee n with
    | some m => { m with rva.feed := some (movePlace c d f) }
    | none => seekSubstitute c ds { f with failed := f.failed + 1, used := f.used ++ [d] } n

/-- A report of VCU for a channel of the current feed (R117). -/
def placeReport (c : ChanId) (r : PulseResult) (n : Node) : Node :=
  match n.rva.feed with
  | none => n
  | some f =>
    if f.places.any (fun p => p.awaits c) then
      match r with
      | .confirmed =>
        { n with rva.feed := some (setPlace c .confirmed { f with confirmed := f.confirmed + 1 }) }
      | .cancelled =>
        { n with rva.feed := some (setPlace c .cancelled { f with cancelledSeen := true }) }
      | .failed =>
        let candidates := n.freeReserve.filter (fun d => d ∉ f.used)
        seekSubstitute c candidates { f with failed := f.failed + 1 } n
    else n

/-- Request the committed pulses of a new feed in place order; a refused request is a failure of its
place (R116). -/
def requestPlaces (grantee : NodeId) : List ChanId → Node → Node
  | [], n => n
  | c :: cs, n =>
    match requestCommitted c grantee n with
    | some m => requestPlaces grantee cs m
    | none => requestPlaces grantee cs (placeReport c .failed n)

/-- Start the feed of a WAYOPEN with the given count for an entry, whose grant hold timer stays stopped
until the feed ends (R110, R116). -/
def startFeed (e : BidEntry) (count : Nat) (n : Node) : Node :=
  let k := min count e.granted
  let cs := (n.committedTo e.node).take k
  let m := modEntry e.node (fun e =>
    { e with granted := e.granted - k, inFeed := k, taken := .running, hold := none }) n
  let feed : Feed :=
    { grantee := e.node, places := cs.map (fun c => { channel := c, status := .pending }),
      confirmed := 0, failed := 0, cancelledSeen := false, orphaned := false, used := cs }
  requestPlaces e.node cs { m with rva.feed := some feed }

/-- Outcome of a feed (R118). -/
def Feed.outcome (f : Feed) : FedOutcome :=
  if f.failed = 0 ∧ !f.cancelledSeen then .complete
  else if f.cancelledSeen ∧ f.confirmed = 0 then .refused else .part

/-- The entry of the grantee after its feed (R118 step 1). DESIGN CHOICE (log 42): an entry that a new BID
made while the feed of a removed one ran takes the feed's confirmed count. -/
def feedEntry (f : Feed) (n : Node) : Node :=
  match n.entry f.grantee with
  | none => n
  | some e =>
    if e.wanted ≤ e.fed + f.confirmed then returnEntry f.grantee n
    else modEntry f.grantee (fun e =>
      { e with inFeed := 0, fed := e.fed + f.confirmed, taken := .no,
               hold := if 0 < e.granted then some (n.now + 1000 * n.cfg.grantHold) else none }) n

/-- The end of a feed (R118); an orphaned feed updates nothing (R113). -/
def endFeed (f : Feed) (n : Node) : Node :=
  let m := { n with rva.feed := none }
  if f.orphaned then m
  else grantWalk (addAnswer { grantee := f.grantee, confirmed := f.confirmed, failed := f.failed,
                              outcome := f.outcome } (feedEntry f m))

/-- Take the head WAYOPEN out of the feed queue: its feed starts, or it is answered FED LAPSED (R116). -/
def takeWayopen (i : NodeId) (count : Nat) (n : Node) : Node :=
  match n.entry i with
  | none => addAnswer (zeroAnswer i .lapsed) n
  | some e =>
    if e.granted = 0 then
      addAnswer (zeroAnswer i .lapsed) (modEntry i (fun e => { e with taken := .no }) n)
    else startFeed e count n

/-- End the feed that has no place PENDING, and start the next feed that can start, as long as either
applies (R116, R118). Each round resolves a feed or takes a WAYOPEN, so `fuel` of twice the queue's
length and two is enough. -/
def feedRounds : Nat → Node → Node
  | 0, n => n
  | fuel + 1, n =>
    match n.rva.feed with
    | some f =>
      if f.places.any (fun p => p.status = .pending) then n else feedRounds fuel (endFeed f n)
    | none =>
      if n.isolate then n
      else match n.rva.feedQueue with
        | [] => n
        | (i, count) :: rest =>
          feedRounds fuel (takeWayopen i count { n with rva.feedQueue := rest })

/-- The tests of feed end and feed start, and the handing over of an answer. -/
def feedTest (n : Node) : Node := sendAnswer (feedRounds (2 * n.rva.feedQueue.length + 2) n)

/-- RVA takes a WAYOPEN (R115). -/
def rvaWayopen (src holder : NodeId) (count : Nat) (n : Node) : Node :=
  if !n.rvaActive || decide (holder ≠ n.id) then n
  else if (match n.rva.feed with | some f => decide (f.grantee = src) && !f.orphaned | none => false) then n
  else if n.rva.feedQueue.any (fun w => w.1 = src) then
    { n with rva.feedQueue := n.rva.feedQueue.map (fun w => if w.1 = src then (src, count) else w) }
  else if n.isolate then sendAnswer (addAnswer (zeroAnswer src .refused) n)
  else match n.entry src with
    | none => sendAnswer (addAnswer (zeroAnswer src .lapsed) n)
    | some e =>
      if e.granted = 0 then sendAnswer (addAnswer (zeroAnswer src .lapsed) n)
      else
        let m := modEntry src (fun e => { e with taken := .waiting, hold := none }) n
        feedTest { m with rva.feedQueue := m.rva.feedQueue ++ [(src, count)] }

/-! ## Lockout, link loss and rebuild -/

/-- Every COMMITTED channel is returned (R112, R113). -/
def returnCommitted (n : Node) : Node :=
  uncommitAll (n.chansWith (fun c => decide (c.state = .committed))) n

/-- The holder's key changes to ISOLATE (R112). -/
def rvaIsolate (n : Node) : Node :=
  let m := returnCommitted n
  let es := m.rva.bids.map (fun e =>
    { e with granted := 0, hold := none,
             taken := if m.rva.feedQueue.any (fun w => w.1 = e.node) then .no else e.taken })
  let answered := m.rva.feedQueue.foldl (fun x w => addAnswer (zeroAnswer w.1 .refused) x)
    { m with rva.bids := es }
  sendAnswer { answered with rva.feedQueue := [] }

/-- The holder's link is LOST (R113). -/
def rvaLost (n : Node) : Node :=
  let m := returnCommitted n
  { m with rva.bids := [], rva.feedQueue := [], rva.answers := [],
           rva.feed := m.rva.feed.map (fun f => { f with orphaned := true }) }

/-- The bid-queue entries of one class in the peer table, by ascending node id (R114). -/
def rebuildClass (n : Node) (cls : BidClass) : List BidEntry :=
  (allNodes.filter (fun i =>
    let p := n.peer i
    p.present && decide (0 < p.wanted) && decide (p.bidHolder = n.id) && decide (p.cls = cls))).map
  (fun i => freshEntry i (n.peer i).wanted cls (n.takenOf i))

/-- The rebuild at every entry to JOINED (R114). -/
def rvaRebuild (n : Node) : Node :=
  if n.rvaActive then
    grantWalk { n with rva.bids := rebuildClass n .elevated ++ rebuildClass n .ordinary }
  else n

/-- A committed channel was lost: the entry's granted count falls by 1, and the walk runs (R108). -/
def rvaUncommitted (i : NodeId) (n : Node) : Node :=
  grantWalk (modEntry i (fun e => { e with granted := e.granted - 1 }.settleHold) n)

/-- The holder part of this node's STANDING (R85, R103, R109). -/
def Node.holderPart (n : Node) : Option HolderPart :=
  if !n.hasReserve then none
  else if n.rvaActive then
    some { ready := n.freeReserve.length, lockout := n.isolate,
           grants := (n.rva.bids.filter (fun e => decide (0 < e.granted))).map
             (fun e => { grantee := e.node, count := e.granted }) }
  else some { ready := 0, lockout := n.isolate, grants := [] }

end Sys2Proof.Machine
end

