-- ==== Sys2Proof/Machine/Planner.lean ====
section
/-! DEFINITION. Planner: the Agent Planner's arithmetic and record (R47 to R62). -/

namespace Sys2Proof.Machine

/-- Latched temperature, its source, and TEMP_DEFAULT (R50). -/
def latchTemp (cfg : Cfg) (t : TempRec) : Int × TempSource × Bool :=
  match t.status, t.value with
  | .ok, some r =>
    if r < cfg.tmin then (cfg.tmin, .clamped, false)
    else if cfg.tmax < r then (cfg.tmax, .clamped, false)
    else (r, .sensor, false)
  | .ok, none => (cfg.tmin, .default, true)
  | .outOfRange, _ => (cfg.tmin, .default, true)
  | .openCircuit, _ => (cfg.tmin, .default, true)

/-- Specific volume S8 = 1000 k1 + k2 T (R51). A valid configuration keeps it at 100 000 or more. -/
def specificVolume (k1 k2 : Nat) (t : Int) : Nat := (1000 * (k1 : Int) + (k2 : Int) * t).toNat

/-- Base mass W, the quotient rounded up (R52). -/
def baseMass (volume concentration s8 : Nat) : Nat :=
  ceilDiv (volume * 1000000000 * concentration) (s8 * (10000 - concentration))

/-- Design mass Wd, rounded up (R53). -/
def designMass (w factor : Nat) : Nat := ceilDiv (w * factor) 100

/-- Own groups n_own = min (O, ceiling of Wd / Mh) (R54). -/
def ownGroups (ready wd mh : Nat) : Nat := min ready (ceilDiv wd mh)

/-- Reserve groups and NO_RESERVE from the shortfall Ws = Wd - n_own Mh (R55). -/
def reserveGroups (wd nOwn mh mr : Nat) (holder : Option NodeId) : Nat × Bool :=
  if wd ≤ nOwn * mh then (0, false)
  else match holder with
    | some _ => (min 8 (ceilDiv (wd - nOwn * mh) mr), false)
    | none => (0, true)

/-- Achieved concentration Ca, rounded down (R60). -/
def achieved (m s8 volume : Nat) : Nat := 10000 * m * s8 / (volume * 1000000000 + m * s8)

/-- Fill the group counts of a record from its Wd and a READY count (R54, R55). -/
def planCounts (cfg : Cfg) (ready : Nat) (a : Apl) : Apl :=
  let nOwn := ownGroups ready a.wd cfg.mh
  let res := reserveGroups a.wd nOwn cfg.mh cfg.mr cfg.holder
  { a with readyCount := ready, nOwn := nOwn, nRes := res.1, noReserve := res.2,
           wp := nOwn * cfg.mh + res.1 * cfg.mr }

/-- The plan of an entry to COUNTDOWN in NORMAL mode (R49): the record replaced as a whole. -/
def aplPlan (n : Node) : Node :=
  let t := latchTemp n.cfg n.fiu.temp
  let s8 := specificVolume n.cfg.k1 n.cfg.k2 t.1
  let w := baseMass n.cfg.volume n.cfg.concentration s8
  let a : Apl := { Apl.start with
    stage := .planned, temp := t.1, source := t.2.1, tempDefault := t.2.2, s8 := s8, w := w,
    wd := designMass w n.cfg.factor }
  { n with apl := planCounts n.cfg n.readyHall.length a }.setFlagIf t.2.2 .tempDefault

/-- The re-plan at countdown expiry (R56). -/
def aplReplan (n : Node) : Node :=
  { n with apl := { planCounts n.cfg n.readyHall.length n.apl with stage := .replanned } }

/-- APL takes reports in DISCHARGING and SOAK, with a plan in the record (R58, R59). -/
def aplTakes (n : Node) : Bool :=
  (decide (n.hsq.hall = .discharging) || decide (n.hsq.hall = .soak)) && decide (n.apl.stage ≠ .none)

/-- The record with `mass` more delivered and Ca computed again (R60). -/
def addMass (cfg : Cfg) (mass : Nat) (a : Apl) : Apl :=
  { a with m := a.m + mass, ca := achieved (a.m + mass) a.s8 cfg.volume }

/-- An own-hall group was confirmed (R58). -/
def aplOwnConfirmed (n : Node) : Node :=
  if aplTakes n then
    { n with apl := { addMass n.cfg n.cfg.mh n.apl with ownConfirmed := n.apl.ownConfirmed + 1 } }
  else n

/-- A FED with a confirmed count was passed on (R59). DESIGN CHOICE (log 41): the sums are not capped at
the ranges of R47. -/
def aplFed (count : Nat) (n : Node) : Node :=
  if aplTakes n && decide (0 < count) then
    { n with apl := { addMass n.cfg (count * n.cfg.mr) n.apl with
                      resConfirmed := n.apl.resConfirmed + count } }
  else n

/-- Evaluation of the outcome, once per event (R61). -/
def aplEvaluate (n : Node) : Node :=
  if n.apl.evaluated then n
  else
    let short := decide (n.apl.m < n.apl.wd)
    let low := decide (n.apl.ca < n.cfg.concentration)
    ({ n with apl := { n.apl with short := short, low := low, evaluated := true } }.setFlagIf
      short .short).setFlagIf low .low

end Sys2Proof.Machine
end

