-- ==== Sys2Proof/Machine/Client.lean ====
section
/-! DEFINITION. Client: the claimant side of the reserve bank (R120 to R129). What RCL reports to the
sequencer (confirmed flow, the phase resolved) is written into the sequencer's record here; the test
for SOAK that follows belongs to the event. -/

namespace Sys2Proof.Machine

/-- The count still wanted: n less reserve fed (R124). -/
def Rcl.left (r : Rcl) : Nat := r.n - r.fed

/-- A BID of this node waits in the outbox or has been placed (R120). -/
def Rcl.claims (r : Rcl) : Bool := decide (r.bid = .queued) || decide (r.bid = .placed)

/-- The configured holder is PRESENT with a holder part (R121). -/
def Node.holderReachable (n : Node) : Bool :=
  match n.cfg.holder with
  | none => false
  | some h => (n.peer h).present && (n.peer h).holderPart.isSome

/-- The three conditions for placing a bid (R121). -/
def Node.bidAllowed (n : Node) : Bool :=
  decide (n.lkc.link = .joined) && n.holderReachable && decide (n.vcu.selector.state ≠ .jammed)

/-- Queue a BID with count n; the bid is QUEUED (R121, R122). -/
def sendBid (n : Node) : Node :=
  match n.cfg.holder with
  | none => n
  | some h =>
    queueBid { holder := h, wanted := n.rcl.n, cls := n.cfg.cls }
      { n with rcl.bid := .queued, rcl.rebid := false }

/-- Queue a YIELD to the configured holder. -/
def sendYield (n : Node) : Node :=
  match n.cfg.holder with
  | none => n
  | some h => queueYield h n

/-- Place a bid for n groups at once, or hold it (R121). -/
def placeOrHold (n : Node) : Node :=
  if n.bidAllowed then sendBid n else { n with rcl.bid := .held }

/-- A HELD bid, and a bid to be placed again after a loss of the holder, is placed at the first event
after which the conditions hold (R121, R128). -/
def retryBid (n : Node) : Node :=
  if n.bidAllowed && (decide (n.rcl.bid = .held) || (n.rcl.rebid && n.rcl.claims)) then sendBid n else n

/-- The entry to COUNTDOWN at RCL: the record starts afresh (R120) and a bid is made for n_res groups
when the plan has any (R121). -/
def rclCountdown (n : Node) : Node :=
  let m := if n.rcl.closePending then selClose n else n
  let m := { m with rcl := .start }
  if m.apl.nRes = 0 then m else placeOrHold { m with rcl.n := m.apl.nRes }

/-- The count of the bid RCL holds or is placing (R13): 0 without one. -/
def Rcl.bidCount (r : Rcl) : Nat := if r.bid = .none then 0 else r.n

/-- A new count from the re-plan (R122). -/
def rclNewCount (k : Nat) (n : Node) : Node :=
  if k = n.rcl.bidCount then n
  else
    let m := { n with rcl.n := k }
    match n.rcl.bid with
    | .none => placeOrHold m
    | .held => if k = 0 then { m with rcl.bid := .none } else m
    | .queued => if k = 0 then sendYield { m with rcl.bid := .none, rcl.rebid := false } else sendBid m
    | .placed => if k = 0 then sendYield { m with rcl.bid := .none, rcl.rebid := false } else sendBid m

/-- The outcome by what was fed and answered (R127 step 3). -/
def Rcl.finalOutcome (r : Rcl) : ReserveOutcome :=
  if r.flowTaken then .fed
  else match r.lastAnswer with
    | .lapsed => .lapsed
    | .refused => .lapsed
    | .none => .yielded
    | .complete => .yielded
    | .part => .yielded

/-- The reserve phase is resolved with an outcome and reported to the sequencer (R127 step 3, R18). -/
def rclResolve (outcome : ReserveOutcome) (n : Node) : Node :=
  let m := { n with rcl.phase := .done, rcl.wait := .stopped, rcl.outcome := outcome }
  if m.hsq.reservePhase = .opened then
    { m with hsq.reservePhase := .resolved, hsq.reserveOutcome := outcome }
  else m

/-- Step 1 of R127: a YIELD unless the bid is fully fed; the bid state becomes NONE. -/
def dropBid (n : Node) : Node :=
  let m := { n with rcl.bid := .none, rcl.rebid := false }
  if n.rcl.claims && decide (n.rcl.fed < n.rcl.n) then sendYield m else m

/-- Step 2 of R127: CLOSE at once, or at the flow timer's expiry. -/
def closeAfterFlow (n : Node) : Node :=
  if n.vcu.selector.state = .opening ∨ n.vcu.selector.state = .opened then
    if n.rcl.flowTimer.isSome then { n with rcl.closePending := true } else selClose n
  else n

/-- The end of the reserve phase (R127), with outcome LOST where R128 gives it. -/
def rclEnd (lost : Bool) (n : Node) : Node :=
  rclResolve (if lost then .lost else n.rcl.finalOutcome) (closeAfterFlow (dropBid n))

/-- Queue a WAYOPEN for the smaller of grant heard and the remaining count (R124). -/
def sendWayopen (n : Node) : Node :=
  match n.cfg.holder with
  | none => n
  | some h =>
    let count := min n.rcl.grantHeard n.rcl.left
    queueWayopen h count { n with rcl.asked := count, rcl.phase := .requested,
                                  rcl.feedTimeout := some (n.now + 1000 * n.cfg.feedTimeout) }

/-- In WAITING_GRANT with a grant and groups still wanted, RCL acts on the selector (R124). -/
def rclAct (n : Node) : Node :=
  if n.rcl.phase = .waitingGrant ∧ 0 < n.rcl.grantHeard ∧ 0 < n.rcl.left then
    match n.vcu.selector.state with
    | .closed => selOpen { n with rcl.phase := .opening }
    | .closing => selOpen { n with rcl.phase := .opening }
    | .opening => { n with rcl.phase := .opening }
    | .opened => sendWayopen n
    | .jammed => rclEnd false n
  else n

/-- The sequencer says that discharge has begun (R124). -/
def rclBegin (n : Node) : Node :=
  rclAct { n with rcl.wait := .running (n.now + 1000 * n.cfg.reserveWait), rcl.phase := .waitingGrant }

/-- VCU reports the selector OPEN (R124). -/
def rclOpened (n : Node) : Node :=
  if n.rcl.phase = .opening then
    if 0 < n.rcl.grantHeard then sendWayopen n else { n with rcl.phase := .waitingGrant }
  else n

/-- VCU reports the selector JAMMED (R129). -/
def rclJammed (n : Node) : Node :=
  if n.hsq.hall = .discharging then
    if n.rcl.phase = .opening ∨ n.rcl.phase = .requested then rclEnd false n else n
  else if n.rcl.claims then sendYield { n with rcl.bid := .none, rcl.rebid := false }
  else n

/-- This node's granted count in the holder's grant list (R123). -/
def Node.grantOf (n : Node) (h : NodeId) : Nat :=
  let p := n.peer h
  if p.present then
    match p.holderPart with
    | none => 0
    | some hp =>
      match hp.grants.find? (fun g => g.grantee = n.id) with
      | none => 0
      | some g => g.count
  else 0

/-- A change of the configured holder's entry by its STANDING: grant heard is taken afresh (R123); a
grant that vanished is bid for again (R122); a held bid may be placed (R121); a grant is acted on
(R124). -/
def rclHolder (h : NodeId) (n : Node) : Node :=
  let g := n.grantOf h
  let fell := decide (0 < n.rcl.grantHeard) && decide (g = 0) && decide (n.rcl.phase ≠ .requested)
    && decide (n.rcl.bid = .placed)
  let m := { n with rcl.grantHeard := g }
  rclAct (retryBid (if fell then sendBid m else m))

/-- The last answer that a FED outcome gives (R120). -/
def lastAnswerOf : FedOutcome → LastAnswer
  | .complete => .complete
  | .part => .part
  | .lapsed => .lapsed
  | .refused => .refused

/-- Confirmed reserve flow while the reserve phase is OPEN (R18, R125): the discharge duration timer
and RCL's flow timer restart. -/
def reserveFlow (count : Nat) (n : Node) : Node :=
  let ends := some (n.now + 1000 * n.cfg.duration)
  { n with hsq.duration := ends, hsq.elapsed := false,
           rcl.fed := min 8 (n.rcl.fed + count), rcl.flowTaken := true, rcl.flowTimer := ends }

/-- The FED answers the outstanding WAYOPEN (R125). -/
def fedAnswer (outcome : FedOutcome) (n : Node) : Node :=
  let m := { n with rcl.feedTimeout := none, rcl.lastAnswer := lastAnswerOf outcome, rcl.grantHeard := 0 }
  if m.rcl.left = 0 ∨ m.rcl.wait = .expired then rclEnd false m
  else
    let w := { m with rcl.phase := .waitingGrant }
    match outcome with
    | .lapsed => if w.rcl.claims then sendBid w else w
    | .complete => w
    | .part => w
    | .refused => w

/-- RCL takes a FED of the configured holder to this node (R125); a remaining count that falls to 0
ends the phase (R124; log 33). -/
def rclFed (confirmed : Nat) (outcome : FedOutcome) (n : Node) : Node :=
  let m := aplFed confirmed n
  let m := if 0 < confirmed ∧ m.hsq.reservePhase = .opened then reserveFlow confirmed m else m
  match m.rcl.phase with
  | .requested => fedAnswer outcome m
  | .waitingGrant => if m.rcl.left = 0 then rclEnd false m else m
  | .opening => if m.rcl.left = 0 then rclEnd false m else m
  | .idle => m
  | .done => m

/-- The feed timeout in REQUESTED (R126): FEED_LOST, CLOSE at once, the phase ends. -/
def rclFeedLost (lost : Bool) (n : Node) : Node :=
  rclEnd lost (selClose ({ n with rcl.feedTimeout := none }.setFlag .feedLost))

/-- A loss of the holder (R128): its entry went ABSENT, or (`link`) the link is LOST. DEDUCED (log 37): IDLE
is a phase other than DONE. -/
def rclLoss (link : Bool) (n : Node) : Node :=
  let had := decide (0 < n.rcl.grantHeard) || decide (n.rcl.phase = .requested)
  let m := { n with rcl.grantHeard := 0 }.setFlagIf had .holderLost
  let m := if link && m.rcl.claims then { m with rcl.bid := .held } else m
  if !had then m
  else match m.hsq.hall with
    | .countdown => { m with rcl.rebid := m.rcl.claims }
    | .hold => { m with rcl.rebid := m.rcl.claims }
    | .awaitSlot => { m with rcl.rebid := m.rcl.claims }
    | .discharging =>
      match m.rcl.phase with
      | .requested => rclFeedLost true m
      | .waitingGrant => rclEnd true m
      | .opening => rclEnd true m
      | .idle => rclEnd true m
      | .done => m
    | .quiet => m
    | .alert => m
    | .soak => m
    | .spent => m
    | .lockout => m

/-- The sequencer gives up the reserve for the lockout key (R129). In DISCHARGING the phase is
resolved besides. -/
def rclGiveUp (n : Node) : Node :=
  let m := { n with rcl.wait := .stopped, rcl.feedTimeout := none, rcl.flowTimer := none,
                    rcl.closePending := false, rcl.bid := .none, rcl.rebid := false }
  let m := selClose (if n.rcl.claims then sendYield m else m)
  if n.hsq.hall = .discharging then rclResolve n.rcl.finalOutcome m else m

/-- LKC reports the BID placed (R121). It is PLACED unless a newer BID already waits (log 15). -/
def bidPlaced (n : Node) : Node :=
  if n.rcl.bid = .queued ∧ n.lkc.outbox.bid = none then { n with rcl.bid := .placed } else n

end Sys2Proof.Machine
end

