-- ==== Sys2Proof/Machine/Store.lean ====
section
/-! DEFINITION. Store: reading a row, the row writes and the release record (R157 to R171). -/

namespace Sys2Proof.Machine

/-- A value of two bytes, low byte first (R183). -/
def le2 (d : RowData) (i : Fin 13) : Nat :=
  (d.get i.castSucc).toNat + 256 * (d.get i.succ).toNat

/-- Flip one data bit of a row; the flips 112..127 lie in the check bytes. -/
def flipBit (d : RowData) (b : Fin 128) : RowData :=
  if h : b.val / 8 < 14 then
    d.set (b.val / 8) (d.get ⟨b.val / 8, h⟩ ^^^ BitVec.twoPow 8 (b.val % 8)) h
  else d

/-- One read of a row: its result and the data delivered (R158). With one wrong bit the data come out
right; three or more wrong bits give the free value `Config.multiBitRead` (log 8). -/
def Row.read (r : Row) : RowResult × Option RowData :=
  if r.void then (.uncorrectable, none)
  else match r.flips with
    | [] => (.clean, some r.data)
    | [_] => (.corrected, some r.data)
    | [_, _] => (.uncorrectable, none)
    | _ :: _ :: _ :: _ =>
      match Config.multiBitRead r.data r.flips with
      | none => (.uncorrectable, none)
      | some d => (.corrected, some d)

/-- A bit of a row flips; a bit that had flipped flips back (R158). -/
def Row.flip (r : Row) (b : Fin 128) : Row :=
  { r with flips := if b ∈ r.flips then r.flips.filter (· ≠ b) else r.flips ++ [b] }

/-- One row. -/
def Node.row (n : Node) (i : RowId) : Row := n.cfs.rows.get i

/-- Replace one row. -/
def Node.setRow (n : Node) (i : RowId) (r : Row) : Node := { n with cfs.rows := n.cfs.rows.set i r }

/-- Make a row void (R166). -/
def voidRow (i : RowId) (n : Node) : Node := n.setRow i { n.row i with void := true }

/-- Start a row write: the row is void until its completion (R166). -/
def startWrite (i : RowId) (kind : WriteKind) (data : RowData) (n : Node) : Node :=
  let m := voidRow i n
  { m with cfs.busy := some { row := i, kind := kind, data := data, ends := n.now + Config.writeTime } }

/-- Byte k of a number, low byte 0. -/
def byteOf (x k : Nat) : Byte := BitVec.ofNat 8 (x / 256 ^ k)

/-- Data bytes of a release row (R183). -/
def releaseData (marker hallId wd nOwn nRes : Nat) : RowData :=
  #v[BitVec.ofNat 8 marker, byteOf hallId 0, byteOf hallId 1, byteOf wd 0, byteOf wd 1, byteOf wd 2,
     byteOf wd 3, BitVec.ofNat 8 nOwn, BitVec.ofNat 8 nRes, 0, 0, 0, 0, 0]

/-- The store is not writing (R157). -/
def Node.storeIdle (n : Node) : Bool := n.cfs.busy.isNone

/-- HSQ hands over the release write (R168): it starts at once, or waits with row 12 void. The release
record is RELEASED from that moment. -/
def releaseWrite (wd nOwn nRes : Nat) (n : Node) : Node :=
  let data := releaseData Config.releasedMarker n.cfg.hallId wd nOwn nRes
  let m := { n with cfs.release := { state := .released, hallId := n.cfg.hallId, wd := wd,
                                     nOwn := nOwn, nRes := nRes } }
  if m.storeIdle then startWrite 12 .release data m
  else { voidRow 12 m with cfs.releasePending := some data }

/-- A pending release write starts when the store is free (R166, R168). -/
def startPending (n : Node) : Node :=
  match n.cfs.releasePending with
  | none => n
  | some data => startWrite 12 .release data { n with cfs.releasePending := none }

/-- The erase of row 12 has completed (R169). -/
def eraseRecord (n : Node) : Node :=
  { n with cfs.release := { state := .clear, hallId := 0, wd := 0, nOwn := 0, nRes := 0 },
           cfs.releaseTrouble := false }

/-- The new content of the row being written is stored and the store is IDLE (R166). -/
def finishWrite (w : RowWrite) (n : Node) : Node :=
  { n.setRow w.row { data := w.data, void := false, flips := [] } with cfs.busy := none }

end Sys2Proof.Machine
end

