-- ==== Sys2Proof/Machine/Vent.lean ====
section
/-! DEFINITION. Vent: the vent queue, the node's announcement and its slot (R131 to R141). The slot
held report to the sequencer is returned as a Bool. -/

namespace Sys2Proof.Machine

/-- VSU is active in NORMAL mode with a vent group 1..15 (R132). -/
def Node.vsuActive (n : Node) : Bool := n.normal && decide (0 < n.cfg.ventGroup)

/-- The own position: the number of entries ahead of the own id, or none (R136). -/
def Node.ventPosition (n : Node) : Option Nat := n.vsu.queue.findIdx? (fun i => i = n.id)

/-- The node holds a vent slot (R136). -/
def Node.holdsSlot (n : Node) : Bool :=
  match n.ventPosition with
  | none => false
  | some p => decide (p < n.cfg.ventCapacity)

/-- The vent status by R136. -/
def Node.ventStatusNow (n : Node) : VentStatus :=
  if n.vsu.own = .placed then (if n.holdsSlot then .holding else .waiting) else .none

/-- Re-evaluation of the own position (R136); `true` is the slot held report. -/
def ventReeval (n : Node) : Node × Bool :=
  let held := n.holdsSlot && n.vsu.sought && decide (n.hsq.hall = .awaitSlot)
  let m := if held then { n with vsu.sought := false, vsu.slotWait := none } else n
  ({ m with vsu.status := m.ventStatusNow }, held)

/-- Append a node that is not in the queue, and re-evaluate; a node in the queue keeps its place, and
nothing happens (R133, R135). -/
def ventAppend (i : NodeId) (n : Node) : Node × Bool :=
  if i ∈ n.vsu.queue then (n, false) else ventReeval { n with vsu.queue := n.vsu.queue ++ [i] }

/-- Remove a node from the queue, and re-evaluate; for a node that is not in it nothing happens (R134,
R135). -/
def ventRemove (i : NodeId) (n : Node) : Node × Bool :=
  if i ∈ n.vsu.queue then ventReeval { n with vsu.queue := n.vsu.queue.filter (· ≠ i) } else (n, false)

/-- VSU takes VENT, VENTFREE and peer reports when active and JOINED (R132). -/
def Node.vsuTakes (n : Node) : Bool := n.vsuActive && decide (n.lkc.link = .joined)

/-- VSU takes a VENT (R133). -/
def vsuVent (src : NodeId) (group : Nat) (n : Node) : Node × Bool :=
  if n.vsuTakes && decide (group = n.cfg.ventGroup) then ventAppend src n else (n, false)

/-- VSU takes a VENTFREE (R134). -/
def vsuVentfree (src : NodeId) (group : Nat) (n : Node) : Node × Bool :=
  if n.vsuTakes && decide (group = n.cfg.ventGroup) then ventRemove src n else (n, false)

/-- VSU takes an absence; the own entry's does not remove the own id (R134). -/
def vsuAbsent (i : NodeId) (n : Node) : Node × Bool :=
  if n.vsuTakes && decide (i ≠ n.id) then ventRemove i n else (n, false)

/-- Repair from a change of a PRESENT entry other than the own one (R135). -/
def vsuRepair (i : NodeId) (n : Node) : Node × Bool :=
  let p := n.peer i
  if n.vsuTakes && decide (i ≠ n.id) && p.present then
    if decide (p.ventGroup = n.cfg.ventGroup) && decide (p.ventStatus ≠ .none) then
      ventAppend i n
    else ventRemove i n
  else (n, false)

/-- The sequencer asks for a slot (R132, R137); `true` answers at once with slot held. -/
def vsuAsk (n : Node) : Node × Bool :=
  if n.vsuActive then
    (queueVent n.cfg.ventGroup
      { n with vsu.sought := true, vsu.slotWait := some (n.now + 1000 * n.cfg.slotWait),
               vsu.own := if n.refusesFrames then .held else .queued }, false)
  else (n, true)

/-- The hall leaves AWAIT_SLOT: the slot wait ends (R138). -/
def vsuLeave (n : Node) : Node := { n with vsu.sought := false, vsu.slotWait := none }

/-- DISCHARGING is entered with ISOLATED_RELEASE: a VENT not asked for is HELD (R137). -/
def vsuIsolated (n : Node) : Node :=
  if n.vsuActive ∧ n.vsu.own = .none then { n with vsu.own := .held } else n

/-- The withdrawal (R139). An inactive VSU has announced nothing and sends no frame (R132). -/
def vsuWithdraw (n : Node) : Node :=
  let m := { n with vsu.sought := false, vsu.slotWait := none, vsu.own := .none }
  let m := { m with vsu.status := m.ventStatusNow }
  match n.vsu.own with
  | .placed => queueVentfree n.cfg.ventGroup m
  | .queued => queueVentfree n.cfg.ventGroup m
  | .held => m
  | .none => m

/-- LKC reports the VENT placed (R137). It is PLACED unless a newer VENT already waits (log 15). -/
def ventPlaced (n : Node) : Node × Bool :=
  if n.vsu.own = .queued ∧ n.lkc.outbox.vent = none then ventReeval { n with vsu.own := .placed }
  else (n, false)

/-- The link is LOST (R140). -/
def vsuLost (n : Node) : Node :=
  { n with vsu.queue := [], vsu.status := .none,
           vsu.own := if n.vsu.own = .queued ∨ n.vsu.own = .placed then .held else n.vsu.own }

/-- PRESENT entries of this node's group with a vent status, by ascending id, without the own (R141). -/
def Node.groupWith (n : Node) (st : VentStatus) : List NodeId :=
  allNodes.filter (fun i =>
    decide (i ≠ n.id) && (n.peer i).present && decide ((n.peer i).ventGroup = n.cfg.ventGroup)
      && decide ((n.peer i).ventStatus = st))

/-- The rebuild at every entry to JOINED (R141), and the VENT that was HELD handed over (R137). -/
def vsuJoined (n : Node) : Node × Bool :=
  if n.vsuActive then
    let (m, held) := ventReeval { n with vsu.queue := n.groupWith .holding ++ n.groupWith .waiting }
    (if m.vsu.own = .held then queueVent m.cfg.ventGroup { m with vsu.own := .queued } else m, held)
  else (n, false)

/-- The slot wait runs out with slot sought yes (R138); `true` is the slot wait expired report. -/
def vsuWaitOver (n : Node) : Node × Bool :=
  ({ n with vsu.slotWait := none, vsu.sought := false }, n.vsu.sought)

end Sys2Proof.Machine
end

