-- ==== Sys2Proof/Machine/Sequencer.lean ====
section
/-! DEFINITION. Sequencer: the hall states and what moves the hall between them (R1 to R28, R186). The
outputs that go with a hall state are driven at the end of the event (R144). -/

namespace Sys2Proof.Machine

/-! ## Causes -/

/-- A neighbour's hall state that gives an adjacent cause (R3). -/
def warns : Option HallState → Bool
  | some .countdown => true
  | some .hold => true
  | some .awaitSlot => true
  | some .discharging => true
  | some .quiet => false
  | some .alert => false
  | some .soak => false
  | some .spent => false
  | some .lockout => false
  | none => false

/-- The adjacent cause as the peer table now gives it; the own id in the neighbour set is disregarded
(R2, R3). -/
def Node.adjacentNow (n : Node) : Bool :=
  allNodes.any (fun i => decide (i ≠ n.id) && n.cfg.neighbours.testBit i.val && (n.peer i).present
    && warns (n.peer i).hall)

/-- A zone cause stands (R3). -/
def Hsq.zoneCause (h : Hsq) : Bool := h.latchedA || h.latchedB

/-- The condition of the degraded confirm timer: one zone latched, the other not latched and in
reported fault (R6). -/
def Hsq.degradedHolds (h : Hsq) : Bool :=
  (h.latchedA && !h.latchedB && h.faultB) || (h.latchedB && !h.latchedA && h.faultA)

/-! ## Discharge -/

/-- Mark a channel's entry in the own firing list (R17). -/
def markOwn (c : ChanId) (st : FireStatus) (n : Node) : Node :=
  { n with hsq.firing := n.hsq.firing.map (fun e => if e.1 = c then (c, st) else e) }

/-- Append the first candidate that VCU accepts as a substitute; a refused one is a further failure
(R17, R77). -/
def seekOwn : List ChanId → Node → Node
  | [], n => n
  | d :: ds, n =>
    match requestHall d n with
    | some m => { m with hsq.firing := m.hsq.firing ++ [(d, .pending)] }
    | none => seekOwn ds { n with hsq.firing := n.hsq.firing ++ [(d, .failed)] }

/-- A failed own group: FAILED, and a substitute among the READY HALL channels not in the list (R17). -/
def ownFailed (c : ChanId) (n : Node) : Node :=
  let m := markOwn c .failed n
  seekOwn (m.readyHall.filter (fun d => d ∉ m.hsq.firing.map Prod.fst)) m

/-- Request one pulse for each channel of the list, in order; a refusal is a group failure (R16). -/
def requestOwn : List ChanId → Node → Node
  | [], n => n
  | c :: cs, n =>
    match requestHall c n with
    | some m => requestOwn cs m
    | none => requestOwn cs (ownFailed c n)

/-- Build the own firing list from the given channels and request their pulses (R16 step 2). -/
def fireOwn (cs : List ChanId) (n : Node) : Node :=
  requestOwn cs { n with hsq.firing := cs.map (fun c => (c, .pending)) }

/-- The discharge duration timer started or restarted, the elapsed marker cleared (R16, R17). -/
def startDuration (n : Node) : Node :=
  { n with hsq.duration := some (n.now + 1000 * n.cfg.duration), hsq.elapsed := false }

/-- The hall state becomes DISCHARGING: the deferral starts afresh (R73) and the slot wait ends (R138). -/
def toDischarging (n : Node) : Node :=
  vsuLeave (resetDeferral { n with hsq.hall := .discharging, hsq.countdown := .off })

/-- Reserve phase at the entry to DISCHARGING (R16 step 3). -/
def openReserve (n : Node) : Node :=
  if 0 < n.apl.nRes then rclBegin { n with hsq.reservePhase := .opened }
  else { n with hsq.reservePhase := .resolved, hsq.reserveOutcome := .none }

/-- The entry to DISCHARGING in NORMAL mode (R16). -/
def enterDischarging (n : Node) : Node :=
  let m := toDischarging n
  let m := releaseWrite m.apl.wd m.apl.nOwn m.apl.nRes m
  let m := fireOwn (m.readyHall.take m.apl.nOwn) m
  (startDuration (openReserve m)).setFlag .released

/-- The entry to DISCHARGING in FALLBACK mode (R28). -/
def enterFallback (n : Node) : Node :=
  let m := toDischarging n
  let m := releaseWrite 0 m.readyHall.length 0 m
  let m := fireOwn m.readyHall m
  (startDuration { m with hsq.reservePhase := .resolved, hsq.reserveOutcome := .none }).setFlag .released

/-- AWAIT_SLOT is left by an isolated release (R15, R137). -/
def isolatedRelease (n : Node) : Node :=
  vsuIsolated (enterDischarging (n.setFlag .isolatedRelease))

/-- The move to SOAK (R19, R23 step 3, R28). -/
def enterSoak (n : Node) : Node :=
  let m := resetDeferral { n with hsq.hall := .soak }
  let m := if m.normal then vsuWithdraw (aplEvaluate m) else m
  { m with hsq.soak := some (m.now + 1000 * m.cfg.soak) }

/-- Every own entry is resolved, the reserve phase RESOLVED and the elapsed marker set (R19). -/
def Node.soakDue (n : Node) : Bool :=
  decide (n.hsq.hall = .discharging) && n.hsq.firing.all (fun e => decide (e.2 ≠ .pending))
    && decide (n.hsq.reservePhase = .resolved) && n.hsq.elapsed

/-- The test for SOAK (R19). -/
def soakTest (n : Node) : Node := if n.soakDue then enterSoak n else n

/-- HSQ takes a report of an own pulse (R17). A cancelled one marks its entry in any hall state; the
others act on the list in DISCHARGING (section 1.12; log 22). -/
def ownReport (c : ChanId) (r : PulseResult) (n : Node) : Node :=
  match r with
  | .cancelled => markOwn c .failed n
  | .confirmed =>
    if n.hsq.hall = .discharging then startDuration (markOwn c .confirmed n) else n
  | .failed => if n.hsq.hall = .discharging then ownFailed c n else n

/-! ## Vent slot -/

/-- The slot held report (R15). -/
def slotHeld (n : Node) : Node := if n.hsq.hall = .awaitSlot then enterDischarging n else n

/-- Take a VSU result: the slot held report where it gives one. -/
def takeSlot (r : Node × Bool) : Node := if r.2 then slotHeld r.1 else r.1

/-- The slot wait expired report (R15). -/
def slotForced (n : Node) : Node :=
  if n.hsq.hall = .awaitSlot then enterDischarging (n.setFlag .ventForced) else n

/-! ## Countdown -/

/-- The EPO point, tested in COUNTDOWN against the remaining time (R12). -/
def epoTest (n : Node) : Node :=
  if n.hsq.hall = .countdown ∧ n.cfg.epoEnable = true ∧ 0 < n.cfg.epoLead
      ∧ n.remaining ≤ 1000 * n.cfg.epoLead then
    { n with hsq.epoReached := true }
  else n

/-- The EPO point at countdown expiry, with a lead of 0 (R13 step 3). -/
def epoAtExpiry (n : Node) : Node :=
  if n.cfg.epoEnable = true ∧ n.cfg.epoLead = 0 then { n with hsq.epoReached := true } else n

/-- Countdown expiry (R13, R27). -/
def expire (n : Node) : Node :=
  if n.normal then
    let m := aplReplan n
    let m := epoAtExpiry (rclNewCount m.apl.nRes m)
    let m := { m with hsq.hall := .awaitSlot, hsq.countdown := .off }
    if m.lkc.link = .lost then isolatedRelease m else takeSlot (vsuAsk m)
  else enterFallback n

/-- Expiry at once when the hall is in COUNTDOWN with nothing remaining (R8, R10, R11). -/
def expireIfDone (n : Node) : Node :=
  if n.hsq.hall = .countdown ∧ n.remaining = 0 then expire n else n

/-- A hold operated event (R9, R14, R15, R19). -/
def holdOperated (n : Node) : Node :=
  match n.hsq.hall with
  | .countdown =>
    if n.hsq.manualOverride then n.setFlag .holdIgnored
    else { n with hsq.hall := .hold, hsq.countdown := .held n.remaining }
  | .awaitSlot => n.setFlag .holdIgnored
  | .discharging => n.setFlag .holdIgnored
  | .quiet => n
  | .alert => n
  | .hold => n
  | .soak => n
  | .spent => n
  | .lockout => n

/-- The countdown runs on with `left` ms; the EPO point and the expiry are tested (R10, R11). -/
def resume (left : Nat) (n : Node) : Node :=
  expireIfDone (epoTest { n with hsq.hall := .countdown, hsq.countdown := .running (n.now + left) })

/-- A hold released event (R10). -/
def holdReleased (n : Node) : Node :=
  if n.hsq.hall = .hold then resume (max n.remaining (1000 * n.cfg.holdRestart)) n else n

/-- The record at the entry to COUNTDOWN (R8 step 1, R186). -/
def startCountdown (cause : Cause) (left : Nat) (n : Node) : Node :=
  { n with hsq.hall := .countdown, hsq.countdown := .running (n.now + left), hsq.cause := cause,
           hsq.manualOverride := n.hsq.manualOverride || decide (cause = Cause.manual),
           hsq.epoReached := false, hsq.degraded := none, hsq.firing := [], hsq.reservePhase := .none,
           hsq.reserveOutcome := .none, hsq.elapsed := false, hsq.duration := none }.setFlag .confirmed

/-- The entry to COUNTDOWN from QUIET or ALERT (R8, R27). -/
def enterCountdown (cause : Cause) (left : Nat) (n : Node) : Node :=
  let m := startCountdown cause left n
  let m := if m.normal then rclCountdown (aplPlan m) else m
  let m := epoTest m
  expireIfDone (if m.fiu.hold.delivered = .operated then holdOperated m else m)

/-! ## QUIET, ALERT and LOCKOUT -/

/-- The hall rests in QUIET or ALERT by its causes, with the degraded confirm timer as its condition
now stands (R4, R6). -/
def rest (n : Node) : Node :=
  let cause := n.hsq.zoneCause || n.hsq.adjacent
  let timer := if n.normal && n.hsq.degradedHolds then
      some (n.hsq.degraded.getD (n.now + 1000 * n.cfg.degradedDelay)) else none
  if cause then { n with hsq.hall := .alert, hsq.degraded := timer }
  else { n with hsq.hall := .quiet, hsq.degraded := timer, hsq.manualOverride := false,
                hsq.epoReached := false }

/-- The tests of R4, R5 and R6 in QUIET and ALERT; other states keep only the cause fields (R3). -/
def reeval (n : Node) : Node :=
  if n.hsq.hall = .quiet ∨ n.hsq.hall = .alert then
    if n.normal && n.hsq.latchedA && n.hsq.latchedB then
      enterCountdown .crossZone (1000 * n.cfg.countdown) n
    else rest n
  else n

/-- Copy FIU's latches and faults and act on them (R1, R3 to R6). -/
def refreshZones (n : Node) : Node :=
  reeval { n with hsq.latchedA := n.fiu.zoneA.latched, hsq.latchedB := n.fiu.zoneB.latched,
                  hsq.faultA := n.fiu.zoneA.fault, hsq.faultB := n.fiu.zoneB.fault }

/-- Work out the adjacent cause afresh and act on it (R3, R4). -/
def refreshAdjacent (n : Node) : Node := reeval { n with hsq.adjacent := n.adjacentNow }

/-- The entry to QUIET from LOCKOUT (R24). -/
def enterQuiet (n : Node) : Node :=
  reeval { n with hsq.hall := .quiet, hsq.manualOverride := false, hsq.epoReached := false }

/-- Every entry to LOCKOUT; with the key delivered NORMAL the hall goes on to QUIET (R24). -/
def enterLockout (n : Node) : Node :=
  let m := { n with hsq.hall := .lockout, hsq.manualOverride := false, hsq.cause := .none,
                    hsq.epoReached := false, hsq.countdown := .off, hsq.degraded := none,
                    hsq.duration := none, hsq.soak := none }
  if m.isolate then m else enterQuiet m

/-- A manual release event (R7, R11). -/
def manualRelease (n : Node) : Node :=
  let shorten := resume (min n.remaining (1000 * n.cfg.manualCountdown))
    { n with hsq.manualOverride := true }
  match n.hsq.hall with
  | .quiet => enterCountdown .manual (1000 * n.cfg.manualCountdown) n
  | .alert => enterCountdown .manual (1000 * n.cfg.manualCountdown) n
  | .countdown => shorten
  | .hold => shorten
  | .awaitSlot => n
  | .discharging => n
  | .soak => n.setFlag .manualIgnored
  | .spent => n.setFlag .manualIgnored
  | .lockout => n.setFlag .manualIgnored

/-- Cancel every own pulse still queued; its entry is FAILED without substitution (R23 step 1). -/
def cancelOwn (n : Node) : Node :=
  n.hsq.firing.foldl (fun m e =>
    match cancelHall e.1 m with
    | some m' => markOwn e.1 .failed m'
    | none => m) n

/-- The key to ISOLATE at the sequencer (R20 to R23). -/
def hsqIsolate (n : Node) : Node :=
  match n.hsq.hall with
  | .quiet => enterLockout (rclGiveUp n)
  | .alert => enterLockout (rclGiveUp n)
  | .countdown => enterLockout (rclGiveUp n)
  | .hold => enterLockout (rclGiveUp n)
  | .awaitSlot => enterLockout (vsuWithdraw (rclGiveUp n))
  | .discharging =>
    let m := cancelOwn n
    enterSoak (if m.hsq.reservePhase = .opened then rclGiveUp m else m)
  | .soak => n
  | .spent => n
  | .lockout => n

/-- The key to NORMAL at the sequencer (R24). -/
def hsqNormal (n : Node) : Node := if n.hsq.hall = .lockout then enterQuiet n else n

/-- The store reports row 12 erased (R21). -/
def rowErased (n : Node) : Node := if n.hsq.hall = .spent then enterLockout n else n

/-- The link is LOST, at the sequencer (R3, R15). -/
def hsqLost (n : Node) : Node :=
  let m := refreshAdjacent n
  if m.hsq.hall = .awaitSlot then isolatedRelease m else m

/-! ## The sequencer's own timers -/

/-- The degraded confirm timer's expiry (R6). -/
def degradedExpiry (n : Node) : Node :=
  if due n.now n.hsq.degraded then
    if n.hsq.hall = .quiet ∨ n.hsq.hall = .alert then
      (enterCountdown .degraded (1000 * n.cfg.countdown) n).setFlag .degradedConfirm
    else { n with hsq.degraded := none }
  else n

/-- The running countdown has fallen to the EPO lead (R12). -/
def epoPoint (n : Node) : Node := epoTest n

/-- The countdown has run out (R13). -/
def countdownOver (n : Node) : Node :=
  match n.hsq.countdown with
  | .running ends => if n.hsq.hall = .countdown ∧ ends ≤ n.now then expire n else n
  | .held _ => n
  | .off => n

/-- The discharge duration timer's expiry (R19); outside DISCHARGING it changes nothing else
(section 1.12; log 32). -/
def durationOver (n : Node) : Node :=
  if due n.now n.hsq.duration then
    let m := { n with hsq.duration := none }
    if m.hsq.hall = .discharging then soakTest { m with hsq.elapsed := true } else m
  else n

/-- The soak timer's expiry (R20). -/
def soakOver (n : Node) : Node :=
  if due n.now n.hsq.soak then
    let m := { n with hsq.soak := none }
    if m.hsq.hall = .soak then { m with hsq.hall := .spent } else m
  else n

end Sys2Proof.Machine
end

