-- ==== Sys2Proof/Machine/Plant.lean ====
section
/-! DEFINITION. Plant: the plant outputs, their supervision, and what every event ends with: the
outputs driven, a STANDING queued on a change, and the placement timer (R85, R94, R143 to R155). -/

namespace Sys2Proof.Machine

/-! ## The commanded outputs -/

/-- The commanded sounder stage (R145, R146). -/
def Node.stageNow (n : Node) : Stage :=
  match n.hsq.hall with
  | .discharging => .stage3
  | .soak => .stage3
  | .spent => .stage3
  | .countdown => .stage2
  | .hold => .stage2
  | .awaitSlot => .stage2
  | .alert => .stage1
  | .lockout =>
    if n.fiu.zoneA.latched || n.fiu.zoneB.latched || n.fiu.zoneA.isolated || n.fiu.zoneB.isolated then
      .stage1
    else .off
  | .quiet => .off

/-- The hall states of a warning or a release: COUNTDOWN to SPENT (R147, R148). -/
def hallActive : HallState → Bool
  | .countdown => true
  | .hold => true
  | .awaitSlot => true
  | .discharging => true
  | .soak => true
  | .spent => true
  | .quiet => false
  | .alert => false
  | .lockout => false

/-- The hall states of a release: DISCHARGING, SOAK, SPENT (R147). -/
def hallReleased : HallState → Bool
  | .discharging => true
  | .soak => true
  | .spent => true
  | .quiet => false
  | .alert => false
  | .countdown => false
  | .hold => false
  | .awaitSlot => false
  | .lockout => false

/-- The EPO request (R149). -/
def Node.epoNow (n : Node) : Bool :=
  n.cfg.epoEnable && (n.hsq.epoReached || (hallReleased n.hsq.hall && n.normal))

/-- The ON and OFF time of a stage's pattern; none without a pattern (R145). -/
def Stage.phase : Stage → Option Time
  | .off => none
  | .stage1 => some Config.stage1Phase
  | .stage2 => some Config.stage2Phase
  | .stage3 => none

/-- A number for the commanded state of a supervised output (R152: the sounder's is its stage). -/
def Pou.level (p : Pou) : SupOutput → Nat
  | .sounder => match p.stage with | .off => 0 | .stage1 => 1 | .stage2 => 2 | .stage3 => 3
  | .strobe => p.strobe.toNat
  | .sign => p.sign.toNat
  | .hvac => p.hvac.toNat
  | .damper => p.damper.toNat
  | .epo => p.epo.toNat
  | .trouble => p.troubleClosed.toNat
  | .released => p.released.toNat

/-- The sounder at its commanded stage; a change of stage starts the pattern in its ON phase (R145). -/
def Pou.setStage (now : Time) (st : Stage) (p : Pou) : Pou :=
  if p.stage = st then p
  else { p with stage := st, patternOn := decide (st ≠ .off),
                patternEnd := st.phase.map (fun t => now + t) }

/-- Set the record of one supervised output. -/
def Pou.setSup (o : SupOutput) (f : SupRec → SupRec) (p : Pou) : Pou :=
  { p with sup := p.sup.set (supIdx o) (f (p.sup.get (supIdx o))) }

/-- The settle time starts at every change of an output's commanded state (R152). -/
def settleChanges (now : Time) (old p : Pou) : Pou :=
  allOutputs.foldl (fun q o =>
    if old.level o = p.level o then q
    else q.setSup o (fun r => { r with settle := some (now + Config.settleTime) })) p

/-- The ATTN line follows the sticky flags (R151). -/
def Node.attnNow (n : Node) : Bool := decide (n.svp.flags ≠ 0)

/-- Every output evaluated from its inputs (R144 to R151). -/
def Node.outputs (n : Node) : Pou :=
  { n.pou.setStage n.now n.stageNow with
    strobe := hallActive n.hsq.hall, sign := hallReleased n.hsq.hall, hvac := hallActive n.hsq.hall,
    damper := hallActive n.hsq.hall, epo := n.epoNow, released := hallReleased n.hsq.hall,
    troubleClosed := !n.trouble, attn := n.attnNow }

/-- POU drives the outputs of the state in which the event leaves the node (R144). -/
def pouEval (n : Node) : Node := { n with pou := settleChanges n.now n.pou n.outputs }

/-! ## The end of an event -/

/-- The wanted count the STANDING shows (R120). -/
def Rcl.shownWanted (r : Rcl) : Nat := if r.claims then r.n else 0

/-- The STANDING built from the owners' present state, with the given holder id (R85). -/
def Node.standing (n : Node) (holder : NodeId) : Standing :=
  { hall := n.hsq.hall, mode := n.hsq.mode, lockout := n.isolate, short := n.apl.short,
    low := n.apl.low, trouble := n.trouble, ventGroup := if n.normal then n.cfg.ventGroup else 0,
    ventStatus := n.vsu.status, bidHolder := holder, wanted := n.rcl.shownWanted, cls := n.cfg.cls,
    holderPart := n.holderPart }

/-- A change of any field of the STANDING queues one, in LISTEN and JOINED (R85; log 13). -/
def announce (before n : Node) : Node :=
  if before.standing 0 = n.standing 0 ∨ n.lkc.link = .lost then n else queueStanding n

/-- The placement timer runs while a frame may be offered or is in flight, out of LOST (R94). -/
def placementTest (n : Node) : Node :=
  if n.lkc.link ≠ .lost ∧ (n.offerable = true ∨ n.lkc.inFlight.isSome = true) then
    { n with lkc.placement := some (n.lkc.placement.getD (n.now + 2 * n.cfg.period)) }
  else { n with lkc.placement := none }

/-- What every event ends with: in RUN the outputs, the STANDING and the placement timer; before it
the ATTN line alone (R143, R144, R151). -/
def finish (before n : Node) : Node :=
  if n.running then placementTest (announce before (pouEval n))
  else { n with pou.attn := n.attnNow }

/-- An event of the node: its effect, and what every event ends with. -/
def onNode (f : Node → Node) (s : State) : Host.Outcome State Fault Refusal :=
  .next { s with node := finish s.node (f s.node) }

/-- An event that happens only in RUN; elsewhere it changes nothing (log 2). -/
def inRun (f : Node → Node) (s : State) : Host.Outcome State Fault Refusal :=
  if s.node.running then onNode f s else .next s

/-! ## Supervision and the sounder's pattern -/

/-- The fault and recovery runs of a supervised output at a counted read; `true` when the output goes
into fault (R153). -/
def SupRec.count (now : Time) (cls : SupClass) (r : SupRec) : SupRec × Bool :=
  match supFaultKind? cls with
  | some kind =>
    let run := startRun now r.faultRun
    if r.inFault then ({ r with faultRun := run, recRun := none, kind := some kind }, false)
    else if lasted now run Config.faultTime then
      ({ r with faultRun := none, recRun := none, inFault := true, kind := some kind }, true)
    else ({ r with faultRun := run, recRun := none }, false)
  | none =>
    if r.inFault then
      let run := startRun now r.recRun
      if lasted now run Config.faultTime then
        ({ r with faultRun := none, recRun := none, inFault := false, kind := none }, false)
      else ({ r with faultRun := none, recRun := run }, false)
    else ({ r with faultRun := none }, false)

/-- The output takes supervision reads: the EPO request only while EPO enable is ON (R152). -/
def Node.supervised (n : Node) (o : SupOutput) : Bool := decide (o ≠ .epo) || n.cfg.epoEnable

/-- One supervision read; a read during the settle time is stored and not counted (R152, R153). -/
def supervise (o : SupOutput) (cls : SupClass) (n : Node) : Node :=
  if n.supervised o then
    let r := n.pou.sup.get (supIdx o)
    let seen := { r with cls := some cls, readAt := n.now + Config.readPeriod }
    if r.settle.isSome then { n with pou := n.pou.setSup o (fun _ => seen) }
    else
      let (counted, entered) := seen.count n.now cls
      { n with pou := n.pou.setSup o (fun _ => counted) }.setFlagIf entered .outputFault
  else n

/-- The settle time of an output ends (R152). -/
def settleOver (o : SupOutput) (n : Node) : Node :=
  if due n.now (n.pou.sup.get (supIdx o)).settle then
    { n with pou := n.pou.setSup o (fun r => { r with settle := none }) }
  else n

/-- A phase time of the sounder pattern ends: ON and OFF swap (R145). -/
def phaseOver (n : Node) : Node :=
  if due n.now n.pou.patternEnd then
    { n with pou.patternOn := !n.pou.patternOn,
             pou.patternEnd := n.pou.stage.phase.map (fun t => n.now + t) }
  else n

/-! ## The commands -/

/-- SUPERVISION_READ (R152, R153). -/
def execSupervisionRead (output : SupOutput) (cls : SupClass) (s : State) :
    Host.Outcome State Fault Refusal := inRun (supervise output cls) s

/-- SETTLE_TIME_EXPIRY (R152). -/
def execSettleTimeExpiry (output : SupOutput) (s : State) : Host.Outcome State Fault Refusal :=
  inRun (settleOver output) s

/-- SOUNDER_PHASE_EXPIRY (R145). -/
def execSounderPhaseExpiry (s : State) : Host.Outcome State Fault Refusal := inRun phaseOver s

/-- DEGRADED_CONFIRM_EXPIRY (R6). -/
def execDegradedConfirmExpiry (s : State) : Host.Outcome State Fault Refusal := inRun degradedExpiry s

/-- EPO_POINT_REACHED (R12). -/
def execEpoPointReached (s : State) : Host.Outcome State Fault Refusal := inRun epoPoint s

/-- COUNTDOWN_EXPIRY (R13, R14). -/
def execCountdownExpiry (s : State) : Host.Outcome State Fault Refusal := inRun countdownOver s

/-- DISCHARGE_DURATION_EXPIRY (R19). -/
def execDischargeDurationExpiry (s : State) : Host.Outcome State Fault Refusal := inRun durationOver s

/-- SOAK_EXPIRY (R20). -/
def execSoakExpiry (s : State) : Host.Outcome State Fault Refusal := inRun soakOver s

end Sys2Proof.Machine
end

