-- ==== Sys2Proof/Machine/Reports.lean ====
section
/-! DEFINITION. Reports: what the owners do with VCU's reports within the event (R75, R108, section
4.8), and the commands of the valve unit. -/

namespace Sys2Proof.Machine

/-- Hand VCU's reports to their owners, in order: HSQ and APL, or RVA. -/
def deliver : List VReport → Node → Node
  | [], n => n
  | .own c r :: rs, n => deliver rs (ownReport c r (if r = .confirmed then aplOwnConfirmed n else n))
  | .feed c r :: rs, n => deliver rs (placeReport c r n)
  | .uncommitted i :: rs, n => deliver rs (rvaUncommitted i n)
  | .ready :: rs, n => deliver rs (grantWalk n)

/-- The report is one of a pulse of RVA. -/
def VReport.ofFeed : VReport → Bool
  | .feed _ _ => true
  | .own _ _ => false
  | .uncommitted _ => false
  | .ready => false

/-- The reports delivered; the tests of feed end and feed start follow a report of RVA's pulse (R116,
R118). -/
def takeReports (r : Node × List VReport) : Node :=
  if r.2.any VReport.ofFeed then feedTest (deliver r.2 r.1) else deliver r.2 r.1

/-- The reports delivered, and the test for SOAK that follows a report (R19). -/
def afterReports (r : Node × List VReport) : Node :=
  if r.2 = [] then r.1 else soakTest (takeReports r)

/-- Hand one selector report of VCU to RCL; the test for SOAK follows (R124, R129). -/
def selReport (r : SelReport) (n : Node) : Node :=
  match r with
  | .opened => soakTest (rclOpened n)
  | .closed => n
  | .jammed => soakTest (rclJammed n)

/-- Hand VCU's selector reports to RCL, in order. -/
def selReports (rs : List SelReport) (n : Node) : Node := rs.foldl (fun m r => selReport r m) n

/-! ## Events of the valve unit -/

/-- The defer timer's expiry (R73). -/
def deferOver (n : Node) : Node :=
  if due n.now n.vcu.deferTimer then
    let m := { n with vcu.deferTimer := none }
    if m.vcu.deferral = .active then { m with vcu.deferral := .waived }.setFlag .pressureForced else m
  else n

/-- The arbiter starts the oldest eligible entry (R71). -/
def arbiterStart (n : Node) : Node :=
  match n.nextPulse with
  | none => n
  | some c => startPulse c n

/-- The end of the pulse length (R74). -/
def pulseOver (n : Node) : Node :=
  if due n.now n.vcu.pulseEnd then afterReports (endPulse n) else n

/-- The end of a confirm window (R74). -/
def windowOver (c : ChanId) (n : Node) : Node :=
  if due n.now (n.chan c).window then afterReports (endWindow c n) else n

/-- The stagger timer's expiry (R72). -/
def staggerOver (n : Node) : Node :=
  if due n.now n.vcu.stagger then { n with vcu.stagger := none } else n

/-- The drive monitor's condition: continuous current for 3.0 s on an output not yet cut (R76). -/
def Node.driveLong (n : Node) (c : ChanId) : Bool :=
  !(n.chan c).driveCut && lasted n.now (n.chan c).currentSince Config.driveLimit

/-- The drive monitor's cut (R76). -/
def monitorCut (c : ChanId) (n : Node) : Node :=
  if n.driveLong c then afterReports (cutDrive c n) else n

/-- The selector's travel timer ends (R78). -/
def travelOver (n : Node) : Node :=
  if due n.now n.vcu.selector.travel then
    if n.vcu.selector.state = .jammed then { n with vcu.selector.travel := none }
    else selReports [.jammed] (selJam n)
  else n

/-- One read of the limit switches (section 4.8). -/
def limitRead (openMade closedMade : Bool) (n : Node) : Node :=
  let (m, rs) := selRead (selReading openMade closedMade) n
  selReports rs m

/-! ## The commands -/

/-- DEFER_TIMER_EXPIRY (R73). -/
def execDeferTimerExpiry (s : State) : Host.Outcome State Fault Refusal := inRun deferOver s

/-- CYLINDER_PRESSURE_READ (R65, R66, R74). -/
def execCylinderPressureRead (channel : ChanId) (reading : Nat) (s : State) :
    Host.Outcome State Fault Refusal :=
  inRun (fun n => afterReports (cylinderRead channel reading n)) s

/-- PULSE_START (R71, R72, R74). -/
def execPulseStart (s : State) : Host.Outcome State Fault Refusal := inRun arbiterStart s

/-- PULSE_LENGTH_EXPIRY (R74). -/
def execPulseLengthExpiry (s : State) : Host.Outcome State Fault Refusal := inRun pulseOver s

/-- CONFIRM_WINDOW_EXPIRY (R74). -/
def execConfirmWindowExpiry (channel : ChanId) (s : State) : Host.Outcome State Fault Refusal :=
  inRun (windowOver channel) s

/-- STAGGER_TIMER_EXPIRY (R72). -/
def execStaggerTimerExpiry (s : State) : Host.Outcome State Fault Refusal := inRun staggerOver s

/-- DRIVE_MONITOR_CUT (R76). -/
def execDriveMonitorCut (channel : ChanId) (s : State) : Host.Outcome State Fault Refusal :=
  inRun (monitorCut channel) s

/-- DRIVE_CURRENT_WITHOUT_COMMAND (R76). -/
def execDriveCurrentWithoutCommand (channel : ChanId) (drawing : Bool) (s : State) :
    Host.Outcome State Fault Refusal :=
  inRun (fun n => afterReports (selfDrive channel drawing n)) s

/-- SELECTOR_LIMIT_READ (section 4.8, R78). -/
def execSelectorLimitRead (openMade closedMade : Bool) (s : State) :
    Host.Outcome State Fault Refusal := inRun (limitRead openMade closedMade) s

/-- SELECTOR_TRAVEL_EXPIRY (R78). -/
def execSelectorTravelExpiry (s : State) : Host.Outcome State Fault Refusal := inRun travelOver s

end Sys2Proof.Machine
end

