-- ==== Sys2Proof/Machine/Field.lean ====
section
/-! DEFINITION. Field: the Field Input Unit's samples and reads, and the commands that bring them
(R29 to R46). -/

namespace Sys2Proof.Machine

/-! ## Zone lines -/

/-- The alarm run after a sample of a class, and whether that sample completes it (R31). -/
def alarmStep (now verify : Time) (cls : ZoneClass) (run : Option Run) : Option Run × Bool :=
  if cls = .alarm then
    let r := run.getD { since := now, done := false }
    let completes := !r.done && decide (r.since + verify ≤ now)
    (some { r with done := r.done || completes }, completes)
  else (none, false)

/-- Latch or isolated alarm at a sample that completes an alarm run (R32). -/
def latchStep (cls : ZoneClass) (completes isolate : Bool) (z : ZoneRec) : ZoneRec :=
  if cls ≠ .alarm then { z with isolated := false }
  else if completes && !z.latched then
    if isolate then { z with isolated := true } else { z with latched := true }
  else z

/-- The fault and normal runs and the reported fault (R33). -/
def faultStep (now : Time) (cls : ZoneClass) (z : ZoneRec) : ZoneRec :=
  match cls.faultKind? with
  | some kind =>
    let run := startRun now z.faultRun
    if z.fault || lasted now run Config.faultTime then
      { z with faultRun := run, normalRun := none, fault := true, kind := some kind }
    else { z with faultRun := run, normalRun := none }
  | none =>
    if z.fault && decide (cls = .normal) then
      let run := startRun now z.normalRun
      if lasted now run Config.faultTime then
        { z with faultRun := none, normalRun := none, fault := false, kind := none }
      else { z with faultRun := none, normalRun := run }
    else { z with faultRun := none, normalRun := none }

/-- One zone sample on the zone's record (R31 to R34). -/
def ZoneRec.sample (now verify : Time) (isolate : Bool) (current : Nat) (z : ZoneRec) : ZoneRec :=
  let cls := zoneClass current
  let (run, completes) := alarmStep now verify cls z.alarmRun
  faultStep now cls (latchStep cls completes isolate
    { z with cls := some cls, alarmRun := run, sampleAt := now + Config.fieldPeriod })

/-- One sample of a zone line at FIU, without the sequencer. -/
def zoneRead (zone : Zone) (current : Nat) (n : Node) : Node :=
  match zone with
  | .a => { n with fiu.zoneA := n.fiu.zoneA.sample n.now n.cfg.verifyA n.isolate current }
  | .b => { n with fiu.zoneB := n.fiu.zoneB.sample n.now n.cfg.verifyB n.isolate current }

/-- One zone sample, and what the sequencer takes of it (R45). -/
def zoneEvent (zone : Zone) (current : Nat) (n : Node) : Node := refreshZones (zoneRead zone current n)

/-! ## Manual station, hold switch, key -/

/-- Fault and recovery runs of an input, and its fault, after a sample that is FAULT or not; with the
fault standing only the recovery run counts further (R37, R39, R42). -/
def faultRuns (now : Time) (isFault : Bool) (faultRun recRun : Option Time) (fault : Bool) :
    Option Time × Option Time × Bool :=
  if isFault then
    let run := startRun now faultRun
    (run, none, fault || lasted now run Config.faultTime)
  else if fault then
    let run := startRun now recRun
    if lasted now run Config.faultTime then (none, none, false) else (none, run, true)
  else (none, none, false)

/-- The OPERATED run after a sample, and whether it gives the manual release event (R36). -/
def operatedStep (now : Time) (cls : StationClass) (run : Option Run) : Option Run × Bool :=
  if cls = .operated then
    let r := run.getD { since := now, done := false }
    let gives := !r.done && decide (r.since + Config.operatedTime ≤ now)
    (some { r with done := r.done || gives }, gives)
  else (none, false)

/-- One sample of the manual station; `true` delivers a manual release event (R36, R37). -/
def StationRec.sample (now : Time) (current : Nat) (r : StationRec) : StationRec × Bool :=
  let cls := stationClass current
  let (op, gives) := operatedStep now cls r.opRun
  let (fr, rr, fault) := faultRuns now (decide (cls = .fault)) r.faultRun r.recRun r.fault
  ({ cls := some cls, opRun := op, faultRun := fr, recRun := rr, fault := fault,
     sampleAt := now + Config.fieldPeriod }, gives)

/-- One manual station sample, and the sequencer's part (R7). -/
def stationEvent (current : Nat) (n : Node) : Node :=
  let (r, gives) := n.fiu.station.sample n.now current
  let m := { n with fiu.station := r }
  if gives then manualRelease m else m

/-- The change run of a delivered position, and whether the sample delivers the change (R38, R40). -/
def changeStep (now : Time) (differs : Bool) (len : Time) (run : Option Time) : Option Time × Bool :=
  if differs then
    let r := startRun now run
    if lasted now r len then (none, true) else (r, false)
  else (none, false)

/-- One hold switch sample; `true` delivers the position as an event. The first sample is delivered at
once (R29, R38, R39). -/
def HoldRec.sample (now : Time) (first : Bool) (current : Nat) (r : HoldRec) : HoldRec × Bool :=
  let cls := holdClass current
  let (cr, changed) :=
    changeStep now (decide (cls.counted ≠ r.delivered)) Config.holdChangeTime r.changeRun
  let (fr, rr, fault) := faultRuns now (decide (cls = .fault)) r.faultRun r.recRun r.fault
  ({ cls := some cls, changeRun := if first then none else cr, faultRun := fr, recRun := rr,
     delivered := if first || changed then cls.counted else r.delivered, fault := fault,
     sampleAt := now + Config.fieldPeriod }, first || changed)

/-- One hold switch sample, and the sequencer's part (R9, R10). -/
def holdEvent (first : Bool) (current : Nat) (n : Node) : Node :=
  let (r, event) := n.fiu.hold.sample n.now first current
  let m := { n with fiu.hold := r }
  if event then (match r.delivered with | .operated => holdOperated m | .released => holdReleased m)
  else m

/-- One key sample; `true` delivers the position as an event (R29, R40, R42). -/
def KeyRec.sample (now : Time) (first normalMade isolateMade : Bool) (r : KeyRec) : KeyRec × Bool :=
  let cls := keyClass normalMade isolateMade
  let (cr, changed) :=
    changeStep now (decide (cls.counted ≠ r.delivered)) Config.keyChangeTime r.changeRun
  let (fr, rr, fault) := faultRuns now (decide (cls = .fault)) r.faultRun r.recRun r.fault
  ({ cls := some cls, changeRun := if first then none else cr, faultRun := fr, recRun := rr,
     delivered := if first || changed then cls.counted else r.delivered, fault := fault,
     sampleAt := now + Config.fieldPeriod }, first || changed)

/-- The alarm run of a zone ends and its isolated alarm becomes no (R41). -/
def ZoneRec.endAlarm (z : ZoneRec) : ZoneRec := { z with alarmRun := none, isolated := false }

/-- The delivered key position changes to ISOLATE: VCU, the owners of its reports, RVA, then HSQ (R22,
R23, R67, R112; log 10). -/
def keyIsolate (n : Node) : Node :=
  let m := takeReports (vcuIsolate n)
  hsqIsolate (if m.rvaActive then rvaIsolate m else m)

/-- The delivered key position changes to NORMAL: FIU ends the alarm runs, VCU returns its channels,
RVA walks and tests for a feed, then HSQ (R24, R41, R67, R112, R116). -/
def keyNormal (n : Node) : Node :=
  let m := { n with fiu.zoneA := n.fiu.zoneA.endAlarm, fiu.zoneB := n.fiu.zoneB.endAlarm }
  hsqNormal (feedTest (takeReports (vcuNormal m)))

/-- One key sample, and what follows a delivered position (R40, R41). -/
def keyEvent (first normalMade isolateMade : Bool) (n : Node) : Node :=
  let (r, event) := n.fiu.key.sample n.now first normalMade isolateMade
  let m := { n with fiu.key := r }
  if event then (match r.delivered with | .isolate => keyIsolate m | .normal => keyNormal m)
  else m

/-! ## Temperature and hall pressure -/

/-- One temperature read (R43). -/
def temperatureEvent (reading : Option Int) (n : Node) : Node :=
  { n with fiu.temp := { value := reading, status := tempStatus reading,
                         sampleAt := n.now + Config.temperaturePeriod } }

/-- One hall pressure read, handed to VCU as it is taken (R44, R73). -/
def pressureEvent (reading : Int) (n : Node) : Node :=
  deferralRead (pressStatus reading) reading
    { n with fiu.press := { value := some reading, status := pressStatus reading,
                            sampleAt := n.now + Config.readPeriod } }

/-! ## ALARM RESET at FIU -/

/-- ALARM RESET for one named zone (R35). -/
def ZoneRec.alarmReset (z : ZoneRec) : ZoneRec :=
  if z.latched then
    if z.cls = some .normal then { z with latched := false, lastReset := .cleared }
    else { z with lastReset := .refused }
  else { z with lastReset := .notLatched }

/-! ## The commands -/

/-- ZONE_SAMPLE (R31 to R34). -/
def execZoneSample (zone : Zone) (current : Nat) (s : State) : Host.Outcome State Fault Refusal :=
  inRun (zoneEvent zone current) s

/-- MANUAL_STATION_SAMPLE (R36, R37). -/
def execManualStationSample (current : Nat) (s : State) : Host.Outcome State Fault Refusal :=
  inRun (stationEvent current) s

/-- HOLD_SWITCH_SAMPLE (R38, R39). -/
def execHoldSwitchSample (current : Nat) (s : State) : Host.Outcome State Fault Refusal :=
  inRun (holdEvent false current) s

/-- KEY_SAMPLE (R40 to R42). -/
def execKeySample (normalMade isolateMade : Bool) (s : State) : Host.Outcome State Fault Refusal :=
  inRun (keyEvent false normalMade isolateMade) s

/-- TEMPERATURE_READ (R43). -/
def execTemperatureRead (reading : Option Int) (s : State) : Host.Outcome State Fault Refusal :=
  inRun (temperatureEvent reading) s

/-- HALL_PRESSURE_READ (R44, R73). -/
def execHallPressureRead (reading : Int) (s : State) : Host.Outcome State Fault Refusal :=
  inRun (pressureEvent reading) s

end Sys2Proof.Machine
end

