-- ==== Sys2Proof/WellFormed.lean ====
section
/-! DEFINITION. WellFormed: the range checks of R83 on the fields of a frame, and of a command that
carries one. -/

namespace Sys2Proof

/-- One grant entry: a granted count 1..8 (R84). -/
def Grant.valid (g : Grant) : Bool := decide (1 ≤ g.count) && decide (g.count ≤ 8)

/-- A holder part: ready count 0..8, at most eight entries, no grantee id twice (R84). -/
def HolderPart.valid (h : HolderPart) : Bool :=
  decide (h.ready ≤ 8) && decide (h.grants.length ≤ 8) && h.grants.all Grant.valid
    && decide ((h.grants.map Grant.grantee).Nodup)

/-- The fields of a STANDING: vent group none or 1..15, wanted 0..8, a valid holder part (R84). -/
def Standing.valid (s : Standing) : Bool :=
  decide (s.ventGroup ≤ 15) && decide (s.wanted ≤ 8)
    && (match s.holderPart with | none => true | some h => h.valid)

/-- Every field of the frame lies within the range of R84. -/
def Frame.valid : Frame → Bool
  | .standing _ s => s.valid
  | .bid _ _ wanted _ => decide (1 ≤ wanted) && decide (wanted ≤ 8)
  | .yield _ _ => true
  | .wayopen _ _ count => decide (1 ≤ count) && decide (count ≤ 8)
  | .fed _ _ confirmed failed _ => decide (confirmed ≤ 8) && decide (failed ≤ 8)
  | .vent _ group => decide (1 ≤ group) && decide (group ≤ 15)
  | .ventfree _ group => decide (1 ≤ group) && decide (group ≤ 15)

/-- The frame a command delivers, if it delivers one. -/
def Instr.frame? : Instr → Option Frame
  | .standingReceived src s => some (.standing src s)
  | .bidReceived src holder wanted cls => some (.bid src holder wanted cls)
  | .yieldReceived src holder => some (.yield src holder)
  | .wayopenReceived src holder count => some (.wayopen src holder count)
  | .fedReceived src grantee c f o => some (.fed src grantee c f o)
  | .ventReceived src group => some (.vent src group)
  | .ventfreeReceived src group => some (.ventfree src group)
  | _ => none

/-- A command is well formed when the frame it delivers is a valid frame; every other operand type
admits only values the spec gives a meaning. (A command that is not well formed is still executed:
its frame fails the checks of R83 and is counted as bad.) -/
def Instr.wellFormed (i : Instr) : Bool :=
  match i.frame? with
  | none => true
  | some f => f.valid

end Sys2Proof
end

