-- ==== Sys2Proof/Machine/Frames.lean ====
section
/-! DEFINITION. Frames: the bytes of a frame on the hall link, written and read (R182, R185). -/

namespace Sys2Proof.Machine

/-! ## Codes (R185) -/

/-- Code of a hall state. -/
def hallCode : HallState → Nat
  | .quiet => 0 | .alert => 1 | .countdown => 2 | .hold => 3 | .awaitSlot => 4
  | .discharging => 5 | .soak => 6 | .spent => 7 | .lockout => 8

/-- Code of a mode. -/
def modeCode : Mode → Nat
  | .normal => 0 | .fallback => 1

/-- Code of a class. -/
def classCode : BidClass → Nat
  | .ordinary => 0 | .elevated => 1

/-- Code of a vent status. -/
def ventCode : VentStatus → Nat
  | .none => 0 | .waiting => 1 | .holding => 2

/-- Code of a FED outcome. -/
def fedCode : FedOutcome → Nat
  | .complete => 0 | .part => 1 | .lapsed => 2 | .refused => 3

/-- The hall state of a code; a code outside the values answers some state, and the frame is then
refused by `parse`, whose bytes it does not give. -/
def hallOf : Nat → HallState
  | 0 => .quiet | 1 => .alert | 2 => .countdown | 3 => .hold | 4 => .awaitSlot
  | 5 => .discharging | 6 => .soak | 7 => .spent | _ => .lockout

/-- The mode of a code. -/
def modeOf (x : Nat) : Mode := if x = 0 then .normal else .fallback

/-- The class of a code. -/
def classOf (x : Nat) : BidClass := if x = 0 then .ordinary else .elevated

/-- The vent status of a code. -/
def ventOf : Nat → VentStatus
  | 0 => .none | 1 => .waiting | _ => .holding

/-- The FED outcome of a code. -/
def fedOf : Nat → FedOutcome
  | 0 => .complete | 1 => .part | 2 => .lapsed | _ => .refused

/-- The node id in the low four bits of a number. -/
def nodeOf (x : Nat) : NodeId := ⟨x % 16, Nat.mod_lt _ (by decide)⟩

/-! ## The check code -/

/-- One bit through the generator x^16 + x^12 + x^5 + 1 (R182). -/
def crcBit (c : BitVec 16) (b : Bool) : BitVec 16 :=
  if c.msb != b then (c <<< 1) ^^^ 0x1021#16 else c <<< 1

/-- One byte, most significant bit first. -/
def crcByte (c : BitVec 16) (x : Byte) : BitVec 16 :=
  [7, 6, 5, 4, 3, 2, 1, 0].foldl (fun d k => crcBit d (x.getLsbD k)) c

/-- The check code of a run of bytes: from all ones, not inverted at the end (R182). -/
def crc (bs : List Byte) : BitVec 16 := bs.foldl crcByte 0xFFFF#16

/-! ## Writing a frame -/

/-- A byte of a number below 256. -/
abbrev byte (x : Nat) : Byte := BitVec.ofNat 8 x

/-- Bit 3..0 and bit 4 of a byte: a node id and a class (R182). -/
def idClass (i : NodeId) (cls : BidClass) : Nat := i.val + 16 * classCode cls

/-- Byte 4 of a STANDING without its holder-part bit. -/
def standingFlags (s : Standing) : Nat :=
  s.lockout.toNat + 2 * s.short.toNat + 4 * s.low.toNat + 8 * s.trouble.toNat

/-- The bytes of the holder part (R182). -/
def holderBytes (h : HolderPart) : List Byte :=
  [byte (h.ready + 16 * h.lockout.toNat), byte h.grants.length]
    ++ h.grants.map (fun g => byte (16 * g.grantee.val + g.count))

/-- The field bytes of a STANDING (R182). -/
def standingBytes (s : Standing) : List Byte :=
  [byte (hallCode s.hall + 16 * modeCode s.mode),
   byte (standingFlags s + 128 * s.holderPart.isSome.toNat),
   byte (s.ventGroup + 16 * ventCode s.ventStatus), byte (idClass s.bidHolder s.cls), byte s.wanted]
    ++ (match s.holderPart with | none => [] | some h => holderBytes h)

/-- Kind code, source id and field bytes of a frame (R182). -/
def frameParts : Frame → Nat × NodeId × List Byte
  | .fed src grantee c f out => (1, src, [byte grantee.val, byte c, byte f, byte (fedCode out)])
  | .wayopen src holder count => (2, src, [byte holder.val, byte count])
  | .yield src holder => (3, src, [byte holder.val])
  | .ventfree src group => (4, src, [byte group])
  | .bid src holder wanted cls => (5, src, [byte (idClass holder cls), byte wanted])
  | .vent src group => (6, src, [byte group])
  | .standing src s => (7, src, standingBytes s)

/-- The kind code of a frame. -/
def kindCode (f : Frame) : Nat := (frameParts f).1

/-- The length of a frame in bytes, from the kind code to the end mark. -/
def frameLength (f : Frame) : Nat := (frameParts f).2.2.length + 6

/-- The bytes the check code is formed over: header and fields. -/
def frameBody (f : Frame) : List Byte :=
  let p := frameParts f
  [byte p.1, byte p.2.1.val, byte (frameLength f)] ++ p.2.2

/-- The bytes of a frame on the line (R182). -/
def encode (f : Frame) : List Byte :=
  let body := frameBody f
  let c := crc body
  body ++ [c.extractLsb' 8 8, c.extractLsb' 0 8, byte 0x7E]

/-! ## Reading a frame -/

/-- One grant entry of a byte. -/
def grantOfByte (b : Byte) : Grant := { grantee := nodeOf (b.toNat / 16), count := b.toNat % 16 }

/-- The fields of a STANDING in five bytes and what follows them. -/
def readStanding (b3 b4 b5 b6 b7 : Nat) (rest : List Byte) : Standing :=
  { hall := hallOf (b3 % 16), mode := modeOf (b3 / 16),
    lockout := b4.testBit 0, short := b4.testBit 1, low := b4.testBit 2, trouble := b4.testBit 3,
    ventGroup := b5 % 16, ventStatus := ventOf (b5 / 16), bidHolder := nodeOf b6, wanted := b7,
    cls := classOf (b6 / 16),
    holderPart :=
      if b4.testBit 7 then
        match rest with
        | b8 :: b9 :: more =>
          some { ready := b8.toNat % 16, lockout := b8.toNat.testBit 4,
                 grants := (more.take b9.toNat).map grantOfByte }
        | _ => none
      else none }

/-- The frame that the bytes would be, before any check. -/
def readFrame : List Byte → Option Frame
  | k :: s :: _ :: fields =>
    let src := nodeOf s.toNat
    match k.toNat, fields with
    | 1, g :: c :: f :: out :: _ => some (.fed src (nodeOf g.toNat) c.toNat f.toNat (fedOf out.toNat))
    | 2, h :: c :: _ => some (.wayopen src (nodeOf h.toNat) c.toNat)
    | 3, h :: _ => some (.yield src (nodeOf h.toNat))
    | 4, g :: _ => some (.ventfree src g.toNat)
    | 5, h :: w :: _ => some (.bid src (nodeOf h.toNat) w.toNat (classOf (h.toNat / 16)))
    | 6, g :: _ => some (.vent src g.toNat)
    | 7, b3 :: b4 :: b5 :: b6 :: b7 :: rest =>
      some (.standing src (readStanding b3.toNat b4.toNat b5.toNat b6.toNat b7.toNat rest))
    | _, _ => none
  | _ => none

/-- The valid frame the bytes are, or none: the bytes must be those of a frame whose every field lies
in its range, so that the check code, the end mark, the length, the codes and every bit the layout does
not assign agree (R83, R182). -/
def parse (bs : List Byte) : Option Frame :=
  match readFrame bs with
  | some f => if f.valid && decide (encode f = bs) then some f else none
  | none => none

end Sys2Proof.Machine
end

