-- ==== Sys2Proof/Machine/Link.lean ====
section
/-! DEFINITION. Link: frames heard and offered, the link states, the peer table, and the commands of
the link, the reserve timers and the slot wait (R82 to R101, R110, R126 to R128, R138). -/

namespace Sys2Proof.Machine

/-! ## Losing the line and the peers -/

/-- Run two steps whose order no rule fixes: the free choice says whether the second goes first. -/
def eitherOrder (f g : Node → Node) (n : Node) : Node :=
  let m := { n with free := n.free + 1 }
  if Config.rclTakesFirst n.free then f (g m) else g (f m)

/-- HSQ and RCL take one report; in AWAIT_SLOT their order shows, and is free (R95, R100, R128; log 11). -/
def hsqAndRcl (hsq rcl : Node → Node) (n : Node) : Node :=
  if n.hsq.hall = .awaitSlot then eitherOrder hsq rcl n else rcl (hsq n)

/-- A peer-table entry at an entry to LOST or at its presence timer's expiry: ABSENT, without an age;
its last-heard fields are kept (R95, R98, R100). -/
def Peer.absent (p : Peer) : Peer := { p with present := false, presence := none, lastHeard := none }

/-- LKC's own steps at an entry to LOST (R95). -/
def lkcLost (n : Node) : Node :=
  { n with lkc.link := .lost, lkc.listen := none, lkc.silence := none, lkc.placement := none,
           lkc.outbox := Outbox.empty, lkc.inFlight := none,
           lkc.dropped := n.lkc.inFlight,
           lkc.peers := mapVec Peer.absent n.lkc.peers }.setFlag .linkLost

/-- A loss of the holder at RCL, and the test for SOAK that follows (R19, R128). -/
def holderLoss (link : Bool) (n : Node) : Node := soakTest (rclLoss link n)

/-- The entry to LOST: LKC's steps, then the report to HSQ and RCL, RVA and VSU (R95). -/
def linkLost (n : Node) : Node :=
  vsuLost (rvaLost (hsqAndRcl hsqLost (holderLoss true) (lkcLost n)))

/-- The identity clash: from LOST the steps of R95 are not repeated (R97; log 30). -/
def idClash (n : Node) : Node :=
  let m := { n with lkc.clash := true }.setFlag .idClash
  if m.lkc.link = .lost then { m with lkc.inFlight := none } else linkLost m

/-- An absence is reported to HSQ, RVA, RCL and VSU (R100). -/
def peerAbsent (i : NodeId) (n : Node) : Node :=
  let m := rvaPeer i (refreshAdjacent (n.setPeer i (n.peer i).absent))
  let rcl := fun x : Node => if x.cfg.holder = some i then holderLoss false x else x
  hsqAndRcl (fun x => takeSlot (vsuAbsent i x)) rcl m

/-! ## The peer table -/

/-- The entry a STANDING gives (R99). -/
def Peer.ofStanding (now period : Time) (s : Standing) : Peer :=
  { present := true, lastHeard := some now, presence := some (now + 3 * period), hall := some s.hall,
    mode := some s.mode, lockout := s.lockout, short := s.short, low := s.low, trouble := s.trouble,
    ventGroup := s.ventGroup, ventStatus := s.ventStatus, bidHolder := s.bidHolder,
    wanted := s.wanted, cls := s.cls, holderPart := s.holderPart }

/-- A change that HSQ is told of (R99). -/
def Peer.hsqChange (p q : Peer) : Bool := decide (p.present ≠ q.present) || decide (p.hall ≠ q.hall)

/-- A change that RVA is told of (R99). -/
def Peer.rvaChange (p q : Peer) : Bool :=
  decide (p.present ≠ q.present) || decide (p.bidHolder ≠ q.bidHolder) || decide (p.wanted ≠ q.wanted)
    || decide (p.cls ≠ q.cls)

/-- A change that RCL is told of, for its holder's entry (R99). -/
def Peer.rclChange (p q : Peer) : Bool :=
  decide (p.present ≠ q.present) || decide (p.holderPart ≠ q.holderPart)

/-- A change that VSU is told of (R99). -/
def Peer.vsuChange (p q : Peer) : Bool :=
  decide (p.present ≠ q.present) || decide (p.ventGroup ≠ q.ventGroup)
    || decide (p.ventStatus ≠ q.ventStatus)

/-- Apply a step when a condition holds. -/
def when (c : Bool) (f : Node → Node) (n : Node) : Node := if c then f n else n

/-- A STANDING handed to the peer table, and the changes reported (R99). -/
def peerStanding (src : NodeId) (s : Standing) (n : Node) : Node :=
  let p := n.peer src
  let q := Peer.ofStanding n.now n.cfg.period s
  let m := when (p.hsqChange q) refreshAdjacent (n.setPeer src q)
  let m := when (p.rvaChange q) (rvaPeer src) m
  let m := when (p.rclChange q && decide (n.cfg.holder = some src))
    (fun x => soakTest (rclHolder src x)) m
  when (p.vsuChange q) (fun x => takeSlot (vsuRepair src x)) m

/-! ## Hearing a frame -/

/-- Source id of a frame. -/
def frameSource : Frame → NodeId
  | .standing src _ => src
  | .bid src _ _ _ => src
  | .yield src _ => src
  | .wayopen src _ _ => src
  | .fed src _ _ _ _ => src
  | .vent src _ => src
  | .ventfree src _ => src

/-- A valid frame counts as heard: LOST becomes LISTEN, the silence timer restarts, and in LISTEN the
listen timer starts at the first one (R93, R94, R96). -/
def countHeard (n : Node) : Node :=
  let silence := some (n.now + 3 * n.cfg.period)
  let listen := some (n.now + 2 * n.cfg.period)
  match n.lkc.link with
  | .lost => { n with lkc.link := .listen, lkc.silence := silence, lkc.listen := listen }
  | .listen => { n with lkc.silence := silence,
                        lkc.listen := if n.lkc.listen.isSome then n.lkc.listen else listen }
  | .joined => { n with lkc.silence := silence }

/-- A frame handed to its owners: a STANDING in LISTEN and JOINED, any other kind in JOINED (R87). -/
def handOn (f : Frame) (n : Node) : Node :=
  match f with
  | .standing src s => peerStanding src s n
  | .bid src holder wanted cls =>
    if n.lkc.link = .joined then rvaBid src holder wanted cls n else n
  | .yield src holder => if n.lkc.link = .joined then rvaYield src holder n else n
  | .wayopen src holder count => if n.lkc.link = .joined then rvaWayopen src holder count n else n
  | .fed src grantee confirmed _ outcome =>
    if n.lkc.link = .joined ∧ n.cfg.holder = some src ∧ grantee = n.id then
      soakTest (rclFed confirmed outcome n)
    else n
  | .vent src group => if n.lkc.link = .joined then takeSlot (vsuVent src group n) else n
  | .ventfree src group => if n.lkc.link = .joined then takeSlot (vsuVentfree src group n) else n

/-- The block that queued a frame learns that it was placed (R86, R119, R121, R137). -/
def reportPlaced (f : Frame) (n : Node) : Node :=
  match f with
  | .bid _ _ _ _ => bidPlaced n
  | .vent _ _ => takeSlot (ventPlaced n)
  | .fed _ _ _ _ _ => answerPlaced n
  | .standing _ _ => n
  | .yield _ _ => n
  | .wayopen _ _ _ => n
  | .ventfree _ _ => n

/-- The node's echo: its frame is placed, and delivered like any other (R86). The placement timer is
stopped here and started afresh at the end of the event if a frame remains (R94). -/
def hearEcho (f : Frame) (n : Node) : Node :=
  reportPlaced f (handOn f (countHeard { n with lkc.inFlight := none, lkc.placement := none }))

/-- The echo of the STANDING that the entry to LOST dropped in flight: a frame heard in LOST (R94, R96;
log 46). -/
def Node.lateEcho (n : Node) (f : Frame) : Bool :=
  decide (n.lkc.link = .lost) && decide (n.lkc.dropped = some f)

/-- A frame that is not the node's echo: a frame in flight returns (R86); a STANDING with the node's
own id is a clash, unless it is the late echo of one dropped at the entry to LOST; another kind with it is
not handed on (R88, R94). -/
def hearForeign (f : Frame) (n : Node) : Node :=
  if frameSource f = n.id then
    match f with
    | .standing _ _ =>
      if n.lateEcho f then handOn f (countHeard (returnInFlight n)) else idClash n
    | .bid _ _ _ _ => countHeard (returnInFlight n)
    | .yield _ _ => countHeard (returnInFlight n)
    | .wayopen _ _ _ => countHeard (returnInFlight n)
    | .fed _ _ _ _ _ => countHeard (returnInFlight n)
    | .vent _ _ => countHeard (returnInFlight n)
    | .ventfree _ _ => countHeard (returnInFlight n)
  else handOn f (countHeard (returnInFlight n))

/-- A frame that fails the checks: counted, and a frame in flight returns (R83, R86); an echo that may
still have come is over (log 46). -/
def hearBad (n : Node) : Node :=
  returnInFlight { n with lkc.badFrames := min Config.badFrameMax (n.lkc.badFrames + 1),
                          lkc.dropped := none }

/-- A frame heard in full (R83, R86 to R88, R97). -/
def hear (f : Frame) (n : Node) : Node :=
  if f.valid then
    if n.lkc.clash then n
    else if n.lkc.inFlight = some f then hearEcho f n else hearForeign f n
  else hearBad n

/-- The bytes of a frame heard in full: bytes that are a valid frame are heard as that frame (log 28). -/
def hearBytes (bytes : List Byte) (n : Node) : Node :=
  match parse bytes with
  | some f => hear f n
  | none => hearBad n

/-! ## Offering a frame -/

/-- The waiting FED as a frame (R91). -/
def Answer.frame (src : NodeId) (a : Answer) : Frame :=
  .fed src a.grantee a.confirmed a.failed a.outcome

/-- The first frame of the other kinds in offer order, taken out of the outbox (R91). -/
def nextOther (src : NodeId) (o : Outbox) : Option (Frame × Outbox) :=
  match o.fed with
  | some a => some (a.frame src, { o with fed := none })
  | none => match o.wayopen with
    | some (h, c) => some (.wayopen src h c, { o with wayopen := none })
    | none => match o.yieldTo with
      | some h => some (.yield src h, { o with yieldTo := none })
      | none => match o.ventfree with
        | some g => some (.ventfree src g, { o with ventfree := none })
        | none => match o.bid with
          | some b => some (.bid src b.holder b.wanted b.cls, { o with bid := none })
          | none => match o.vent with
            | some g => some (.vent src g, { o with vent := none })
            | none => none

/-- The holder id that the node's STANDING shows; a free value where none is configured (log 17). -/
def Node.shownHolder (n : Node) : NodeId := n.cfg.holder.getD (Config.noHolderId n.free)

/-- The frame LKC offers, and the outbox without it: in JOINED the first of any kind, in LISTEN and
LOST a STANDING alone, none while the clash stands (R85, R91, R97). -/
def Node.nextOffer (n : Node) : Option (Frame × Outbox) :=
  let standing := if n.lkc.outbox.standing then
      some (Frame.standing n.id (n.standing n.shownHolder), { n.lkc.outbox with standing := false })
    else none
  if n.lkc.clash then none
  else if n.lkc.link = .joined then
    match nextOther n.id n.lkc.outbox with
    | some r => some r
    | none => standing
  else standing

/-- The frame was sent to its end without losing a bit (R82): no bit of it read back otherwise. -/
def sentWhole (f : Frame) (differsAt : Option Nat) : Bool :=
  match differsAt with
  | none => true
  | some k => decide (8 * frameLength f ≤ k)

/-- At an idle line LKC offers a frame: in flight when sent to its end, else back in the outbox (R82,
R187). An idle line ends the frame dropped at an entry to LOST (log 46). -/
def offer (differsAt : Option Nat) (n : Node) : Node :=
  let n := { n with lkc.dropped := none }
  if n.lkc.inFlight.isSome then n
  else match n.nextOffer with
    | none => n
    | some (f, o) =>
      let m := { n with free := n.free + 1 }
      if sentWhole f differsAt then { m with lkc.outbox := o, lkc.inFlight := some f }
      else { m with lkc.outbox := returnFrame f o }

/-! ## The link's timers -/

/-- The status timer's expiry (R85, R96, R97). -/
def statusOver (n : Node) : Node :=
  if due n.now n.lkc.status then
    queueStanding { n with lkc.status := some (n.now + n.cfg.period) }
  else n

/-- The entry to JOINED, reported to RCL, RVA and VSU (R93, R114, R121, R141). -/
def joinLink (n : Node) : Node :=
  let m := { n with lkc.link := .joined, lkc.listen := none }
  takeSlot (vsuJoined (rvaRebuild (retryBid m)))

/-- The listen timer's expiry (R93). -/
def listenOver (n : Node) : Node :=
  if due n.now n.lkc.listen && decide (n.lkc.link = .listen) then joinLink n else n

/-- The silence timer's expiry (R94). -/
def silenceOver (n : Node) : Node :=
  if due n.now n.lkc.silence && decide (n.lkc.link ≠ .lost) then linkLost n else n

/-- The placement timer's expiry (R94). -/
def placementOver (n : Node) : Node :=
  if due n.now n.lkc.placement && decide (n.lkc.link ≠ .lost) then linkLost n else n

/-- A presence timer's expiry (R100). -/
def presenceOver (i : NodeId) (n : Node) : Node :=
  if due n.now (n.peer i).presence then peerAbsent i n else n

/-! ## The reserve's and the slot's timers -/

/-- A grant hold timer's expiry (R110). -/
def grantOver (i : NodeId) (n : Node) : Node :=
  match n.entry i with
  | none => n
  | some e => if due n.now e.hold then lapseGrant i n else n

/-- The reserve wait's expiry (R127). -/
def waitOver (n : Node) : Node :=
  match n.rcl.wait with
  | .running ends =>
    if ends ≤ n.now then
      let m := { n with rcl.wait := .expired }
      if m.rcl.phase = .requested then m else soakTest (rclEnd false m)
    else n
  | .stopped => n
  | .expired => n

/-- The feed timeout's expiry (R126); outside REQUESTED it only stops (log 31). -/
def feedOver (n : Node) : Node :=
  if due n.now n.rcl.feedTimeout then
    if n.rcl.phase = .requested then soakTest (rclFeedLost false n)
    else { n with rcl.feedTimeout := none }
  else n

/-- The flow timer's expiry (R127 step 2). -/
def flowOver (n : Node) : Node :=
  if due n.now n.rcl.flowTimer then
    let m := { n with rcl.flowTimer := none, rcl.closePending := false }
    if n.rcl.closePending then selClose m else m
  else n

/-- The slot wait's expiry (R138). -/
def slotOver (n : Node) : Node :=
  if due n.now n.vsu.slotWait then
    let (m, expired) := vsuWaitOver n
    if expired then slotForced m else m
  else n

/-! ## The commands -/

/-- FRAME_OFFER (R82, R91, R187). -/
def execFrameOffer (differsAt : Option Nat) (s : State) : Host.Outcome State Fault Refusal :=
  inRun (offer differsAt) s

/-- BAD_FRAME (R83, R86). -/
def execBadFrame (bytes : List Byte) (s : State) : Host.Outcome State Fault Refusal :=
  inRun (hearBytes bytes) s

/-- STANDING_RECEIVED (R86 to R88, R96, R97, R99). -/
def execStandingReceived (src : NodeId) (content : Standing) (s : State) :
    Host.Outcome State Fault Refusal := inRun (hear (.standing src content)) s

/-- BID_RECEIVED (R86 to R88, R105, R106). -/
def execBidReceived (src holder : NodeId) (wanted : Nat) (cls : BidClass) (s : State) :
    Host.Outcome State Fault Refusal := inRun (hear (.bid src holder wanted cls)) s

/-- YIELD_RECEIVED (R86 to R88, R111). -/
def execYieldReceived (src holder : NodeId) (s : State) : Host.Outcome State Fault Refusal :=
  inRun (hear (.yield src holder)) s

/-- WAYOPEN_RECEIVED (R86 to R88, R115, R116). -/
def execWayopenReceived (src holder : NodeId) (count : Nat) (s : State) :
    Host.Outcome State Fault Refusal := inRun (hear (.wayopen src holder count)) s

/-- FED_RECEIVED (R86 to R88, R125). -/
def execFedReceived (src grantee : NodeId) (confirmed failed : Nat) (outcome : FedOutcome)
    (s : State) : Host.Outcome State Fault Refusal :=
  inRun (hear (.fed src grantee confirmed failed outcome)) s

/-- VENT_RECEIVED (R86 to R88, R133). -/
def execVentReceived (src : NodeId) (group : Nat) (s : State) : Host.Outcome State Fault Refusal :=
  inRun (hear (.vent src group)) s

/-- VENTFREE_RECEIVED (R86 to R88, R134). -/
def execVentfreeReceived (src : NodeId) (group : Nat) (s : State) :
    Host.Outcome State Fault Refusal := inRun (hear (.ventfree src group)) s

/-- STATUS_TIMER_EXPIRY (R85, R96). -/
def execStatusTimerExpiry (s : State) : Host.Outcome State Fault Refusal := inRun statusOver s

/-- LISTEN_TIMER_EXPIRY (R93). -/
def execListenTimerExpiry (s : State) : Host.Outcome State Fault Refusal := inRun listenOver s

/-- SILENCE_TIMER_EXPIRY (R94, R95). -/
def execSilenceTimerExpiry (s : State) : Host.Outcome State Fault Refusal := inRun silenceOver s

/-- PLACEMENT_TIMER_EXPIRY (R94, R95). -/
def execPlacementTimerExpiry (s : State) : Host.Outcome State Fault Refusal := inRun placementOver s

/-- PRESENCE_TIMER_EXPIRY (R100). -/
def execPresenceTimerExpiry (node : NodeId) (s : State) : Host.Outcome State Fault Refusal :=
  inRun (presenceOver node) s

/-- GRANT_HOLD_EXPIRY (R110). -/
def execGrantHoldExpiry (node : NodeId) (s : State) : Host.Outcome State Fault Refusal :=
  inRun (grantOver node) s

/-- RESERVE_WAIT_EXPIRY (R127). -/
def execReserveWaitExpiry (s : State) : Host.Outcome State Fault Refusal := inRun waitOver s

/-- FEED_TIMEOUT_EXPIRY (R126). -/
def execFeedTimeoutExpiry (s : State) : Host.Outcome State Fault Refusal := inRun feedOver s

/-- FLOW_TIMER_EXPIRY (R127). -/
def execFlowTimerExpiry (s : State) : Host.Outcome State Fault Refusal := inRun flowOver s

/-- SLOT_WAIT_EXPIRY (R138). -/
def execSlotWaitExpiry (s : State) : Host.Outcome State Fault Refusal := inRun slotOver s

end Sys2Proof.Machine
end

