-- ==== Sys2Proof/Machine/Startup.lean ====
section
/-! DEFINITION. Startup: the resets, LOAD, VALIDATE and the entry to RUN, and the completion of a row
write (R160 to R169, R180). -/

namespace Sys2Proof.Machine

/-! ## Resets -/

/-- The cause of a reset has ended: every record at its value after reset, the straps latched, the
port's snapshot taken; a row in the middle of a write stays void (R160, R166, R175). -/
def beginLoad (straps : NodeId) (cause : ResetCause) (s : State) : State :=
  let n := Node.start s.node.now s.node.free s.node.cfs.rows straps cause
  { s with node := n, snapshot := n }

/-- A lasting cause holds the part: with no reset in progress one begins with this cause, and every
record stands at its value after reset at once (log 36); a reset in progress keeps its cause (R160). -/
def holdInReset (cause : ResetCause) (mark : Node → Node) (s : State) : State :=
  let n := s.node
  { s with node := mark (if n.held then n
      else Node.start n.now n.free n.cfs.rows n.cfs.nodeId cause) }

/-- A lasting cause has ended: LOAD begins, with the cause that began the reset, when no other holds the
part (R160). -/
def letGo (straps : NodeId) (s : State) : State :=
  if s.node.held then s else beginLoad straps s.node.cfs.cause s

/-! ## Rows and fields -/

/-- A value of one byte. -/
def byte1 (d : RowData) (i : Fin 14) : Nat := (d.get i).toNat

/-- A signed value of two bytes (R183). -/
def signedLe2 (d : RowData) (i : Fin 13) : Int :=
  if le2 d i < 32768 then (le2 d i : Int) else (le2 d i : Int) - 65536

/-- `lo ≤ x` and `x ≤ hi`. -/
def inRange (lo hi x : Nat) : Bool := decide (lo ≤ x) && decide (x ≤ hi)

/-- A design temperature within its range (R159). -/
def tempRange (t : Int) : Bool := decide (-400 ≤ t) && decide (t ≤ 850)

/-- Role code of a channel in row 4 (R183). -/
def roleAt (d : RowData) (c : ChanId) : Nat :=
  (byte1 d 0 + 256 * byte1 d 1 + 65536 * byte1 d 2) / 4 ^ c.val % 4

/-- The role of a code. -/
def roleOf : Nat → Role
  | 1 => .hall
  | 2 => .reserve
  | _ => .unused

/-- The number of channels with a role code. -/
def roleCount (d : RowData) (code : Nat) : Nat := (allChans.filter (fun c => roleAt d c = code)).length

/-- Every role code of row 4 is one of its values. -/
def rolesInRange (d : RowData) : Bool := allChans.all (fun c => decide (roleAt d c ≤ 2))

/-- No more than eight HALL and no more than eight RESERVE channels (R162). -/
def rolesFit (d : RowData) : Bool := decide (roleCount d 1 ≤ 8) && decide (roleCount d 2 ≤ 8)

/-- The reserve holder byte is one of its values (R183). -/
def holderInRange (d : RowData) : Bool := decide (byte1 d 0 ≤ 15) || decide (byte1 d 0 = 0xFF)

/-- Every field of a row lies in its range, the format marker's being its one value (R159, FIELD_RANGE of
R162). -/
def rowInRange (r : RowId) (d : RowData) : Bool :=
  match r with
  | 0 => decide (le2 d 0 = Config.formatMarker) && inRange 200 5000 (le2 d 4)
  | 1 => inRange 10 30000 (le2 d 0) && inRange 300 2000 (le2 d 2) && inRange 100 150 (byte1 d 4)
  | 2 => inRange 1000 50000 (le2 d 0) && inRange 0 20000 (le2 d 2) && tempRange (signedLe2 d 4)
      && tempRange (signedLe2 d 6)
  | 3 => inRange 100 20000 (le2 d 0) && inRange 100 20000 (le2 d 2)
  | 4 => rolesInRange d
  | 5 => inRange 0 120 (byte1 d 0) && inRange 0 120 (byte1 d 1) && inRange 0 120 (byte1 d 2)
      && inRange 10 600 (le2 d 3) && inRange 0 1 (byte1 d 5) && inRange 0 120 (byte1 d 6)
  | 6 => inRange 10 120 (byte1 d 0) && inRange 60 3600 (le2 d 1) && inRange 0 10000 (le2 d 3)
      && inRange 0 10000 (le2 d 5)
  | 7 => inRange 0 15 (byte1 d 2) && inRange 1 4 (byte1 d 3) && inRange 10 600 (le2 d 4)
  | 8 => inRange 85 98 (byte1 d 0) && inRange 100 2000 (le2 d 1) && inRange 500 10000 (le2 d 3)
      && inRange 1000 10000 (le2 d 5)
  | 9 => inRange 100 3000 (le2 d 0) && inRange 0 2900 (le2 d 2) && inRange 1 120 (byte1 d 4)
      && inRange 5 120 (byte1 d 5)
  | 10 => holderInRange d && inRange 0 1 (byte1 d 1) && inRange 10 600 (le2 d 2)
      && inRange 10 600 (le2 d 4) && inRange 10 600 (le2 d 6)
  | 11 => true
  | 12 => true

/-- The relation of a row (RELATION of R162). -/
def rowRelation (r : RowId) (d : RowData) : Bool :=
  match r with
  | 2 => decide (signedLe2 d 4 < signedLe2 d 6)
  | 8 => decide (le2 d 1 ≤ le2 d 5)
  | 9 => decide (le2 d 2 < le2 d 0)
  | 0 => true
  | 1 => true
  | 3 => true
  | 4 => true
  | 5 => true
  | 6 => true
  | 7 => true
  | 10 => true
  | 11 => true
  | 12 => true

/-- SPECIFIC_VOLUME passes, where k1, k2 and Tmin lie in their ranges (R162). -/
def volumeFits (d : RowData) : Bool :=
  !(inRange 1000 50000 (le2 d 0) && inRange 0 20000 (le2 d 2) && tempRange (signedLe2 d 4))
    || decide (100000 ≤ 1000 * (le2 d 0 : Int) + (le2 d 2 : Int) * signedLe2 d 4)

/-! ## LOAD -/

/-- What LOAD keeps of the thirteen rows: the data of every row that is not UNCORRECTABLE (R161). -/
abbrev Loaded := Vector (Option RowData) 13

/-- Rows 0 to 10. -/
def configRows : List RowId := [0, 1, 2, 3, 4, 5, 6, 7, 8, 9, 10]

/-- Sum of the data bytes of a row. -/
def rowSum (d : RowData) : Nat := d.toList.foldl (fun acc b => acc + b.toNat) 0

/-- Data of a row; zeros where the row was not readable. -/
def dataOf (l : Loaded) (r : RowId) : RowData := (l.get r).getD (Vector.replicate 14 0)

/-- The digest of rows 0 to 10 (R161). -/
def digest (l : Loaded) : Nat :=
  (configRows.foldl (fun acc r => acc + rowSum (dataOf l r)) 0) % 65536

/-- Every row of a list was readable. -/
def readable (l : Loaded) (rs : List RowId) : Bool := rs.all (fun r => (l.get r).isSome)

/-- The first row of a list that fails a check; a row that was not readable is skipped (R162). -/
def firstFailing (l : Loaded) (rs : List RowId) (ok : RowId → RowData → Bool) : Option Nat :=
  (rs.find? (fun r => match l.get r with | some d => !ok r d | none => false)).map (fun r => r.val)

/-- The row a check names when it fails, or none (R162; log 23 for DIGEST and HOLDER_WITHOUT_BANK). -/
def checkRow (id : NodeId) (l : Loaded) : Check → Option Nat
  | .rowUncorrectable =>
    ((configRows ++ [11]).find? (fun r => (l.get r).isNone)).map (fun r : RowId => r.val)
  | .format => firstFailing l [0] (fun _ d => decide (le2 d 0 = Config.formatMarker))
  | .notCommissioned => firstFailing l [11] (fun _ d => decide (le2 d 0 ≠ 0))
  | .digest =>
    if readable l (configRows ++ [11]) then
      firstFailing l [11] (fun _ d => decide (le2 d 2 = digest l))
    else none
  | .fieldRange => firstFailing l configRows rowInRange
  | .relation => firstFailing l configRows rowRelation
  | .specificVolume => firstFailing l [2] (fun _ d => volumeFits d)
  | .roleCount => firstFailing l [4] (fun _ d => rolesFit d)
  | .holderWithoutBank =>
    if readable l [4, 10] && rolesInRange (dataOf l 4) && holderInRange (dataOf l 10)
        && decide (byte1 (dataOf l 10) 0 = id.val) && decide (roleCount (dataOf l 4) 2 = 0) then
      some 4
    else none

/-- The validation findings (R162). -/
def findings (id : NodeId) (l : Loaded) : List (Check × Nat) :=
  allChecks.filterMap (fun c => (checkRow id l c).map (fun r => (c, r)))

/-- The roles of row 4. -/
def rolesOf (d : RowData) : Vector Role 12 := Vector.ofFn (fun c => roleOf (roleAt d c))

/-- The reserve holder of row 10. -/
def holderOf (d : RowData) : Option NodeId :=
  if h : byte1 d 0 < 16 then some ⟨byte1 d 0, h⟩ else none

/-- The working configuration of a valid store: every field of rows 0 to 10 as loaded (R163, R183). -/
def cfgOf (l : Loaded) : Cfg :=
  let d := dataOf l
  { hallId := le2 (d 0) 2, period := le2 (d 0) 4,
    volume := le2 (d 1) 0, concentration := le2 (d 1) 2, factor := byte1 (d 1) 4,
    k1 := le2 (d 2) 0, k2 := le2 (d 2) 2, tmin := signedLe2 (d 2) 4, tmax := signedLe2 (d 2) 6,
    mh := le2 (d 3) 0, mr := le2 (d 3) 2, roles := rolesOf (d 4),
    countdown := byte1 (d 5) 0, manualCountdown := byte1 (d 5) 1, holdRestart := byte1 (d 5) 2,
    degradedDelay := le2 (d 5) 3, epoEnable := decide (byte1 (d 5) 5 = 1), epoLead := byte1 (d 5) 6,
    duration := byte1 (d 6) 0, soak := le2 (d 6) 1, verifyA := le2 (d 6) 3, verifyB := le2 (d 6) 5,
    neighbours := le2 (d 7) 0, ventGroup := byte1 (d 7) 2, ventCapacity := byte1 (d 7) 3,
    slotWait := le2 (d 7) 4,
    fullThreshold := byte1 (d 8) 0, pulse := le2 (d 8) 1, stagger := le2 (d 8) 3,
    window := le2 (d 8) 5,
    pressureLimit := le2 (d 9) 0, resumeThreshold := le2 (d 9) 2, deferLimit := byte1 (d 9) 4,
    selectorTime := byte1 (d 9) 5,
    holder := holderOf (d 10), cls := if byte1 (d 10) 1 = 0 then .ordinary else .elevated,
    reserveWait := le2 (d 10) 2, feedTimeout := le2 (d 10) 4, grantHold := le2 (d 10) 6 }

/-- The FALLBACK working configuration, with the roles and hall id that can be used (R163). -/
def fallbackOf (l : Loaded) : Cfg :=
  let roles := match l.get 4 with
    | some d => if rolesInRange d && rolesFit d then rolesOf d else Vector.replicate 12 .unused
    | none => Vector.replicate 12 .unused
  Cfg.fallback roles (match l.get 0 with | some d => le2 d 2 | none => 0)

/-- The release record that row 12 gives (R164). DESIGN CHOICE (log 44): an UNREADABLE record, which has
no fields, shows 0 in them. -/
def releaseOf (l : Loaded) : ReleaseRec :=
  match l.get 12 with
  | none => { state := .unreadable, hallId := 0, wd := 0, nOwn := 0, nRes := 0 }
  | some d =>
    { state := if byte1 d 0 = 0 then ReleaseState.clear else ReleaseState.released, hallId := le2 d 1,
      wd := le2 d 3 + 65536 * le2 d 5, nOwn := byte1 d 7, nRes := byte1 d 8 }

/-- The bits that have flipped since the last start (R158). -/
def flipRows (flips : List (RowId × Fin 128)) (n : Node) : Node :=
  flips.foldl (fun m f => m.setRow f.1 ((m.row f.1).flip f.2)) n

/-- LOAD reads this row now: it is one of the first `upTo` and not yet read (R161; log 49). -/
def Node.readsRow (n : Node) (upTo : Nat) (r : RowId) : Bool :=
  decide (r.val < upTo) && (n.cfs.rowResult.get r).isNone

/-- LOAD's reading of row 12 sets the release record, and the hall state with it; an UNREADABLE record
sets RELEASE_ROW_LOST and raises its trouble (R164, R25). DEDUCED (log 51): at that reading, not after
VALIDATE. -/
def takeRelease (n : Node) : Node :=
  let rel := releaseOf n.cfs.kept
  let lost := decide (rel.state = .unreadable)
  { n with cfs.release := rel, cfs.releaseTrouble := lost,
           hsq.hall := if rel.state = ReleaseState.clear then .quiet else .spent }.setFlagIf
    lost .releaseRowLost

/-- LOAD's own steps: the first `upTo` rows read, their results and data, SEC_CORRECTED, the serial, the
release record with row 12; with all thirteen read the part is in VALIDATE (R161, R164; log 49). -/
def loadRows (upTo : Nat) (n : Node) : Node :=
  let result := fun r => if n.readsRow upTo r then some (n.row r).read.1 else n.cfs.rowResult.get r
  let kept : Loaded := Vector.ofFn (fun r =>
    if n.readsRow upTo r then (n.row r).read.2 else n.cfs.kept.get r)
  let corrected := allRows.any (fun r => n.readsRow upTo r && decide ((n.row r).read.1 = .corrected))
  let m := { n with cfs.rowResult := Vector.ofFn result, cfs.kept := kept,
                    cfs.serial := le2 (dataOf kept 11) 0,
                    cfs.phase := if 13 ≤ upTo then .validate else .load }.setFlagIf corrected .secCorrected
  if n.readsRow upTo 12 then takeRelease m else m

/-- VALIDATE: findings, mode and working configuration from the data LOAD kept, and on to RUN (R162,
R163). -/
def validate (n : Node) : Node :=
  let l := n.cfs.kept
  let fs := findings n.id l
  let valid := fs.isEmpty
  { n with cfs.findings := fs, cfs.validation := if valid then .valid else .invalid,
            cfs.cfg := if valid then cfgOf l else fallbackOf l,
            hsq.mode := if valid then .normal else .fallback,
            cfs.phase := .run }.setFlagIf (!valid) .configInvalid

/-! ## The entry to RUN -/

/-- A channel from its first pressure read (R65). -/
def Channel.build (n : Node) (role : Role) (reading : Nat) : Channel :=
  let p := min reading 150
  let st : ChanState := if role = .unused then .isolated
    else match pressureClass n.cfg.fullThreshold p with
      | .fit => n.restState
      | .low => .low
      | .empty => .spent
  { Channel.start n.now with role := role, state := st, pressure := p,
                             readAt := n.now + Config.readPeriod }

/-- VCU's channel table from the first reads (R65). -/
def buildChannels (readings : Vector Nat 12) (n : Node) : Node :=
  { n with vcu.channels := Vector.ofFn (fun c => Channel.build n (n.cfg.roles.get c) (readings.get c)) }

/-- The selector from its first reading (R78). -/
def buildSelector (reading : SelReading) (n : Node) : Node :=
  let m := { n with vcu.selector.reading := reading,
                    vcu.selector.readAt := n.now + Config.readPeriod }
  match reading with
  | .closed => selArrive .closed m
  | .fault => selJam m
  | .opened => selTravel .closing .driveClose m
  | .moving => selTravel .closing .driveClose m

/-- LKC starts: silence timer, status timer, a STANDING queued at once (R92). -/
def startLink (n : Node) : Node :=
  queueStanding { n with lkc.silence := some (n.now + 3 * n.cfg.period),
                         lkc.status := some (n.now + n.cfg.period) }

/-- The key's first sample at FIU, delivered at once (R29). -/
def firstKey (normalMade isolateMade : Bool) (n : Node) : Node :=
  { n with fiu.key := (n.fiu.key.sample n.now true normalMade isolateMade).1 }

/-- The first key event at the sequencer (R25). -/
def hsqFirstKey (n : Node) : Node := if n.isolate then hsqIsolate n else hsqNormal n

/-- POU's supervision starts (R152). DESIGN CHOICE (log 43): each output's first read is 100 ms after the
entry to RUN. -/
def startSupervision (n : Node) : Node :=
  { n with pou.sup := mapVec (fun r : SupRec => { r with readAt := n.now + Config.readPeriod }) n.pou.sup }

/-- The entry to RUN: the first samples and reads of every input, in the order of log 9 (R29, R65, R78,
R92, R143). -/
def enterRun (i : LoadInputs) (n : Node) : Node :=
  let m := firstKey i.keyNormal i.keyIsolate (pressureEvent i.pressure (temperatureEvent i.temperature n))
  let m := buildSelector (selReading i.selectorOpen i.selectorClosed) (buildChannels i.cylinders m)
  let m := holdEvent true i.hold (hsqFirstKey (startLink m))
  startSupervision (stationEvent i.manual (zoneEvent .b i.zoneB (zoneEvent .a i.zoneA m)))

/-- Start-up from where it stands: rows read, and past the thirteenth VALIDATE and the entry to RUN (R161
to R164; log 49). -/
def load (i : LoadInputs) (n : Node) : Node :=
  let m := if n.cfs.phase = .load then loadRows i.upTo (flipRows i.flips n) else n
  if 13 < i.upTo then enterRun i (validate m) else m

/-! ## Completion of a row write -/

/-- SVP takes a completion: DONE when no later command was taken (R180). -/
def svpComplete (n : Node) : Node :=
  let done := decide (n.svp.awaiting = some n.svp.count)
  { n with svp.result := if done then .done else n.svp.result, svp.awaiting := none }

/-- The store reports a completed write to its requester (R166, R169, R180). -/
def reportWrite (kind : WriteKind) (n : Node) : Node :=
  match kind with
  | .config => svpComplete { n with svp.startBit := false }
  | .release => n
  | .erase => rowErased (svpComplete (eraseRecord n))

/-- A row write completes; a pending release write then starts (R166, R168). -/
def writeOver (n : Node) : Node :=
  match n.cfs.busy with
  | none => n
  | some w => if w.ends ≤ n.now then startPending (reportWrite w.kind (finishWrite w n)) else n

/-! ## The commands -/

/-- POWER_ON: a reset of its own, or the end of the supply's hold on one in progress (R160). -/
def execPowerOn (straps : NodeId) (s : State) : Host.Outcome State Fault Refusal :=
  if s.node.held then .next (letGo straps { s with node := { s.node with supplyLow := false } })
  else .next (beginLoad straps .power s)

/-- RESET_LINE: an assertion shorter than 100 us is disregarded; a longer one begins a reset with cause
LINE and holds the part until its release; within a reset in progress the cause stays (R160; log 47). -/
def execResetLine (micros : Nat) (straps : Option NodeId) (s : State) :
    Host.Outcome State Fault Refusal :=
  match straps with
  | none =>
    if s.node.lineHeld ∨ micros < Config.resetMicros then .next s
    else .next (holdInReset .line (fun n => { n with lineHeld := true }) s)
  | some id =>
    if s.node.lineHeld then .next (letGo id { s with node := { s.node with lineHeld := false } })
    else if s.node.supplyLow ∨ micros < Config.resetMicros then .next s
    else .next (beginLoad id .line s)

/-- SUPPLY_BELOW_THRESHOLD (R160). -/
def execSupplyBelowThreshold (s : State) : Host.Outcome State Fault Refusal :=
  .next (holdInReset .power (fun n => { n with supplyLow := true }) s)

/-- LOAD (R161 to R164, R29). -/
def execLoad (inputs : LoadInputs) (s : State) : Host.Outcome State Fault Refusal :=
  if s.node.held = false ∧ s.node.cfs.phase ≠ .run then onNode (load inputs) s else .next s

/-- STORE_WRITE_COMPLETION (R166, R168, R169, R180). -/
def execStoreWriteCompletion (s : State) : Host.Outcome State Fault Refusal := inRun writeOver s

end Sys2Proof.Machine
end

