-- ==== Sys2Proof/Machine/View.lean ====
section
/-! DEFINITION. View: the bytes of the service port's view, read from the snapshot (R174, R184, R185). -/

namespace Sys2Proof.Machine

/-! ## Codes (R185) -/

/-- Code of a zone class; 0 before the first sample (R184). -/
def zoneClassCode : Option ZoneClass → Nat
  | none => 0 | some .openLoop => 0 | some .normal => 1 | some .alarm => 2 | some .shortLoop => 3

/-- Code of an ALARM RESET outcome. -/
def resetCode : ResetOutcome → Nat
  | .none => 0 | .cleared => 1 | .refused => 2 | .notLatched => 3

/-- The fault kind bit: 1 for SHORT (R184). -/
def kindBit (k : Option LineFault) : Nat := (decide (k = some .shortLoop)).toNat

/-- Code of a manual station class. -/
def stationCode : Option StationClass → Nat
  | none => 0 | some .normal => 0 | some .operated => 1 | some .fault => 2

/-- Code of a hold switch class. -/
def holdCode : Option HoldClass → Nat
  | none => 0 | some .released => 0 | some .operated => 1 | some .fault => 2

/-- Code of a key class. -/
def keyCode : Option KeyClass → Nat
  | none => 0 | some .normal => 0 | some .isolate => 1 | some .fault => 2

/-- Code of a delivered hold position. -/
def holdPosCode : HoldPos → Nat
  | .released => 0 | .operated => 1

/-- Code of a delivered key position. -/
def keyPosCode : KeyPos → Nat
  | .normal => 0 | .isolate => 1

/-- Code of a temperature status. -/
def tempCode : TempStatus → Nat
  | .ok => 0 | .outOfRange => 1 | .openCircuit => 2

/-- Code of a hall pressure status. -/
def pressCode : PressStatus → Nat
  | .ok => 0 | .fault => 1

/-- Code of a confirmation cause. -/
def causeCode : Cause → Nat
  | .none => 0 | .crossZone => 1 | .degraded => 2 | .manual => 3

/-- Code of a reserve phase. -/
def reservePhaseCode : ReservePhase → Nat
  | .none => 0 | .opened => 1 | .resolved => 2

/-- Code of a reserve outcome. -/
def reserveOutcomeCode : ReserveOutcome → Nat
  | .none => 0 | .fed => 1 | .yielded => 2 | .lapsed => 3 | .lost => 4

/-- Code of a link state. -/
def linkCode : LinkState → Nat
  | .listen => 0 | .joined => 1 | .lost => 2

/-- Code of a store phase. -/
def phaseCode : Phase → Nat
  | .load => 0 | .validate => 1 | .run => 2

/-- Code of a reset cause. -/
def resetCauseCode : ResetCause → Nat
  | .power => 0 | .line => 1 | .command => 2

/-- Code of a plan stage. -/
def planStageCode : PlanStage → Nat
  | .none => 0 | .planned => 1 | .replanned => 2

/-- Code of a temperature source. -/
def sourceCode : TempSource → Nat
  | .sensor => 0 | .clamped => 1 | .default => 2

/-- Code of a channel role. -/
def roleCode : Role → Nat
  | .unused => 0 | .hall => 1 | .reserve => 2

/-- Code of a channel state. -/
def chanCode : ChanState → Nat
  | .ready => 0 | .low => 1 | .committed => 2 | .queued => 3
  | .firing => 4 | .spent => 5 | .failed => 6 | .isolated => 7

/-- Code of a requester. -/
def requesterCode : Requester → Nat
  | .none => 0 | .hsq => 1 | .rva => 2

/-- Code of a deferral state. -/
def deferralCode : Deferral → Nat
  | .inactive => 0 | .active => 1 | .waived => 2

/-- Code of a selector state. -/
def selCode : SelState → Nat
  | .closed => 0 | .opening => 1 | .opened => 2 | .closing => 3 | .jammed => 4

/-- Code of a selector reading. -/
def selReadingCode : SelReading → Nat
  | .closed => 0 | .opened => 1 | .moving => 2 | .fault => 3

/-- Code of a selector drive. -/
def driveCode : SelDrive → Nat
  | .off => 0 | .driveOpen => 1 | .driveClose => 2

/-- Code of a bid state. -/
def bidCode : BidState → Nat
  | .none => 0 | .held => 1 | .queued => 2 | .placed => 3

/-- Code of the own VENT. -/
def ownVentCode : OwnVent → Nat
  | .none => 0 | .held => 1 | .queued => 2 | .placed => 3

/-- Code of a feed phase. -/
def feedCode : FeedPhase → Nat
  | .idle => 0 | .waitingGrant => 1 | .opening => 2 | .requested => 3 | .done => 4

/-- Code of the reserve wait. -/
def waitCode : ReserveWait → Nat
  | .stopped => 0 | .running _ => 1 | .expired => 2

/-- Code of the last answer. -/
def answerCode : LastAnswer → Nat
  | .none => 0 | .complete => 1 | .part => 2 | .lapsed => 3 | .refused => 4

/-- Code of feed taken. -/
def takenCode : FeedTaken → Nat
  | .no => 0 | .waiting => 1 | .running => 2

/-- Code of a feed place. -/
def placeCode : PlaceStatus → Nat
  | .pending => 0 | .confirmed => 1 | .failed => 2 | .cancelled => 3

/-- Code of a sounder stage. -/
def stageCode : Stage → Nat
  | .off => 0 | .stage1 => 1 | .stage2 => 2 | .stage3 => 3

/-- Code of a row result. -/
def rowResultCode : Option RowResult → Nat
  | none => 0 | some .clean => 1 | some .corrected => 2 | some .uncorrectable => 3

/-- Code of the release record. -/
def releaseCode : ReleaseState → Nat
  | .clear => 0 | .released => 1 | .unreadable => 2

/-- Code of a supervision class. -/
def supCode : Option SupClass → Nat
  | none => 0 | some .normal => 1 | some .openLine => 2 | some .shortLine => 3

/-- Code of a command. -/
def commandCode : Command → Nat
  | .none => 0 | .snap => 1 | .alarmReset => 2 | .clearRelease => 3 | .restart => 4
  | .storeReadRow => 5 | .storeWriteRow => 6

/-- Code of a command result. -/
def resultCode : CmdResult → Nat
  | .none => 0 | .accepted => 1 | .done => 2 | .busy => 3 | .refused => 4

/-- Code of a store operation (R184). -/
def storeOpCode : StoreOp → Nat
  | .read => 1 | .write => 2

/-! ## Bytes -/

/-- Byte k of a number, low byte first (R183). -/
def byteAt (x k : Nat) : Nat := x / 256 ^ k % 256

/-- A signed value in two's complement, as a 16-bit number (R183). -/
def signed16 (x : Int) : Nat := (x % 65536).toNat

/-- Number whose bit k is the k-th of a list. -/
def bits : List Bool → Nat
  | [] => 0
  | b :: bs => b.toNat + 2 * bits bs

/-- A time in whole units; R184 does not say how a part unit is shown (log 25). -/
def inUnits (unit ms : Nat) : Nat :=
  if ms % unit = 0 then ms / unit
  else if Config.partUnitUp unit ms then ms / unit + 1 else ms / unit

/-- What the view shows, `w` values wide, for a field that is absent and has no code for it: a free
value (log 25). -/
def Node.absentAt (n : Node) (key w : Nat) : Nat := Config.absentBits n.now key % w

/-! ## The areas -/

/-- Status bytes 0x00..0x0B (R184). -/
def statusByte (n : Node) : Nat → Nat
  | 0x00 => hallCode n.hsq.hall
  | 0x01 => modeCode n.hsq.mode + 2 * linkCode n.lkc.link + 8 * n.lkc.clash.toNat
      + 16 * phaseCode n.cfs.phase + 64 * resetCauseCode n.cfs.cause
  | 0x02 => ceilDiv n.remaining 1000
  | 0x03 => bits [n.hsq.latchedA, n.hsq.latchedB, n.hsq.faultA, n.hsq.faultB, n.hsq.adjacent,
      n.fiu.zoneA.isolated, n.fiu.zoneB.isolated, n.hsq.manualOverride]
  | 0x04 => causeCode n.hsq.cause + 4 * reservePhaseCode n.hsq.reservePhase
      + 16 * reserveOutcomeCode n.hsq.reserveOutcome + 128 * n.cfs.configPending.toNat
  | 0x05 => n.id.val + 16 * n.hsq.epoReached.toNat
  | 0x06 => zoneClassCode n.fiu.zoneA.cls + 4 * kindBit n.fiu.zoneA.kind
      + 8 * resetCode n.fiu.zoneA.lastReset
  | 0x07 => zoneClassCode n.fiu.zoneB.cls + 4 * kindBit n.fiu.zoneB.kind
      + 8 * resetCode n.fiu.zoneB.lastReset
  | 0x08 => stationCode n.fiu.station.cls + 4 * n.fiu.station.fault.toNat + 8 * holdCode n.fiu.hold.cls
      + 32 * holdPosCode n.fiu.hold.delivered + 64 * n.fiu.hold.fault.toNat
  | 0x09 => keyCode n.fiu.key.cls + 4 * keyPosCode n.fiu.key.delivered + 8 * n.fiu.key.fault.toNat
  | 0x0A => bits (n.troubles.take 8)
  | _ => bits (n.troubles.drop 8) + 128 * n.trouble.toNat

/-- Measurement bytes, from 0x0C (R184). -/
def measureByte (n : Node) (k : Nat) : Nat :=
  if k = 0 then tempCode n.fiu.temp.status
  else if k ≤ 2 then
    match n.fiu.temp.value with
    | some t => byteAt (signed16 t) (k - 1)
    | none => n.absentAt (0x0C + k) 256
  else if k = 3 then pressCode n.fiu.press.status
  else if k ≤ 5 then
    match n.fiu.press.value with
    | some p => byteAt (signed16 p) (k - 4)
    | none => n.absentAt (0x0C + k) 256
  else if h : k - 6 < 12 then (n.vcu.channels.get ⟨k - 6, h⟩).pressure
  else selReadingCode n.vcu.selector.reading

/-- Sticky flag bytes, from 0x1F (R184). -/
def stickyByte (n : Node) (k : Nat) : Nat := byteAt n.svp.flags.toNat k

/-- Plan bytes, from 0x23 (R184). -/
def planByte (a : Apl) (k : Nat) : Nat :=
  if k = 0 then planStageCode a.stage + 4 * sourceCode a.source + 16 * a.evaluated.toNat
  else if k = 1 then bits [a.short, a.low, a.tempDefault, a.noReserve]
  else if k ≤ 3 then byteAt (signed16 a.temp) (k - 2)
  else if k ≤ 7 then byteAt a.s8 (k - 4)
  else if k ≤ 11 then byteAt a.w (k - 8)
  else if k ≤ 15 then byteAt a.wd (k - 12)
  else if k = 16 then a.readyCount + 16 * a.nOwn
  else if k = 17 then a.nRes + 16 * a.ownConfirmed
  else if k = 18 then byteAt a.resConfirmed 0
  else if k ≤ 21 then byteAt a.wp (k - 19)
  else if k ≤ 24 then byteAt a.m (k - 22)
  else byteAt a.ca (k - 25)

/-- Time left on the reserve wait. -/
def waitLeft (now : Time) : ReserveWait → Nat
  | .running ends => ends - now
  | .stopped => 0
  | .expired => 0

/-- Unit record bytes of VCU, RCL, VSU and POU: offsets 0..20 from 0x3E (R184). -/
def unitByteLow (n : Node) (k : Nat) : Nat :=
  if k = 0 then
    (match n.vcu.outputOn with | some c => c.val | none => 15) + 16 * deferralCode n.vcu.deferral
  else if k = 1 then selCode n.vcu.selector.state + 8 * driveCode n.vcu.selector.drive
  else if k = 2 then bidCode n.rcl.bid + 4 * feedCode n.rcl.phase + 32 * n.rcl.flowTaken.toNat
    + 64 * n.rcl.closePending.toNat
  else if k = 3 then n.rcl.n + 16 * n.rcl.grantHeard
  else if k = 4 then n.rcl.asked + 16 * n.rcl.fed
  else if k = 5 then answerCode n.rcl.lastAnswer + 8 * reserveOutcomeCode n.rcl.outcome
    + 64 * waitCode n.rcl.wait
  else if k ≤ 7 then byteAt (inUnits 1000 (waitLeft n.now n.rcl.wait)) (k - 6)
  else if k ≤ 9 then byteAt (inUnits 1000 (timeLeft n.now n.rcl.feedTimeout)) (k - 8)
  else if k = 10 then inUnits 1000 (timeLeft n.now n.rcl.flowTimer)
  else if k = 11 then ownVentCode n.vsu.own + 4 * n.vsu.sought.toNat + 8 * ventCode n.vsu.status
  else if k ≤ 13 then byteAt (inUnits 1000 (timeLeft n.now n.vsu.slotWait)) (k - 12)
  else if k = 14 then n.ventPosition.getD 0xFF
  else if k = 15 then stageCode n.pou.stage + 4 * n.pou.patternOn.toNat
  else if k = 16 then bits [n.pou.strobe, n.pou.sign, n.pou.hvac, n.pou.damper, n.pou.epo,
    n.pou.released, n.pou.troubleClosed, n.pou.attn]
  else if k = 17 then bits (allOutputs.map (fun o => (n.pou.sup.get (supIdx o)).inFault))
  else if k = 18 then
    bits (allOutputs.map (fun o => decide ((n.pou.sup.get (supIdx o)).kind = some .shortLoop)))
  else
    let codes := allOutputs.map (fun o => supCode (n.pou.sup.get (supIdx o)).cls)
    byteAt (codes.foldr (fun c acc => c + 4 * acc) 0) (k - 19)

/-- The four bytes of row results, release record state and validation result (R184). -/
def storeWord (n : Node) : Nat :=
  (allRows.map (fun r => rowResultCode (n.cfs.rowResult.get r))).foldr (fun c acc => c + 4 * acc) 0
    + 2 ^ 26 * releaseCode n.cfs.release.state
    + 2 ^ 28 * (match n.cfs.validation with | .valid => 0 | .invalid => 1)

/-- A finding's byte: the row concerned, or 0xFF for a check that passed (R184). -/
def findingByte (fs : List (Check × Nat)) (c : Check) : Nat :=
  match fs.find? (fun f => f.1 = c) with
  | some f => f.2
  | none => 0xFF

/-- The requester code of a row write (R184). -/
def writerCode : WriteKind → Nat
  | .config => 1 | .release => 2 | .erase => 1

/-- Kind codes of the frames waiting in the outbox, one bit each (R184). -/
def outboxBits (o : Outbox) : Nat :=
  bits [false, o.fed.isSome, o.wayopen.isSome, o.yieldTo.isSome, o.ventfree.isSome, o.bid.isSome,
    o.vent.isSome, o.standing]

/-- Unit record bytes of CFS and LKC: offsets 21..51 from 0x3E (R184). DESIGN CHOICE (log 53): a release
record's n_own or n_res above 15 shows modulo 16. -/
def unitByteHigh (n : Node) (k : Nat) : Nat :=
  if k ≤ 24 then byteAt (storeWord n) (k - 21)
  else if k ≤ 33 then
    match allChecks[k - 25]? with
    | some c => findingByte n.cfs.findings c
    | none => 0
  else if k ≤ 35 then byteAt n.cfs.serial (k - 34)
  else if k ≤ 37 then byteAt n.cfs.release.hallId (k - 36)
  else if k ≤ 41 then byteAt n.cfs.release.wd (k - 38)
  else if k = 42 then n.cfs.release.nOwn % 16 + 16 * (n.cfs.release.nRes % 16)
  else if k = 43 then
    (match n.cfs.busy with
      | some w => 1 + 2 * w.row.val + 32 * writerCode w.kind
      | none => 0) + 128 * n.cfs.releasePending.isSome.toNat
  else if k = 44 then (match n.cfs.busy with | some w => w.ends - n.now | none => 0)
  else if k = 45 then outboxBits n.lkc.outbox
  else if k = 46 then (match n.lkc.inFlight with | some f => kindCode f | none => 0)
  else if k = 47 then inUnits 100 (timeLeft n.now n.lkc.listen)
  else if k = 48 then inUnits 100 (timeLeft n.now n.lkc.silence)
  else if k = 49 then inUnits 100 (timeLeft n.now n.lkc.placement)
  else byteAt n.lkc.badFrames (k - 50)

/-- A number as `w` bytes, low byte first. -/
def leBytes (w x : Nat) : List Nat := (List.range w).map (byteAt x)

/-- The roles as the 24-bit value of row 4 (R183). -/
def rolesValue (roles : Vector Role 12) : Nat :=
  (allChans.map (fun c => roleCode (roles.get c))).foldr (fun c acc => c + 4 * acc) 0

/-- The reserve holder byte: 0xFF for none, and 0 in FALLBACK, where no chapter gives one (R183, R184). -/
def holderByte (n : Node) : Nat :=
  match n.cfg.holder with
  | some h => h.val
  | none => if n.normal then 0xFF else 0

/-- The 65 bytes of the working configuration, in row order (R184). -/
def configBytes (n : Node) : List Nat :=
  let c := n.cfg
  leBytes 2 c.hallId ++ leBytes 2 c.period
  ++ leBytes 2 c.volume ++ leBytes 2 c.concentration ++ leBytes 1 c.factor
  ++ leBytes 2 c.k1 ++ leBytes 2 c.k2 ++ leBytes 2 (signed16 c.tmin) ++ leBytes 2 (signed16 c.tmax)
  ++ leBytes 2 c.mh ++ leBytes 2 c.mr ++ leBytes 3 (rolesValue c.roles)
  ++ [c.countdown, c.manualCountdown, c.holdRestart] ++ leBytes 2 c.degradedDelay
  ++ [c.epoEnable.toNat, c.epoLead]
  ++ [c.duration] ++ leBytes 2 c.soak ++ leBytes 2 c.verifyA ++ leBytes 2 c.verifyB
  ++ leBytes 2 c.neighbours ++ [c.ventGroup, c.ventCapacity] ++ leBytes 2 c.slotWait
  ++ [c.fullThreshold] ++ leBytes 2 c.pulse ++ leBytes 2 c.stagger ++ leBytes 2 c.window
  ++ leBytes 2 c.pressureLimit ++ leBytes 2 c.resumeThreshold ++ [c.deferLimit, c.selectorTime]
  ++ [holderByte n, classCode c.cls] ++ leBytes 2 c.reserveWait ++ leBytes 2 c.feedTimeout
  ++ leBytes 2 c.grantHold

/-- Command area bytes, from 0xB4 (R175, R184). -/
def commandByte (n : Node) (k : Nat) : Nat :=
  if k = 0 then n.svp.param.toNat
  else if k = 1 then n.svp.code.toNat
  else if k = 2 then commandCode n.svp.command
  else if k = 3 then resultCode n.svp.result
  else n.svp.count

/-- Store access bytes, from 0xB9. -/
def accessByte (n : Node) (k : Nat) : Nat :=
  if k = 0 then n.svp.rowNumber.toNat
  else if k = 1 then storeOpCode n.svp.op + 4 * n.svp.enable.toNat + 8 * n.svp.startBit.toNat
  else if k = 2 then rowResultCode n.svp.rowResult
  else if h : k - 3 < 14 then (n.svp.buffer.get ⟨k - 3, h⟩).toNat
  else 0

/-! ## The windows -/

/-- A node id with its present bit: both 0 when absent. -/
def idBits (i : Option NodeId) : Nat :=
  match i with
  | some x => x.val + 16
  | none => 0

/-- The channel record (R184). -/
def channelRecord (now : Time) (r : Channel) : List Nat :=
  [1, roleCode r.role + 4 * chanCode r.state + 32 * r.flowSeen.toNat + 64 * r.driveCut.toNat,
   r.pressure, idBits r.committedTo + 32 * requesterCode r.requester, idBits r.feedGrantee]
    ++ leBytes 2 (timeLeft now r.window)

/-- The grant entries of a peer, as in a STANDING, unused entries 0. -/
def grantBytes (h : Option HolderPart) : List Nat :=
  match h with
  | some p => (p.grants.map (fun g : Grant => 16 * g.grantee.val + g.count) ++ List.replicate 8 0).take 8
  | none => List.replicate 8 0

/-- The peer record (R184). -/
def peerRecord (n : Node) (p : Peer) : List Nat :=
  [1, (match p.hall with | some h => hallCode h | none => 15),
   bits [p.lockout, p.short, p.low, p.trouble]
     + 16 * (match p.mode with | some m => modeCode m | none => n.absentAt 0xD5 2)
     + 32 * p.holderPart.isSome.toNat + 64 * p.present.toNat,
   (match p.lastHeard with | some t => inUnits 100 (n.now - t) | none => 0xFF),
   p.ventGroup + 16 * ventCode p.ventStatus, idClass p.bidHolder p.cls, p.wanted,
   (match p.holderPart with | some h => h.ready + 16 * h.lockout.toNat | none => 0)]
    ++ grantBytes p.holderPart

/-- The bid-queue record (R184). -/
def bidRecord (now : Time) (e : BidEntry) : List Nat :=
  [1, e.node.val + 16 * classCode e.cls + 32 * takenCode e.taken, e.wanted + 16 * e.fed,
   e.granted + 16 * e.inFeed] ++ leBytes 2 (inUnits 1000 (timeLeft now e.hold))

/-- The record at a place of a list, or `width` zero bytes beyond its end (R174). -/
def placeRecord {α : Type} (width : Nat) (f : α → List Nat) (l : List α) (p : Nat) : List Nat :=
  match l[p]? with
  | some x => f x
  | none => List.replicate width 0

/-- Element of a vector at a pointer. -/
def vecAt {α : Type} {k : Nat} (v : Vector α k) (p : Nat) : Option α :=
  if h : p < k then some (v.get ⟨p, h⟩) else none

/-- The number of the window whose area holds an index. -/
def windowAt (i : Nat) : Option (Fin 8) :=
  if i < 0xCA then none else if i ≤ 0xD1 then some 0 else if i ≤ 0xE2 then some 1
  else if i ≤ 0xE9 then some 2 else if i ≤ 0xED then some 3 else if i ≤ 0xF1 then some 4
  else if i ≤ 0xF6 then some 5 else if i ≤ 0xF9 then some 6 else if i ≤ 0xFC then some 7 else none

/-- Pointer index of a window. -/
def windowBase : Fin 8 → Nat
  | 0 => 0xCA | 1 => 0xD2 | 2 => 0xE3 | 3 => 0xEA | 4 => 0xEE | 5 => 0xF2 | 6 => 0xF7 | 7 => 0xFA

/-- Last index of a window's record. -/
def windowLast : Fin 8 → Nat
  | 0 => 0xD1 | 1 => 0xE2 | 2 => 0xE9 | 3 => 0xED | 4 => 0xF1 | 5 => 0xF6 | 6 => 0xF9 | 7 => 0xFC

/-- Capacity of a window (R174). -/
def windowCap : Fin 8 → Nat
  | 0 => 12 | 1 => 16 | 2 => 16 | 3 => 16 | 4 => 8 | 5 => 16 | 6 => 12 | 7 => 16

/-- The record of window w at a pointer, of the node that the snapshot holds (R174). -/
def windowRecord (n : Node) (w : Fin 8) (p : Nat) : List Nat :=
  match w with
  | 0 => (vecAt n.vcu.channels p).elim [] (channelRecord n.now)
  | 1 => (vecAt n.lkc.peers p).elim [] (peerRecord n)
  | 2 => placeRecord 6 (bidRecord n.now) n.rva.bids p
  | 3 => placeRecord 3 (fun x : NodeId × Nat => [1, x.1.val, x.2]) n.rva.feedQueue p
  | 4 => placeRecord 3 (fun x : Place => [1, x.channel.val, placeCode x.status])
      (match n.rva.feed with | some f => f.places | none => []) p
  | 5 => placeRecord 4 (fun x : Answer =>
      [1, x.grantee.val, x.confirmed + 16 * x.failed, fedCode x.outcome]) n.rva.answers p
  | 6 => placeRecord 2 (fun c : ChanId => [1, c.val]) n.vcu.queue p
  | 7 => placeRecord 2 (fun i : NodeId => [1, i.val]) n.vsu.queue p

/-- A byte of a window area: its pointer as the snapshot holds it, or a byte of the record at the live
pointer (R174, R184). -/
def windowByte (n : Node) (pointers : Vector Nat 8) (w : Fin 8) (i : Nat) : Nat :=
  if i = windowBase w then n.svp.pointers.get w
  else (windowRecord n w (pointers.get w)).getD (i - windowBase w - 1) 0

/-! ## The view -/

/-- The byte at an index of the view, from the snapshot's node and the live pointers (R184). -/
def viewByte (n : Node) (pointers : Vector Nat 8) (i : Nat) : Nat :=
  match windowAt i with
  | some w => windowByte n pointers w i
  | none =>
    if i ≤ 0x0B then statusByte n i
    else if i ≤ 0x1E then measureByte n (i - 0x0C)
    else if i ≤ 0x22 then stickyByte n (i - 0x1F)
    else if i ≤ 0x3D then planByte n.apl (i - 0x23)
    else if i ≤ 0x52 then unitByteLow n (i - 0x3E)
    else if i ≤ 0x71 then unitByteHigh n (i - 0x3E)
    else if i ≤ 0xB2 then (configBytes n).getD (i - 0x72) 0
    else if i = 0xB3 then n.svp.autoSnap.toNat
    else if i ≤ 0xB8 then commandByte n (i - 0xB4)
    else if i ≤ 0xC9 then accessByte n (i - 0xB9)
    else 0

end Sys2Proof.Machine
end

