-- ==== Sys2Proof/Machine/Service.lean ====
section
/-! DEFINITION. Service: the service port's transactions, reads, writes and commands (R172 to R181). -/

namespace Sys2Proof.Machine

/-! ## The port's own record -/

/-- Change SVP's record. -/
def Node.modSvp (n : Node) (f : Svp → Svp) : Node := { n with svp := f n.svp }

/-- The port's address: 0x60 plus the node id (R160, R173). -/
def Node.portAddress (n : Node) : BitVec 7 := BitVec.ofNat 7 (0x60 + n.id.val)

/-- A data byte of a write transaction would be taken now (R173). -/
def Node.takesData (n : Node) : Bool :=
  !n.held && decide (n.svp.transaction = .addressedWrite) && !n.svp.expectIndex && !n.svp.nacked

/-- The index byte of a write transaction would be taken now (R173). -/
def Node.takesIndex (n : Node) : Bool :=
  !n.held && decide (n.svp.transaction = .addressedWrite) && n.svp.expectIndex && !n.svp.nacked

/-- The index after a byte that is taken (R174). -/
def nextIndex (i : Nat) : Nat := if i = 0xFC then 0 else i + 1

/-- A byte is not acknowledged: the index stays, the result becomes REFUSED (R173). -/
def nack (v : Svp) : Svp := { v with nacked := true, result := .refused }

/-- A byte is taken and the index moves (R174). -/
def step1 (v : Svp) : Svp := { v with index := nextIndex v.index }

/-- A command is taken, with its first answer (R178, R179). -/
def taken (cmd : Command) (result : CmdResult) (v : Svp) : Svp :=
  { step1 v with command := cmd, count := (v.count + 1) % 256, result := result }

/-- A command's code byte is taken, with its first answer (R175, R178). -/
def codeTaken (cmd : Command) (result : CmdResult) (v : Svp) : Svp :=
  { taken cmd result v with code := BitVec.ofNat 8 (commandCode cmd) }

/-- A snapshot (R175, R176). -/
def takeSnapshot (s : State) : State :=
  let n := s.node.modSvp (fun v => { v with counterTaken := false })
  { s with node := n, snapshot := n }

/-- A data byte of a write transaction that an event of the table names, where it can be taken. -/
def onByte (here : Svp → Bool) (f : Node → Node) (s : State) : Host.Outcome State Fault Refusal :=
  if s.node.takesData && here s.node.svp then onNode f s else .next s

/-! ## Addressing and reading -/

/-- The read address is received: a snapshot when auto-snap is set (R175). -/
def readAddressed (s : State) : State :=
  let n := s.node.modSvp (fun v =>
    { v with transaction := .addressedRead, expectIndex := false, nacked := false, out := [] })
  let t := { s with node := n }
  if n.svp.autoSnap then takeSnapshot t else t

/-- A start condition and an address (R173). DESIGN CHOICE (log 45): a stop condition changes nothing, so
a transaction stands until the next start condition or reset. -/
def startTransaction (address : BitVec 7) (read : Bool) (s : State) : State :=
  if s.node.held then s
  else if address = s.node.portAddress then
    if read then readAddressed s
    else { s with node := s.node.modSvp (fun v =>
      { v with transaction := .addressedWrite, expectIndex := true, nacked := false, out := [] }) }
  else { s with node := s.node.modSvp (fun v =>
    { v with transaction := .idle, expectIndex := false, nacked := false, out := [] }) }

/-- The index byte (R173). -/
def setIndex (byte : Byte) (n : Node) : Node :=
  if byte.toNat ≤ 0xFC then n.modSvp (fun v => { v with index := byte.toNat, expectIndex := false })
  else n.modSvp nack

/-- The window whose record ends at an index. -/
def windowEnding (i : Nat) : Option (Fin 8) :=
  match windowAt i with
  | none => none
  | some w => if i = windowLast w then some w else none

/-- The index and the pointers after a byte read: a window's record turns back on itself and its
pointer advances (R174). -/
def afterRead (v : Svp) : Svp :=
  match windowEnding v.index with
  | none => step1 v
  | some w => { v with index := windowBase w + 1,
                       pointers := v.pointers.set w ((v.pointers.get w + 1) % windowCap w) }

/-- The counter is read-clear at its last byte: LKC's counter is reduced by the snapshot's, whose copy
then reads 0 (R83, R176). -/
def clearCounter (s : State) : State :=
  if s.node.svp.index = 0x71 ∧ s.node.svp.counterTaken = false then
    let left := s.node.lkc.badFrames - s.snapshot.lkc.badFrames
    { s with node := { s.node with lkc.badFrames := left, svp.counterTaken := true },
             snapshot := { s.snapshot with lkc.badFrames := 0 } }
  else s

/-- One byte read in a read transaction (R173, R174). -/
def readByte (s : State) : State :=
  let b := viewByte s.snapshot s.node.svp.pointers s.node.svp.index
  let t := clearCounter s
  { t with node := t.node.modSvp (fun v => afterRead { v with out := v.out ++ [b] }) }

/-- A run of bytes read. -/
def readBytes : Nat → State → State
  | 0, s => s
  | k + 1, s => readBytes k (readByte s)

/-- The bytes left to the end of the window record that the index stands in. -/
def recordLeft (i : Nat) : Nat :=
  match windowAt i with
  | none => 0
  | some w => if i = windowBase w then 0 else windowLast w - i + 1

/-- Reading goes on, in a read transaction (R173). -/
def readOn (count : Nat) (s : State) : State :=
  if s.node.held = false ∧ s.node.svp.transaction = .addressedRead then readBytes count s else s

/-! ## Writing -/

/-- A byte of the sticky flags area (R177). -/
def clearSticky (byte : Byte) (n : Node) : Node :=
  (n.clearFlags (n.svp.index - 0x1F) byte).modSvp step1

/-- A window's pointer (R174). -/
def setPointer (byte : Byte) (n : Node) : Node :=
  match windowAt n.svp.index with
  | none => n
  | some w =>
    if byte.toNat < windowCap w then
      n.modSvp (fun v => step1 { v with pointers := v.pointers.set w byte.toNat })
    else n.modSvp nack

/-- The index is a window's pointer index. -/
def atPointer (v : Svp) : Bool :=
  match windowAt v.index with
  | none => false
  | some w => decide (v.index = windowBase w)

/-- The operation a control byte codes (R184). -/
def opOf (control : Byte) : Option StoreOp :=
  match control.toNat % 4 with
  | 1 => some .read
  | 2 => some .write
  | _ => none

/-- A data byte is written to an index the partner may write plainly, or to one it may not (R173, R178,
R179). A byte that another command of the table names changes nothing here (log 26). -/
def writeRegister (byte : Byte) (n : Node) : Node :=
  let i := n.svp.index
  if i = 0xB4 then n.modSvp (fun v => step1 { v with param := byte })
  else if i = 0xB9 then n.modSvp (fun v => step1 { v with rowNumber := byte })
  else if i = 0xBA then
    match opOf byte with
    | none => n.modSvp nack
    | some op => if byte.getLsbD 3 then n
        else n.modSvp (fun v => step1 { v with op := op, enable := byte.getLsbD 2 })
  else if h : i - 0xBC < 14 ∧ 0xBC ≤ i then
    n.modSvp (fun v => step1 { v with buffer := v.buffer.set (i - 0xBC) byte h.1 })
  else if i = 0xB5 then (if 1 ≤ byte.toNat ∧ byte.toNat ≤ 4 then n else n.modSvp nack)
  else if (0x1F ≤ i ∧ i ≤ 0x22) ∨ i = 0xB3 ∨ atPointer n.svp = true then n
  else n.modSvp nack

/-! ## Commands -/

/-- ALARM RESET in RUN (R35, R178). -/
def resetZones (n : Node) : Node :=
  let p := n.svp.param.toNat
  if p = 1 ∨ p = 2 ∨ p = 3 then
    let a := if p ≠ 2 then n.fiu.zoneA.alarmReset else n.fiu.zoneA
    let b := if p ≠ 1 then n.fiu.zoneB.alarmReset else n.fiu.zoneB
    let refused := (p ≠ 2 ∧ a.lastReset = .refused) ∨ (p ≠ 1 ∧ b.lastReset = .refused)
    refreshZones ({ n with fiu.zoneA := a, fiu.zoneB := b }.modSvp
      (codeTaken .alarmReset (if refused then .refused else .done)))
  else n.modSvp (codeTaken .alarmReset .refused)

/-- ALARM RESET (R178). -/
def alarmResetCommand (n : Node) : Node :=
  if n.running then resetZones n else n.modSvp (codeTaken .alarmReset .busy)

/-- The command just taken was ACCEPTED: its completion will be told by its count (R180). -/
def awaitStore (v : Svp) : Svp := { v with awaiting := some v.count }

/-- CLEAR RELEASE (R169, R178). -/
def clearReleaseCommand (n : Node) : Node :=
  if !n.running then n.modSvp (codeTaken .clearRelease .busy)
  else if n.isolate = false ∨ n.hsq.hall ≠ .spent then n.modSvp (codeTaken .clearRelease .refused)
  else if !n.storeIdle then n.modSvp (codeTaken .clearRelease .busy)
  else startWrite 12 .erase (releaseData 0 0 0 0 0)
    (n.modSvp (fun v => awaitStore (codeTaken .clearRelease .accepted v)))

/-- RESTART: BUSY before RUN and while the store is busy, else the reset begins (R170, R178). -/
def restartCommand (straps : NodeId) (s : State) : Host.Outcome State Fault Refusal :=
  if s.node.running && s.node.storeIdle then .next (beginLoad straps .command s)
  else onNode (fun n => n.modSvp (codeTaken .restart .busy)) s

/-- The row a row number names. -/
def rowOf (b : Byte) : Option RowId := if h : b.toNat < 13 then some ⟨b.toNat, h⟩ else none

/-- STORE READ ROW in RUN with the store idle: data and row result (R158, R170, R179). -/
def readRow (r : RowId) (n : Node) : Node :=
  let (result, data) := (n.row r).read
  n.modSvp (fun v => { taken .storeReadRow .done v with
    rowResult := some result, buffer := data.getD (Vector.replicate 14 0) })

/-- STORE READ ROW (R170, R179; log 39 for a bad row number while the store is busy). -/
def readRowCommand (control : Byte) (n : Node) : Node :=
  let m := n.modSvp (fun v =>
    { v with op := .read, enable := control.getLsbD 2, startBit := false })
  if !m.running then m.modSvp (taken .storeReadRow .busy)
  else match rowOf m.svp.rowNumber with
    | none => m.modSvp (taken .storeReadRow .refused)
    | some r => if m.storeIdle then readRow r m else m.modSvp (taken .storeReadRow .busy)

/-- STORE WRITE ROW in RUN with enable set (R167). -/
def writeRow (n : Node) : Node :=
  match rowOf n.svp.rowNumber with
  | none => n.modSvp (taken .storeWriteRow .refused)
  | some r =>
    if r = 12 ∨ n.isolate = false then n.modSvp (taken .storeWriteRow .refused)
    else if !n.storeIdle then n.modSvp (taken .storeWriteRow .busy)
    else
      let m := startWrite r .config n.svp.buffer { n with cfs.configPending := true }
      m.modSvp (fun v => { awaitStore (taken .storeWriteRow .accepted v) with startBit := true })

/-- STORE WRITE ROW (R179). -/
def writeRowCommand (control : Byte) (n : Node) : Node :=
  let m := n.modSvp (fun v =>
    { v with op := .write, enable := control.getLsbD 2, startBit := false })
  if !m.svp.enable then m.modSvp (taken .storeWriteRow .refused)
  else if !m.running then m.modSvp (taken .storeWriteRow .busy)
  else writeRow m

/-! ## The commands of the table -/

/-- START_CONDITION (R173, R175). -/
def execStartCondition (address : BitVec 7) (read : Bool) (s : State) :
    Host.Outcome State Fault Refusal := .next (startTransaction address read s)

/-- INDEX_WRITE (R173). -/
def execIndexWrite (byte : Byte) (s : State) : Host.Outcome State Fault Refusal :=
  if s.node.takesIndex then onNode (setIndex byte) s else .next s

/-- READ_ADDRESS (R173 to R176). -/
def execReadAddress (count : Nat) (s : State) : Host.Outcome State Fault Refusal :=
  if s.node.held then .next s else .next (readBytes count (readAddressed s))

/-- WINDOW_RECORD_READ (R174). -/
def execWindowRecordRead (s : State) : Host.Outcome State Fault Refusal :=
  .next (readOn (recordLeft s.node.svp.index) s)

/-- BAD_FRAME_COUNTER_READ (R176). -/
def execBadFrameCounterRead (s : State) : Host.Outcome State Fault Refusal :=
  .next (readOn (if 0x70 ≤ s.node.svp.index then 0x72 - s.node.svp.index else 0) s)

/-- STICKY_FLAG_CLEAR (R177). -/
def execStickyFlagClear (byte : Byte) (s : State) : Host.Outcome State Fault Refusal :=
  onByte (fun v => decide (0x1F ≤ v.index) && decide (v.index ≤ 0x22)) (clearSticky byte) s

/-- WINDOW_POINTER_WRITE (R174). -/
def execWindowPointerWrite (byte : Byte) (s : State) : Host.Outcome State Fault Refusal :=
  onByte atPointer (setPointer byte) s

/-- AUTO_SNAP_WRITE (R175). -/
def execAutoSnapWrite (byte : Byte) (s : State) : Host.Outcome State Fault Refusal :=
  onByte (fun v => decide (v.index = 0xB3))
    (fun n => n.modSvp (fun v => step1 { v with autoSnap := byte.getLsbD 0 })) s

/-- REGISTER_WRITE (R173, R178, R179). -/
def execRegisterWrite (byte : Byte) (s : State) : Host.Outcome State Fault Refusal :=
  onByte (fun _ => true) (writeRegister byte) s

/-- The index is the command code's. -/
def atCode (v : Svp) : Bool := decide (v.index = 0xB5)

/-- The index is the store control's. -/
def atControl (v : Svp) : Bool := decide (v.index = 0xBA)

/-- SNAP: a snapshot with this result already in place, in every phase (R178). -/
def execSnap (s : State) : Host.Outcome State Fault Refusal :=
  if s.node.takesData && atCode s.node.svp then
    .next (takeSnapshot { s with node := s.node.modSvp (codeTaken .snap .done) })
  else .next s

/-- ALARM_RESET (R35, R178). -/
def execAlarmReset (s : State) : Host.Outcome State Fault Refusal := onByte atCode alarmResetCommand s

/-- CLEAR_RELEASE (R169, R178). -/
def execClearRelease (s : State) : Host.Outcome State Fault Refusal := onByte atCode clearReleaseCommand s

/-- RESTART (R170, R178, R181). -/
def execRestart (straps : NodeId) (s : State) : Host.Outcome State Fault Refusal :=
  if s.node.takesData && atCode s.node.svp then restartCommand straps s else .next s

/-- STORE_READ_ROW: a control byte with start set and operation READ (R170, R179). -/
def execStoreReadRow (control : Byte) (s : State) : Host.Outcome State Fault Refusal :=
  onByte (fun v => atControl v && control.getLsbD 3 && decide (opOf control = some .read))
    (readRowCommand control) s

/-- STORE_WRITE_ROW: a control byte with start set and operation WRITE (R167, R179). -/
def execStoreWriteRow (control : Byte) (s : State) : Host.Outcome State Fault Refusal :=
  onByte (fun v => atControl v && control.getLsbD 3 && decide (opOf control = some .write))
    (writeRowCommand control) s

end Sys2Proof.Machine
end

