-- ==== Sys2Proof/Machine/Dispatch.lean ====
section
/-! DEFINITION. Dispatch: one arm per command. -/

namespace Sys2Proof.Machine

def exec (i : Instr) (s : State) : Host.Outcome State Fault Refusal :=
  match i with
  | .powerOn straps => Sys2Proof.Machine.execPowerOn straps s
  | .resetLine micros straps => Sys2Proof.Machine.execResetLine micros straps s
  | .load inputs => Sys2Proof.Machine.execLoad inputs s
  | .zoneSample zone current => Sys2Proof.Machine.execZoneSample zone current s
  | .manualStationSample current => Sys2Proof.Machine.execManualStationSample current s
  | .holdSwitchSample current => Sys2Proof.Machine.execHoldSwitchSample current s
  | .keySample normalMade isolateMade => Sys2Proof.Machine.execKeySample normalMade isolateMade s
  | .degradedConfirmExpiry => Sys2Proof.Machine.execDegradedConfirmExpiry s
  | .epoPointReached => Sys2Proof.Machine.execEpoPointReached s
  | .countdownExpiry => Sys2Proof.Machine.execCountdownExpiry s
  | .dischargeDurationExpiry => Sys2Proof.Machine.execDischargeDurationExpiry s
  | .soakExpiry => Sys2Proof.Machine.execSoakExpiry s
  | .temperatureRead reading => Sys2Proof.Machine.execTemperatureRead reading s
  | .hallPressureRead reading => Sys2Proof.Machine.execHallPressureRead reading s
  | .deferTimerExpiry => Sys2Proof.Machine.execDeferTimerExpiry s
  | .cylinderPressureRead channel reading => Sys2Proof.Machine.execCylinderPressureRead channel reading s
  | .pulseStart => Sys2Proof.Machine.execPulseStart s
  | .pulseLengthExpiry => Sys2Proof.Machine.execPulseLengthExpiry s
  | .confirmWindowExpiry channel => Sys2Proof.Machine.execConfirmWindowExpiry channel s
  | .staggerTimerExpiry => Sys2Proof.Machine.execStaggerTimerExpiry s
  | .driveMonitorCut channel => Sys2Proof.Machine.execDriveMonitorCut channel s
  | .selectorLimitRead openMade closedMade => Sys2Proof.Machine.execSelectorLimitRead openMade closedMade s
  | .selectorTravelExpiry => Sys2Proof.Machine.execSelectorTravelExpiry s
  | .frameOffer differsAt => Sys2Proof.Machine.execFrameOffer differsAt s
  | .badFrame bytes => Sys2Proof.Machine.execBadFrame bytes s
  | .standingReceived src content => Sys2Proof.Machine.execStandingReceived src content s
  | .bidReceived src holder wanted cls => Sys2Proof.Machine.execBidReceived src holder wanted cls s
  | .yieldReceived src holder => Sys2Proof.Machine.execYieldReceived src holder s
  | .wayopenReceived src holder count => Sys2Proof.Machine.execWayopenReceived src holder count s
  | .fedReceived src grantee confirmed failed outcome => Sys2Proof.Machine.execFedReceived src grantee confirmed failed outcome s
  | .ventReceived src group => Sys2Proof.Machine.execVentReceived src group s
  | .ventfreeReceived src group => Sys2Proof.Machine.execVentfreeReceived src group s
  | .statusTimerExpiry => Sys2Proof.Machine.execStatusTimerExpiry s
  | .listenTimerExpiry => Sys2Proof.Machine.execListenTimerExpiry s
  | .silenceTimerExpiry => Sys2Proof.Machine.execSilenceTimerExpiry s
  | .placementTimerExpiry => Sys2Proof.Machine.execPlacementTimerExpiry s
  | .presenceTimerExpiry node => Sys2Proof.Machine.execPresenceTimerExpiry node s
  | .grantHoldExpiry node => Sys2Proof.Machine.execGrantHoldExpiry node s
  | .reserveWaitExpiry => Sys2Proof.Machine.execReserveWaitExpiry s
  | .feedTimeoutExpiry => Sys2Proof.Machine.execFeedTimeoutExpiry s
  | .flowTimerExpiry => Sys2Proof.Machine.execFlowTimerExpiry s
  | .slotWaitExpiry => Sys2Proof.Machine.execSlotWaitExpiry s
  | .supervisionRead output cls => Sys2Proof.Machine.execSupervisionRead output cls s
  | .settleTimeExpiry output => Sys2Proof.Machine.execSettleTimeExpiry output s
  | .sounderPhaseExpiry => Sys2Proof.Machine.execSounderPhaseExpiry s
  | .storeWriteCompletion => Sys2Proof.Machine.execStoreWriteCompletion s
  | .indexWrite byte => Sys2Proof.Machine.execIndexWrite byte s
  | .readAddress count => Sys2Proof.Machine.execReadAddress count s
  | .windowRecordRead => Sys2Proof.Machine.execWindowRecordRead s
  | .badFrameCounterRead => Sys2Proof.Machine.execBadFrameCounterRead s
  | .stickyFlagClear byte => Sys2Proof.Machine.execStickyFlagClear byte s
  | .windowPointerWrite byte => Sys2Proof.Machine.execWindowPointerWrite byte s
  | .autoSnapWrite byte => Sys2Proof.Machine.execAutoSnapWrite byte s
  | .registerWrite byte => Sys2Proof.Machine.execRegisterWrite byte s
  | .snap => Sys2Proof.Machine.execSnap s
  | .alarmReset => Sys2Proof.Machine.execAlarmReset s
  | .clearRelease => Sys2Proof.Machine.execClearRelease s
  | .restart straps => Sys2Proof.Machine.execRestart straps s
  | .storeReadRow control => Sys2Proof.Machine.execStoreReadRow control s
  | .storeWriteRow control => Sys2Proof.Machine.execStoreWriteRow control s
  | .startCondition address read => Sys2Proof.Machine.execStartCondition address read s
  | .supplyBelowThreshold => Sys2Proof.Machine.execSupplyBelowThreshold s
  | .driveCurrentWithoutCommand channel drawing => Sys2Proof.Machine.execDriveCurrentWithoutCommand channel drawing s

end Sys2Proof.Machine
end

