-- ==== Sys2Proof/Machine/Idle.lean ====
section
/-! DEFINITION. Idle: what the block does of its own on an empty queue: an internal event that is due
is put into the queue, and otherwise one millisecond passes (log 1, log 3). -/

namespace Sys2Proof.Machine

/-- The EPO point is reached and not yet marked (R12). -/
def Node.epoDue (n : Node) : Bool :=
  decide (n.hsq.hall = .countdown) && n.cfg.epoEnable && decide (0 < n.cfg.epoLead)
    && decide (n.remaining ≤ 1000 * n.cfg.epoLead) && !n.hsq.epoReached

/-- The running countdown has come to its end (R13). -/
def Node.countdownDue (n : Node) : Bool :=
  match n.hsq.countdown with
  | .running ends => decide (n.hsq.hall = .countdown) && decide (ends ≤ n.now)
  | .held _ => false
  | .off => false

/-- The row write has come to its end (R166). -/
def Node.writeDue (n : Node) : Bool :=
  match n.cfs.busy with
  | some w => decide (w.ends ≤ n.now)
  | none => false

/-- The reserve wait has come to its end (R127). -/
def Node.waitDue (n : Node) : Bool :=
  match n.rcl.wait with
  | .running ends => decide (ends ≤ n.now)
  | .stopped => false
  | .expired => false

/-- The first of a list that meets a condition, as a command. -/
def firstDue {α : Type} (l : List α) (p : α → Bool) (c : α → Instr) : Option Instr := (l.find? p).map c

/-- A command when its condition holds. -/
def dueIf (b : Bool) (c : Instr) : Option Instr := if b then some c else none

/-- The internal events in the order in which those due at one moment are taken, each with its command
when it is due (log 3). -/
def dueList (n : Node) : List (Option Instr) :=
  [dueIf n.nextPulse.isSome .pulseStart,
   dueIf n.writeDue .storeWriteCompletion,
   dueIf (due n.now n.vcu.pulseEnd) .pulseLengthExpiry,
   firstDue allChans n.driveLong .driveMonitorCut,
   firstDue allChans (fun c => due n.now (n.chan c).window) .confirmWindowExpiry,
   dueIf (due n.now n.vcu.stagger) .staggerTimerExpiry,
   dueIf (due n.now n.vcu.deferTimer) .deferTimerExpiry,
   dueIf (due n.now n.vcu.selector.travel) .selectorTravelExpiry,
   dueIf n.epoDue .epoPointReached,
   dueIf n.countdownDue .countdownExpiry,
   dueIf (due n.now n.hsq.degraded) .degradedConfirmExpiry,
   dueIf (due n.now n.hsq.duration) .dischargeDurationExpiry,
   dueIf (due n.now n.hsq.soak) .soakExpiry,
   dueIf (due n.now n.lkc.listen) .listenTimerExpiry,
   dueIf (due n.now n.lkc.silence) .silenceTimerExpiry,
   dueIf (due n.now n.lkc.placement) .placementTimerExpiry,
   dueIf (due n.now n.lkc.status) .statusTimerExpiry,
   firstDue allNodes (fun i => due n.now (n.peer i).presence) .presenceTimerExpiry,
   firstDue allNodes (fun i => (n.entry i).any (fun e => due n.now e.hold)) .grantHoldExpiry,
   dueIf n.waitDue .reserveWaitExpiry,
   dueIf (due n.now n.rcl.feedTimeout) .feedTimeoutExpiry,
   dueIf (due n.now n.rcl.flowTimer) .flowTimerExpiry,
   dueIf (due n.now n.vsu.slotWait) .slotWaitExpiry,
   firstDue allOutputs (fun o => due n.now (n.pou.sup.get (supIdx o)).settle) .settleTimeExpiry,
   dueIf (due n.now n.pou.patternEnd) .sounderPhaseExpiry]

/-- The internal event that is due, if any: none before RUN (log 3). -/
def dueCommand (n : Node) : Option Instr :=
  if n.running then (dueList n).findSome? id else none

/-- What the block does on an empty queue. -/
def idle (s : State) : State :=
  match dueCommand s.node with
  | some c => { s with pending := [c] }
  | none => { s with node := { s.node with now := s.node.now + 1 } }

end Sys2Proof.Machine
end

