-- ==== Sys2Proof/Safety.lean ====
section
/-! DEFINITION. Safety: the conditions on a state that the statements are about, what a statement says a
command ends in, and what several statements share. -/

namespace Sys2Proof.Machine

/-- While the key is delivered ISOLATE no valve channel output is commanded on, and the selector is
neither OPENING nor driven open (R67). -/
def keyLaw (n : Node) : Prop :=
  n.fiu.key.delivered = .isolate →
    n.vcu.outputOn = none ∧ n.vcu.selector.state ≠ .opening ∧ n.vcu.selector.drive ≠ .driveOpen

/-- The selector is driven open only while it is OPENING (section 4.8). -/
def driveLaw (n : Node) : Prop :=
  n.vcu.selector.drive = .driveOpen → n.vcu.selector.state = .opening

/-- Each part of the port's record lies within its range (R172, R174, R184), and the bad-frame counter
does (R83). -/
def portLaw (n : Node) : Prop :=
  n.svp.index ≤ 0xFC ∧ n.svp.count ≤ 255 ∧ n.lkc.badFrames ≤ 65535 ∧
    ∀ w : Fin 8, n.svp.pointers.get w < windowCap w

/-- Before RUN, and in a reset, no valve channel output is on and the selector is at rest (R161). -/
def quietLaw (n : Node) : Prop :=
  n.cfs.phase ≠ .run →
    n.vcu.outputOn = none ∧ n.vcu.selector.drive = .off ∧ n.vcu.selector.state = .closed

/-- The hall is released (DISCHARGING, SOAK, SPENT) exactly while the release record is not CLEAR, and an
erase of it is in flight only in SPENT, in RUN (R164, R168, R169, R21). -/
def releaseLaw (n : Node) : Prop :=
  (n.cfs.release.state ≠ .clear ↔
    (n.hsq.hall = .discharging ∨ n.hsq.hall = .soak ∨ n.hsq.hall = .spent)) ∧
  ∀ w, n.cfs.busy = some w → w.kind = .erase → n.hsq.hall = .spent ∧ n.cfs.phase = .run

/-- Each output stands as its inputs call for: ATTN by the sticky flags (R151); outside RUN every other
output de-energised (R143); in RUN the sounder by R145 and R146 with its pattern, strobe, sign and
released contact by R147, the two plant relays by R148, the EPO request by R149, the trouble contact by
R150. -/
def outputLaw (n : Node) : Prop :=
  let p := n.pou
  let h := n.hsq.hall
  let released : Prop := h = .discharging ∨ h = .soak ∨ h = .spent
  let warned : Prop := h = .countdown ∨ h = .hold ∨ h = .awaitSlot
  (p.attn = true ↔ n.svp.flags ≠ 0) ∧
  (n.running = false →
    p.stage = .off ∧ p.strobe = false ∧ p.sign = false ∧ p.hvac = false ∧ p.damper = false ∧
    p.epo = false ∧ p.released = false ∧ p.troubleClosed = false) ∧
  (n.running = true →
    (p.stage = .stage3 ↔ released) ∧ (p.stage = .stage2 ↔ warned) ∧
    (p.stage = .stage1 ↔ h = .alert ∨ (h = .lockout ∧
      (n.fiu.zoneA.latched = true ∨ n.fiu.zoneB.latched = true ∨ n.fiu.zoneA.isolated = true ∨
        n.fiu.zoneB.isolated = true))) ∧
    (p.strobe = true ↔ warned ∨ released) ∧ (p.sign = true ↔ released) ∧
    (p.released = true ↔ released) ∧ (p.hvac = true ↔ warned ∨ released) ∧
    (p.damper = true ↔ warned ∨ released) ∧
    (p.epo = true ↔ n.cfg.epoEnable = true ∧
      (n.hsq.epoReached = true ∨ (released ∧ n.hsq.mode = .normal))) ∧
    (p.troubleClosed = true ↔ n.trouble = false)) ∧
  (p.stage = .off → p.patternOn = false ∧ p.patternEnd = none) ∧
  (p.stage = .stage3 → p.patternOn = true ∧ p.patternEnd = none) ∧
  (p.stage = .stage1 ∨ p.stage = .stage2 → p.patternEnd.isSome = true)

/-- Every sample and read of an input, and every internal event, is taken no later than its time: the
sender is in step with the clock (R29, R43, R44, R65, R152; log 27). -/
def timely (n : Node) : Prop :=
  n.now ≤ n.fiu.zoneA.sampleAt ∧ n.now ≤ n.fiu.zoneB.sampleAt ∧ n.now ≤ n.fiu.station.sampleAt ∧
    n.now ≤ n.fiu.hold.sampleAt ∧ n.now ≤ n.fiu.key.sampleAt ∧ n.now ≤ n.fiu.temp.sampleAt ∧
    n.now ≤ n.fiu.press.sampleAt ∧ n.now ≤ n.vcu.selector.readAt ∧
    (∀ c : ChanId, n.now ≤ (n.chan c).readAt) ∧
    ∀ o : SupOutput, n.supervised o = true → n.now ≤ (n.pou.sup.get (supIdx o)).readAt

/-- The sequencer's record with only its mode and its copies of the zone latches and faults. -/
def Hsq.still (h : Hsq) : Hsq :=
  { Hsq.start with mode := h.mode, latchedA := h.latchedA, latchedB := h.latchedB, faultA := h.faultA,
                   faultB := h.faultB }

/-- The store without row 12, the release record and the write in flight. -/
def Cfs.still (c : Cfs) : Cfs :=
  { c with rows := c.rows.set 12 (.sound (.replicate 14 0)), busy := none, releasePending := none,
           release := { state := .clear, hallId := 0, wd := 0, nOwn := 0, nRes := 0 } }

/-- The node with blanks wherever a report or a request between the blocks may write: the sequencer's
record but its mode and zone copies, the plan, the valve unit, the outbox, the reserve and vent
records, row 12 with the release record and the write in flight, the sticky flags and the free-value counter. Two nodes that
agree here have the same clock, inputs, link, outputs, configuration and port. -/
def Node.still (n : Node) : Node :=
  { n with
    free := 0, hsq := n.hsq.still, apl := .start, vcu := .start 0,
    lkc := { n.lkc with outbox := .empty }, rva := .start, rcl := .start, vsu := .start,
    cfs := n.cfs.still,
    svp := { n.svp with flags := 0 } }

/-- As `still`, with a blank too wherever the end of every event may write: the plant outputs and the
placement timer. -/
def Node.frame (n : Node) : Node :=
  { n with
    free := 0, hsq := n.hsq.still, apl := .start, vcu := .start 0,
    lkc := { n.lkc with outbox := .empty, placement := none }, rva := .start, rcl := .start,
    vsu := .start, pou := .start 0,
    cfs := n.cfs.still,
    svp := { n.svp with flags := 0 } }

/-- The node bare of what the end of every event may write, and of nothing else: the plant outputs, the
waiting STANDING and the placement timer. -/
def Node.bare (n : Node) : Node :=
  { n with
    pou := .start 0,
    lkc := { n.lkc with placement := none, outbox := { n.lkc.outbox with standing := false } } }

/-- The command completes, and leaves exactly the node `n` but for what the end of every event writes;
the queue and the port's snapshot stay. -/
def endsAs (c : Instr) (s : State) (n : Node) : Prop :=
  ∃ t, exec c s = .next t ∧ t.pending = s.pending ∧ t.snapshot = s.snapshot ∧ t.node.bare = n.bare

/-- The command completes in a node of which `p` holds, and which agrees with `n` in everything outside
`Node.frame`'s blanks; the queue and the port's snapshot stay. -/
def endsIn (c : Instr) (s : State) (n : Node) (p : Node → Prop) : Prop :=
  ∃ t, exec c s = .next t ∧ t.pending = s.pending ∧ t.snapshot = s.snapshot ∧
    t.node.frame = n.frame ∧ p t.node

/-- As `endsAs`, with the outbox left exactly as `n` holds it. -/
def endsWith (c : Instr) (s : State) (n : Node) : Prop :=
  ∃ t, exec c s = .next t ∧ t.pending = s.pending ∧ t.snapshot = s.snapshot ∧
    t.node.bare = n.bare ∧ t.node.lkc.outbox = n.lkc.outbox

/-! ## Field inputs -/

/-- The fault of an input and its two runs after a sample at `now` (R37, R39, R42): a faulty sample starts
the fault run and ends the recovery run, and gives the fault once the run has lasted 1000 ms; another one
ends the fault run and, with the fault standing, starts the recovery run, which ends the fault once it has
lasted 1000 ms. -/
def faultRule (now : Time) (faulty : Prop) (run rec : Option Time) (fault : Bool)
    (run' rec' : Option Time) (fault' : Bool) : Prop :=
  (faulty → run' = some (run.getD now) ∧ rec' = none ∧
    (fault' = true ↔ fault = true ∨ run.getD now + 1000 ≤ now)) ∧
  (¬ faulty → run' = none ∧
    (fault = false → rec' = none ∧ fault' = false) ∧
    (fault = true → rec.getD now + 1000 ≤ now → rec' = none ∧ fault' = false) ∧
    (fault = true → now < rec.getD now + 1000 → rec' = some (rec.getD now) ∧ fault' = true))

/-! ## Causes -/

/-- Some node of the neighbour set but the own one is PRESENT with a reported hall state that warns: an
adjacent cause stands (R2, R3). -/
def adjacentStands (n : Node) : Prop :=
  ∃ i : NodeId, i ≠ n.id ∧ n.cfg.neighbours.testBit i.val = true ∧ (n.peer i).present = true ∧
    ((n.peer i).hall = some .countdown ∨ (n.peer i).hall = some .hold ∨
      (n.peer i).hall = some .awaitSlot ∨ (n.peer i).hall = some .discharging)

/-- The hall waits in QUIET or ALERT, in NORMAL mode, with both zones latched: it confirms (R5, R27). -/
def crossZone (h : Hsq) : Prop :=
  (h.hall = .quiet ∨ h.hall = .alert) ∧ h.mode = .normal ∧ h.latchedA = true ∧ h.latchedB = true

/-- The sequencer's record becomes `h'` by the causes and faults that `h` holds, without a confirmation. In
QUIET and ALERT the hall is in ALERT while a cause stands and else in QUIET (R4). The degraded confirm
timer runs, from its full delay at first, while one zone is latched and the other is not and stands in
fault, in NORMAL mode, and else is stopped (R6, R27). In other states nothing follows (R3). -/
def followsCauses (n : Node) (h h' : Hsq) : Prop :=
  let rests : Prop := h.hall = .quiet ∨ h.hall = .alert
  let causes : Prop := h.latchedA = true ∨ h.latchedB = true ∨ h.adjacent = true
  let timed : Prop := h.mode = .normal ∧
    ((h.latchedA = true ∧ h.latchedB = false ∧ h.faultB = true) ∨
      (h.latchedB = true ∧ h.latchedA = false ∧ h.faultA = true))
  (¬ rests → h' = h) ∧
  (rests → timed → h' = { h with
    hall := .alert, degraded := some (h.degraded.getD (n.now + 1000 * n.cfg.degradedDelay)) }) ∧
  (rests → causes → ¬ timed → h' = { h with hall := .alert, degraded := none }) ∧
  (rests → ¬ causes → (h.hall = .quiet → h.manualOverride = false ∧ h.epoReached = false) →
    h' = { h with hall := .quiet, degraded := none, manualOverride := false, epoReached := false })

/-! ## The plan's groups and the bid for them -/

/-- The record holds the READY HALL channels of `n` counted, and the groups, NO_RESERVE and planned mass
that they and its Wd give (R54, R55). -/
def groupsPlanned (n : Node) (a : Apl) : Prop :=
  let c := n.cfg
  let ws := a.wd - a.nOwn * c.mh
  a.readyCount = (allChans.filter (fun d =>
    (n.chan d).role = .hall ∧ (n.chan d).state = .ready)).length ∧
  a.nOwn = min a.readyCount ((a.wd + c.mh - 1) / c.mh) ∧
  (ws = 0 → a.nRes = 0 ∧ a.noReserve = false) ∧
  (0 < ws → c.holder ≠ none → a.nRes = min 8 ((ws + c.mr - 1) / c.mr) ∧ a.noReserve = false) ∧
  (0 < ws → c.holder = none → a.nRes = 0 ∧ a.noReserve = true) ∧
  a.wp = a.nOwn * c.mh + a.nRes * c.mr

/-- A bid can be placed: the link JOINED, the configured holder PRESENT with a holder part, the selector
not JAMMED (R121). -/
def bidCanBePlaced (n : Node) : Prop :=
  n.lkc.link = .joined ∧ n.vcu.selector.state ≠ .jammed ∧
    ∃ h, n.cfg.holder = some h ∧ (n.peer h).present = true ∧ (n.peer h).holderPart ≠ none

/-- A BID with the count `k` waits in the outbox for the configured holder (R121). -/
def bidWaits (k : Nat) (t : Node) : Prop :=
  ∀ h, t.cfg.holder = some h →
    t.lkc.outbox.bid = some { holder := h, wanted := k, cls := t.cfg.cls }

/-- The entry to COUNTDOWN from `n` leaves `t`: the reserve record starts afresh, a close pending is
commanded at once (R120), and a BID for the plan's n_res groups is queued, or the bid is HELD where it
cannot be placed (R8, R121). -/
def reserveStartsAfresh (n t : Node) : Prop :=
  let k := t.apl.nRes
  let sel := n.vcu.selector
  (k = 0 → t.rcl = Rcl.start ∧ t.lkc.outbox.bid = n.lkc.outbox.bid) ∧
  (0 < k → bidCanBePlaced n → t.rcl = { Rcl.start with n := k, bid := .queued } ∧ bidWaits k t) ∧
  (0 < k → ¬ bidCanBePlaced n → t.rcl = { Rcl.start with n := k, bid := .held } ∧
    t.lkc.outbox.bid = n.lkc.outbox.bid) ∧
  t.vcu.selector =
    (if n.rcl.closePending = true ∧ (sel.state = .opening ∨ sel.state = .opened) then
      { sel with state := .closing, drive := .driveClose,
                 travel := some (n.now + 1000 * n.cfg.selectorTime) }
    else sel)

/-- A YIELD to the configured holder was handed over from `n` to `t`, the link not LOST: with no BID
waiting it waits; a BID that waits with none in flight is removed and the YIELD dropped with it (R90). -/
def yieldHanded (n t : Node) : Prop :=
  ∀ h, n.cfg.holder = some h → n.lkc.link ≠ .lost →
    t.lkc.outbox.bid = none ∧
    (n.lkc.outbox.bid = none → t.lkc.outbox.yieldTo = some h) ∧
    (n.lkc.outbox.bid ≠ none → (∀ i j k c, n.lkc.inFlight ≠ some (.bid i j k c)) →
      t.lkc.outbox.yieldTo = n.lkc.outbox.yieldTo)

/-- The bid is brought from what `n` holds to the re-plan's count `k` in `t` (R13, R122). -/
def bidBroughtTo (k : Nat) (n t : Node) : Prop :=
  let held := if n.rcl.bid = .none then 0 else n.rcl.n
  let same : Prop := t.lkc.outbox.bid = n.lkc.outbox.bid ∧ t.lkc.outbox.yieldTo = n.lkc.outbox.yieldTo
  let claims : Prop := n.rcl.bid = .queued ∨ n.rcl.bid = .placed
  (k = held → t.rcl.bid = n.rcl.bid ∧ t.rcl.n = n.rcl.n ∧ same) ∧
  (k ≠ held → t.rcl.n = k ∧
    (n.rcl.bid = .none → bidCanBePlaced n → t.rcl.bid = .queued ∧ bidWaits k t) ∧
    (n.rcl.bid = .none → ¬ bidCanBePlaced n → t.rcl.bid = .held ∧ same) ∧
    (n.rcl.bid = .held → 0 < k → t.rcl.bid = .held ∧ same) ∧
    (n.rcl.bid = .held → k = 0 → t.rcl.bid = .none ∧ same) ∧
    (claims → 0 < k → t.rcl.bid = .queued ∧ (n.lkc.link ≠ .lost → bidWaits k t)) ∧
    (claims → k = 0 → t.rcl.bid = .none ∧ yieldHanded n t))

/-- The outcome that ends the reserve phase without a loss of the holder (R127). -/
def Rcl.outcomeByRule (r : Rcl) : ReserveOutcome :=
  if r.flowTaken = true then .fed
  else if r.lastAnswer = .lapsed ∨ r.lastAnswer = .refused then .lapsed else .yielded

/-! ## Grants and frames heard -/

/-- The grant heard in a holder part: the count of the one item with the own id, 0 without such an item or
without a holder part (R123). -/
def grantShown (part : Option HolderPart) (me : NodeId) (granted : Nat) : Prop :=
  match part with
  | none => granted = 0
  | some p => (∀ g, p.grants.filter (fun x => x.grantee = me) = [g] → granted = g.count) ∧
      ((∀ x ∈ p.grants, x.grantee ≠ me) → granted = 0)

/-- The frame is heard from another node with none in flight, or as the echo of the own one (R86). -/
def heardOrEchoed (f : Frame) (n : Node) : Prop :=
  (frameSource f ≠ n.id ∧ n.lkc.inFlight = none) ∨ n.lkc.inFlight = some f

/-- The node after it heard a frame in JOINED: the silence timer restarted, none in flight (R86, R94). -/
def Node.heard (n : Node) : Node :=
  { n with lkc := { n.lkc with silence := some (n.now + 3 * n.cfg.period), inFlight := none } }

/-! ## The withdrawal of the vent slot -/

/-- The announcement was withdrawn from `n` to `t` (R139): the own VENT is NONE and no slot is sought; a
VENT placed or in flight gives a VENTFREE, and one that waits with none in flight is removed (R90). -/
def ventWithdrawn (n t : Node) : Prop :=
  let o := n.lkc.outbox
  let announced : Prop := n.vsu.own = .placed ∨ n.vsu.own = .queued
  t.vsu = { n.vsu with own := .none, sought := false, slotWait := none, status := .none } ∧
  (announced → n.lkc.link ≠ .lost → t.lkc.outbox.vent = none ∧
    (o.vent = none → t.lkc.outbox.ventfree = some n.cfg.ventGroup) ∧
    (o.vent ≠ none → (∀ i g, n.lkc.inFlight ≠ some (.vent i g)) →
      t.lkc.outbox.ventfree = o.ventfree)) ∧
  (¬ announced → t.lkc.outbox.vent = o.vent ∧ t.lkc.outbox.ventfree = o.ventfree)

/-! ## Pulses resolved -/

/-- An own group is confirmed in the event `e`, which leaves `m` but for this: in DISCHARGING its entry is
CONFIRMED and the duration timer starts afresh; in DISCHARGING and SOAK a plan takes its charge and the
concentration it gives (R17, R58, R60). -/
def ownGroupConfirmed (e : Instr) (s : State) (c : ChanId) (m : Node) : Prop :=
  let n := s.node
  let mass := n.apl.m + n.cfg.mh
  endsAs e s { m with
    hsq := if n.hsq.hall = .discharging then
        { n.hsq with
          firing := n.hsq.firing.map (fun x => if x.1 = c then (c, FireStatus.confirmed) else x),
          elapsed := false, duration := some (n.now + 1000 * n.cfg.duration) }
      else n.hsq,
    apl := if (n.hsq.hall = .discharging ∨ n.hsq.hall = .soak) ∧ n.apl.stage ≠ .none then
        { n.apl with
          m := mass, ownConfirmed := n.apl.ownConfirmed + 1,
          ca := 10000 * mass * n.apl.s8 / (n.cfg.volume * 1000000000 + mass * n.apl.s8) }
      else n.apl }

/-- An own group fails without flow in the event `e`; `m` is the node with its channel FAILED and
GROUP_FAILED set. In DISCHARGING its entry is FAILED and the lowest READY HALL channel not in the own
firing list is requested in its place; without one the hall stays, or goes to SOAK where this was the last
thing open. Elsewhere nothing more follows (R17, R19, R77; log 22). -/
def ownGroupFails (e : Instr) (s : State) (c : ChanId) (m : Node) : Prop :=
  let n := s.node
  let entries := n.hsq.firing.map (fun x => if x.1 = c then (c, FireStatus.failed) else x)
  let candidates := n.readyHall.filter (fun d => d ∉ n.hsq.firing.map Prod.fst)
  let open_ : Prop := n.hsq.elapsed = false ∨ n.hsq.reservePhase ≠ .resolved ∨
    ∃ x ∈ entries, x.2 = FireStatus.pending
  (n.hsq.hall ≠ .discharging → endsAs e s m) ∧
  (∀ d rest, n.hsq.hall = .discharging → candidates = d :: rest →
    let queued := m.setChan d { n.chan d with requester := .hsq, state := .queued }
    endsAs e s { queued with
      vcu := { queued.vcu with queue := n.vcu.queue ++ [d] },
      hsq := { n.hsq with firing := entries ++ [(d, FireStatus.pending)] } }) ∧
  (n.hsq.hall = .discharging → candidates = [] →
    (open_ → endsAs e s { m with hsq := { n.hsq with firing := entries } }) ∧
    (¬ open_ → ∃ t, exec e s = .next t ∧ t.node.hsq.hall = .soak ∧ t.node.hsq.firing = entries ∧
      t.node.hsq.soak = some (n.now + 1000 * n.cfg.soak) ∧ t.node.chan c = m.chan c ∧
      t.node.flag .groupFailed = true))

/-- The feed goes on as `f` after the event `e`: the queues of bids, WAYOPENs and answers stay, and `p`
holds of the node (R117). -/
def feedGoesOn (e : Instr) (s : State) (f : Feed) (p : Node → Prop) : Prop :=
  endsIn e s s.node (fun u => u.rva = { s.node.rva with feed := some f } ∧ p u)

/-- The feed ends as `f` in the event `e`, and `p` holds of the node (R118). An orphaned feed answers
nothing (R113). Any other, with no WAYOPEN and no answer waiting and the link not LOST, hands over its FED;
its grantee's only entry takes the confirmed count, and goes once fully fed. -/
def feedEnds (e : Instr) (s : State) (f : Feed) (p : Node → Prop) : Prop :=
  let n := s.node
  let i := f.grantee
  let fed : Answer :=
    { grantee := i, confirmed := f.confirmed, failed := f.failed,
      outcome := if f.failed = 0 ∧ f.cancelledSeen = false then .complete
        else if f.cancelledSeen = true ∧ f.confirmed = 0 then .refused else .part }
  n.rva.feedQueue = [] →
  (f.orphaned = true → endsIn e s n (fun u => u.rva = { n.rva with feed := none } ∧ p u)) ∧
  (f.orphaned = false → n.rva.answers = [] → n.lkc.outbox.fed = none → n.lkc.inFlight = none →
    n.lkc.link ≠ .lost →
    endsIn e s n (fun u => p u ∧ u.rva.feed = none ∧ u.rva.feedQueue = [] ∧ u.rva.answers = [fed] ∧
      u.lkc.outbox.fed = some fed ∧
      (n.entry i = none → u.entry i = none) ∧
      ∀ x, n.rva.bids.filter (fun y => y.node = i) = [x] →
        (x.wanted ≤ x.fed + f.confirmed → u.entry i = none ∧ u.committedTo i = []) ∧
        (x.fed + f.confirmed < x.wanted → ∃ y, u.entry i = some y ∧ y.wanted = x.wanted ∧
          y.cls = x.cls ∧ y.inFeed = 0 ∧ y.fed = x.fed + f.confirmed ∧ y.taken = .no ∧
          x.granted ≤ y.granted ∧
          y.hold = (if 0 < y.granted then some (n.now + 1000 * n.cfg.grantHold) else none))))

/-- The feed is `f` after a place of it was resolved in the event `e`: it goes on while a place is
PENDING, and else ends (R117, R118). -/
def feedFollows (e : Instr) (s : State) (f : Feed) (p : Node → Prop) : Prop :=
  ((∃ x ∈ f.places, x.status = .pending) → feedGoesOn e s f p) ∧
  ((∀ x ∈ f.places, x.status ≠ .pending) → feedEnds e s f p)

/-- The pulse of the place that channel `c` holds in the running feed is confirmed in the event `e`,
which leaves the channel as `r` (R117). -/
def placeConfirmed (e : Instr) (s : State) (c : ChanId) (r : Channel) : Prop :=
  ∀ f, s.node.rva.feed = some f → (∃ x ∈ f.places, x.channel = c ∧ x.status = .pending) →
    feedFollows e s
      { f with
        confirmed := f.confirmed + 1,
        places := f.places.map (fun x =>
          if x.channel = c ∧ x.status = .pending then { x with status := .confirmed } else x) }
      (fun u => u.chan c = r)

/-- The pulse of the place that channel `c` holds in the running feed fails in the event `e`, which leaves
the channel as `r` with GROUP_FAILED set: the lowest READY reserve channel not yet used in the feed takes
the place and is requested, and without one the place is FAILED (R117). -/
def placeFails (e : Instr) (s : State) (c : ChanId) (r : Channel) : Prop :=
  let n := s.node
  ∀ f, n.rva.feed = some f → (∃ x ∈ f.places, x.channel = c ∧ x.status = .pending) →
    let candidates := n.freeReserve.filter (fun d => d ∉ f.used)
    let moved := fun (g : Place → Place) => f.places.map (fun x =>
      if x.channel = c ∧ x.status = .pending then g x else x)
    (∀ d rest, candidates = d :: rest → feedGoesOn e s
      { f with
        failed := f.failed + 1, places := moved (fun x => { x with channel := d }),
        used := f.used ++ [d] }
      (fun u => u.chan c = r ∧ u.flag .groupFailed = true ∧ u.vcu.queue = n.vcu.queue ++ [d] ∧
        u.chan d = { n.chan d with
          state := .queued, requester := .rva, feedGrantee := some f.grantee,
          committedTo := some f.grantee })) ∧
    (candidates = [] → feedFollows e s
      { f with failed := f.failed + 1, places := moved (fun x => { x with status := .failed }) }
      (fun u => u.chan c = r ∧ u.flag .groupFailed = true))

/-! ## Rows -/

/-- Every field of a row lies in its range, in the units of R183 (R159; FIELD_RANGE of R162). -/
def fieldsFit (r : RowId) (d : RowData) : Prop :=
  let within := fun lo hi x : Nat => lo ≤ x ∧ x ≤ hi
  let temperature := fun x : Int => -400 ≤ x ∧ x ≤ 850
  match r with
  | 0 => le2 d 0 = 0xC46E ∧ within 200 5000 (le2 d 4)
  | 1 => within 10 30000 (le2 d 0) ∧ within 300 2000 (le2 d 2) ∧ within 100 150 (byte1 d 4)
  | 2 => within 1000 50000 (le2 d 0) ∧ within 0 20000 (le2 d 2) ∧ temperature (signedLe2 d 4) ∧
      temperature (signedLe2 d 6)
  | 3 => within 100 20000 (le2 d 0) ∧ within 100 20000 (le2 d 2)
  | 4 => ∀ c, roleAt d c ≤ 2
  | 5 => within 0 120 (byte1 d 0) ∧ within 0 120 (byte1 d 1) ∧ within 0 120 (byte1 d 2) ∧
      within 10 600 (le2 d 3) ∧ within 0 1 (byte1 d 5) ∧ within 0 120 (byte1 d 6)
  | 6 => within 10 120 (byte1 d 0) ∧ within 60 3600 (le2 d 1) ∧ within 0 10000 (le2 d 3) ∧
      within 0 10000 (le2 d 5)
  | 7 => within 0 15 (byte1 d 2) ∧ within 1 4 (byte1 d 3) ∧ within 10 600 (le2 d 4)
  | 8 => within 85 98 (byte1 d 0) ∧ within 100 2000 (le2 d 1) ∧ within 500 10000 (le2 d 3) ∧
      within 1000 10000 (le2 d 5)
  | 9 => within 100 3000 (le2 d 0) ∧ within 0 2900 (le2 d 2) ∧ within 1 120 (byte1 d 4) ∧
      within 5 120 (byte1 d 5)
  | 10 => (byte1 d 0 ≤ 15 ∨ byte1 d 0 = 0xFF) ∧ within 0 1 (byte1 d 1) ∧ within 10 600 (le2 d 2) ∧
      within 10 600 (le2 d 4) ∧ within 10 600 (le2 d 6)
  | 11 => True
  | 12 => True

/-- The relation between fields of a row: Tmin below Tmax, the pulse length not above the confirm window,
the resume threshold below the pressure limit (RELATION of R162). -/
def relationHolds (r : RowId) (d : RowData) : Prop :=
  (r = 2 → signedLe2 d 4 < signedLe2 d 6) ∧ (r = 8 → le2 d 1 ≤ le2 d 5) ∧ (r = 9 → le2 d 2 < le2 d 0)

/-- The first of the rows 0 to 10 of which a condition fails is row `k`; a row that was not readable is
skipped (R162). -/
def firstBad (l : Loaded) (ok : RowId → RowData → Prop) (k : Nat) : Prop :=
  ∃ r d, r.val = k ∧ k ≤ 10 ∧ l.get r = some d ∧ ¬ ok r d ∧ ∀ q e, q < r → l.get q = some e → ok q e

/-! ## The port's view -/

/-- A time shown in whole units; a part unit may be shown either way (R184; log 25). -/
def shownIn (unit time x : Nat) : Prop :=
  x = time / unit ∨ (time % unit ≠ 0 ∧ x = time / unit + 1)

end Sys2Proof.Machine
end

