-- ==== Sys2Proof/Certificates/Slice0/Obligations.lean ====
section
/-! DEFINITION. Obligations: what is stated of the model, for the provers. Throughout, `s.node.running`
is the part in RUN with no reset holding it. -/

open Sys2Proof Sys2Proof.Machine Host

/-! ## The block as a whole -/

/-- A step runs the command at the front of the queue, on the state with the queue's rest. -/
def Obligations.StepRunsTheFrontCommand : Prop :=
  ∀ (c : Instr) (s : State), step { s with pending := c :: s.pending } = exec c s

/-- No command is ever refused or faults, in any state, and none touches the queue; where its event cannot
occur now, the model lets it change nothing (log 2, the model's choice). -/
def Obligations.EveryCommandAnswersANextState : Prop :=
  ∀ (c : Instr) (s : State), ∃ t, exec c s = .next t ∧ t.pending = s.pending

/-- On an empty queue the model's own clock runs (logs 1, 3): outside RUN, or with no internal event
due, one millisecond passes and nothing else changes; an internal event that is due is put into the
queue and nothing else changes. -/
def Obligations.EmptyQueueLetsOneMillisecondPass : Prop :=
  ∀ s : State, s.pending = [] →
    ((s.node.running = false ∨ ∀ o ∈ dueList s.node, o = none) →
      step s = .next { s with node := { s.node with now := s.node.now + 1 } }) ∧
    (∀ c, s.node.running = true → dueCommand s.node = some c → step s = .next { s with pending := [c] })

/-- The commands that are events of RUN: outside RUN none of them changes anything (log 2). -/
def Obligations.EventsOutsideRunChangeNothing : Prop :=
  ∀ (c : Instr) (s : State), s.node.running = false →
    (match c with
      | .powerOn _ => False | .resetLine _ _ => False | .load _ => False | .indexWrite _ => False
      | .readAddress _ => False | .windowRecordRead => False | .badFrameCounterRead => False
      | .stickyFlagClear _ => False | .windowPointerWrite _ => False | .autoSnapWrite _ => False
      | .registerWrite _ => False | .snap => False | .alarmReset => False | .clearRelease => False
      | .restart _ => False | .storeReadRow _ => False | .storeWriteRow _ => False
      | .startCondition _ _ => False | .supplyBelowThreshold => False
      | _ => True) →
    exec c s = .next s

/-! ## Field inputs (02_field_lines_and_confirmation.md) -/

/-- A zone sample: its class by its current, its runs with the samples that began them, the latch and the
isolated alarm at the sample that completes an alarm run, the fault after 1000 ms of OPEN or SHORT and its
end after 1000 ms of NORMAL. The other zone and every other input keep their records, and the sequencer's
copies follow: QUIET and ALERT by the causes that now stand, with the degraded confirm timer, and a
cross-zone confirmation where both zones are latched. -/
def Obligations.ZoneSampleClassifiesLatchesAndFaults : Prop :=
  ∀ (s : State) (zone : Zone) (current : Nat), s.node.running = true →
    let n := s.node
    let z := match zone with | .a => n.fiu.zoneA | .b => n.fiu.zoneB
    let verify := match zone with | .a => n.cfg.verifyA | .b => n.cfg.verifyB
    let alarm : Prop := 120 ≤ current ∧ current < 400
    let completes : Prop := alarm ∧ (match z.alarmRun with
      | none => verify = 0
      | some r => r.done = false ∧ r.since + verify ≤ n.now)
    let faulty : Prop := current < 20 ∨ 400 ≤ current
    let normal : Prop := 20 ≤ current ∧ current < 120
    let raised : Prop := faulty ∧ ∃ t, z.faultRun = some t ∧ t + 1000 ≤ n.now
    let cleared : Prop := normal ∧ ∃ t, z.normalRun = some t ∧ t + 1000 ≤ n.now
    ∃ z' : ZoneRec,
      z'.cls = some (if current < 20 then .openLoop else if current < 120 then .normal
        else if current < 400 then .alarm else .shortLoop) ∧
      (z'.latched = true ↔ z.latched = true ∨ (completes ∧ n.fiu.key.delivered = .normal)) ∧
      (z'.isolated = true ↔ alarm ∧
        (z.isolated = true ∨ (completes ∧ z.latched = false ∧ n.fiu.key.delivered = .isolate))) ∧
      (z'.fault = true ↔ raised ∨ (z.fault = true ∧ ¬ cleared)) ∧
      (z'.fault = true → faulty →
        z'.kind = some (if current < 20 then LineFault.openLoop else .shortLoop)) ∧
      (z'.fault = false → z.fault = true → z'.kind = none) ∧
      (¬ (z'.fault = true ∧ faulty) → (z.fault = true → ¬ cleared) → z'.kind = z.kind) ∧
      (alarm → ∃ d, z'.alarmRun = some { since := (z.alarmRun.map Run.since).getD n.now, done := d } ∧
        (d = true ↔ completes ∨ ∃ r, z.alarmRun = some r ∧ r.done = true)) ∧
      (¬ alarm → z'.alarmRun = none) ∧
      (faulty → z'.faultRun = some (z.faultRun.getD n.now) ∧ z'.normalRun = none) ∧
      (¬ faulty → z'.faultRun = none) ∧
      (¬ normal ∨ z.fault = false ∨ cleared → z'.normalRun = none) ∧
      (normal → z.fault = true → ¬ cleared → z'.normalRun = some (z.normalRun.getD n.now)) ∧
      z'.lastReset = z.lastReset ∧ z'.sampleAt = n.now + 50 ∧
      (let fiu := match zone with
          | .a => { n.fiu with zoneA := z' } | .b => { n.fiu with zoneB := z' }
       let hsq := { n.hsq with latchedA := fiu.zoneA.latched, latchedB := fiu.zoneB.latched,
                               faultA := fiu.zoneA.fault, faultB := fiu.zoneB.fault }
       let e := Instr.zoneSample zone current
       (¬ crossZone hsq → ∃ h, followsCauses n hsq h ∧ endsAs e s { n with fiu := fiu, hsq := h }) ∧
       (crossZone hsq → endsIn e s { n with fiu := fiu, hsq := hsq } (fun u =>
         u.hsq.cause = .crossZone ∧ u.hsq.degraded = none ∧ u.flag .confirmed = true)))

/-- Cross-zone confirmation: in NORMAL mode, QUIET or ALERT, the sample that completes a zone's alarm
run with the other zone latched starts the countdown at the countdown time (greater than 0); with the
hold switch delivered OPERATED and no manual override the hall goes on to HOLD at the full time. The
reserve record starts afresh and a BID for the plan's n_res groups is queued, or held. -/
def Obligations.SecondZoneLatchConfirms : Prop :=
  ∀ (s : State) (zone : Zone) (current since : Nat), s.node.running = true →
    s.node.hsq.mode = .normal → (s.node.hsq.hall = .quiet ∨ s.node.hsq.hall = .alert) →
    s.node.hsq.manualOverride = false → s.node.fiu.key.delivered = .normal →
    120 ≤ current → current < 400 → 0 < s.node.cfg.countdown →
    let z := match zone with | .a => s.node.fiu.zoneA | .b => s.node.fiu.zoneB
    let other := match zone with | .a => s.node.fiu.zoneB | .b => s.node.fiu.zoneA
    let verify := match zone with | .a => s.node.cfg.verifyA | .b => s.node.cfg.verifyB
    z.latched = false → z.alarmRun = some { since := since, done := false } →
    since + verify ≤ s.node.now → other.latched = true →
    ∃ t, exec (.zoneSample zone current) s = .next t ∧
      t.node.hsq.hall = (if s.node.fiu.hold.delivered = .operated then .hold else .countdown) ∧
      t.node.remaining = 1000 * s.node.cfg.countdown ∧ t.node.hsq.cause = .crossZone ∧
      t.node.hsq.manualOverride = false ∧ t.node.hsq.degraded = none ∧ t.node.hsq.firing = [] ∧
      t.node.hsq.reservePhase = .none ∧ t.node.apl.stage = .planned ∧
      t.node.flag .confirmed = true ∧ reserveStartsAfresh s.node t.node

/-- A sample of the manual station, of the hold switch or of the key that gives no event: its class, the
input's fault with its two runs, the run towards an event; nothing outside the input's record changes. A
hold switch in FAULT counts as RELEASED, and any key reading but a clean NORMAL counts as ISOLATE. -/
def Obligations.InputSamplesWithoutEvent : Prop :=
  (∀ (s : State) (current : Nat), s.node.running = true →
     let n := s.node
     let r := n.fiu.station
     let operated : Prop := 120 ≤ current ∧ current < 400
     (∀ run, r.opRun = some run → operated → run.done = true ∨ n.now < run.since + 500) →
     ∃ r' : StationRec,
       r'.cls = some (if current < 20 then .fault else if current < 120 then .normal
         else if current < 400 then .operated else .fault) ∧
       faultRule n.now (current < 20 ∨ 400 ≤ current) r.faultRun r.recRun r.fault
         r'.faultRun r'.recRun r'.fault ∧
       (operated → r'.opRun = some (r.opRun.getD { since := n.now, done := false })) ∧
       (¬ operated → r'.opRun = none) ∧
       r'.sampleAt = n.now + 50 ∧
       endsAs (.manualStationSample current) s { n with fiu := { n.fiu with station := r' } }) ∧
  (∀ (s : State) (current : Nat), s.node.running = true →
     let n := s.node
     let r := n.fiu.hold
     let counted : HoldPos := if 120 ≤ current ∧ current < 400 then .operated else .released
     (counted ≠ r.delivered → ∀ t, r.changeRun = some t → n.now < t + 200) →
     ∃ r' : HoldRec,
       r'.cls = some (if current < 20 then .fault else if current < 120 then .released
         else if current < 400 then .operated else .fault) ∧
       r'.delivered = r.delivered ∧
       r'.changeRun = (if counted = r.delivered then none else some (r.changeRun.getD n.now)) ∧
       faultRule n.now (current < 20 ∨ 400 ≤ current) r.faultRun r.recRun r.fault
         r'.faultRun r'.recRun r'.fault ∧
       r'.sampleAt = n.now + 50 ∧
       endsAs (.holdSwitchSample current) s { n with fiu := { n.fiu with hold := r' } }) ∧
  (∀ (s : State) (normalMade isolateMade : Bool), s.node.running = true →
     let n := s.node
     let r := n.fiu.key
     let counted : KeyPos := if normalMade = true ∧ isolateMade = false then .normal else .isolate
     (counted ≠ r.delivered → ∀ t, r.changeRun = some t → n.now < t + 100) →
     ∃ r' : KeyRec,
       r'.cls = some (if normalMade = isolateMade then .fault else if normalMade then .normal
         else .isolate) ∧
       r'.delivered = r.delivered ∧
       r'.changeRun = (if counted = r.delivered then none else some (r.changeRun.getD n.now)) ∧
       faultRule n.now (normalMade = isolateMade) r.faultRun r.recRun r.fault
         r'.faultRun r'.recRun r'.fault ∧
       r'.sampleAt = n.now + 50 ∧
       endsAs (.keySample normalMade isolateMade) s { n with fiu := { n.fiu with key := r' } })

/-- The sample at which an OPERATED run has lasted 500 ms gives the manual release event: what it does
in every hall state. The time to run stands for 0 < min (remaining, manual countdown time). -/
def Obligations.ManualReleaseByHallState : Prop :=
  ∀ (s : State) (current since : Nat), s.node.running = true → 120 ≤ current → current < 400 →
    s.node.fiu.station.opRun = some { since := since, done := false } → since + 500 ≤ s.node.now →
    let n := s.node
    let r := n.fiu.station
    let manual := 1000 * n.cfg.manualCountdown
    ∃ r' : StationRec,
      r'.cls = some .operated ∧ r'.opRun = some { since := since, done := true } ∧
      faultRule n.now False r.faultRun r.recRun r.fault r'.faultRun r'.recRun r'.fault ∧
      r'.sampleAt = n.now + 50 ∧
      (n.hsq.hall = .quiet ∨ n.hsq.hall = .alert → 0 < manual →
        ∃ t, exec (.manualStationSample current) s = .next t ∧ t.node.hsq.hall = .countdown ∧
          t.node.remaining = manual ∧ t.node.hsq.cause = .manual ∧ t.node.hsq.manualOverride = true ∧
          t.node.hsq.degraded = none ∧ t.node.flag .confirmed = true ∧ t.node.fiu.station = r' ∧
          (n.hsq.mode = .fallback → t.node.apl = n.apl ∧ t.node.rcl = n.rcl) ∧
          (n.fiu.hold.delivered = .operated → t.node.flag .holdIgnored = true)) ∧
      (n.hsq.hall = .countdown ∨ n.hsq.hall = .hold → 0 < min n.remaining manual →
        ∃ t, exec (.manualStationSample current) s = .next t ∧ t.node.hsq.hall = .countdown ∧
          t.node.remaining = min n.remaining manual ∧ t.node.hsq.cause = n.hsq.cause ∧
          t.node.hsq.manualOverride = true ∧ t.node.fiu.station = r' ∧ t.node.apl = n.apl ∧
          t.node.rcl = n.rcl ∧ t.node.vcu = n.vcu) ∧
      (n.hsq.hall = .awaitSlot ∨ n.hsq.hall = .discharging →
        endsAs (.manualStationSample current) s { n with fiu := { n.fiu with station := r' } }) ∧
      (n.hsq.hall = .soak ∨ n.hsq.hall = .spent ∨ n.hsq.hall = .lockout →
        endsAs (.manualStationSample current) s
          ({ n with fiu := { n.fiu with station := r' } }.setFlag .manualIgnored))

/-- The hold switch: 200 ms of another counted position deliver it. The operated event holds a
countdown whose override is clear and is refused with HOLD_IGNORED where the override is set and in
AWAIT_SLOT and DISCHARGING; the released event resumes at the larger of the frozen time and the hold
restart time; in every other case the input's record alone changes. -/
def Obligations.HoldSwitchHoldsAndResumes : Prop :=
  ∀ (s : State) (current since : Nat), s.node.running = true →
    s.node.fiu.hold.changeRun = some since → since + 200 ≤ s.node.now →
    let n := s.node
    let r := n.fiu.hold
    let pressed : Prop := 120 ≤ current ∧ current < 400
    ∃ r' : HoldRec, r'.changeRun = none ∧
      r'.cls = some (if current < 20 then .fault else if current < 120 then .released
        else if current < 400 then .operated else .fault) ∧
      faultRule n.now (current < 20 ∨ 400 ≤ current) r.faultRun r.recRun r.fault
        r'.faultRun r'.recRun r'.fault ∧
      r'.sampleAt = n.now + 50 ∧
      (pressed → n.fiu.hold.delivered = .released → r'.delivered = .operated ∧
        (let m := { n with fiu := { n.fiu with hold := r' } }
         (n.hsq.hall = .countdown → n.hsq.manualOverride = false →
          endsAs (.holdSwitchSample current) s { m with
            hsq := { n.hsq with hall := .hold, countdown := .held n.remaining } }) ∧
         ((n.hsq.hall = .countdown ∧ n.hsq.manualOverride = true) ∨ n.hsq.hall = .awaitSlot ∨
            n.hsq.hall = .discharging →
          endsAs (.holdSwitchSample current) s (m.setFlag .holdIgnored)) ∧
         (n.hsq.hall = .quiet ∨ n.hsq.hall = .alert ∨ n.hsq.hall = .hold ∨ n.hsq.hall = .soak ∨
            n.hsq.hall = .spent ∨ n.hsq.hall = .lockout →
          endsAs (.holdSwitchSample current) s m))) ∧
      (¬ pressed → n.fiu.hold.delivered = .operated → r'.delivered = .released ∧
        (n.hsq.hall = .hold → 0 < max n.remaining (1000 * n.cfg.holdRestart) →
          ∃ t, exec (.holdSwitchSample current) s = .next t ∧ t.node.hsq.hall = .countdown ∧
            t.node.remaining = max n.remaining (1000 * n.cfg.holdRestart) ∧
            t.node.hsq.cause = n.hsq.cause ∧ t.node.fiu.hold = r' ∧ t.node.apl = n.apl ∧
            t.node.rcl = n.rcl ∧ t.node.vcu = n.vcu) ∧
        (n.hsq.hall ≠ .hold →
          endsAs (.holdSwitchSample current) s { n with fiu := { n.fiu with hold := r' } }))

/-- The key turned to ISOLATE (any reading but a clean NORMAL, for 100 ms): before the discharge the
hall enters LOCKOUT with the event's marks cleared and every sequencer timer stopped; DISCHARGING goes
to SOAK; SOAK, SPENT and LOCKOUT stay. No output is on, the pulse queue is empty, no channel is READY,
and the selector is neither OPENING nor OPEN. A feed whose pending places all wait in the pulse queue is
cancelled: its FED is REFUSED, or PARTIAL after a confirmed place. The bid is given up with a YIELD and the
vent announcement with a VENTFREE, an open reserve phase is resolved, and a holder grants nothing: every
granted count is 0 with its hold stopped, no channel is COMMITTED, and each waiting WAYOPEN is answered
REFUSED. -/
def Obligations.KeyToIsolateLocksOut : Prop :=
  ∀ (s : State) (normalMade isolateMade : Bool) (since : Time), s.node.running = true →
    ¬ (normalMade = true ∧ isolateMade = false) → s.node.fiu.key.delivered = .normal →
    s.node.fiu.key.changeRun = some since → since + 100 ≤ s.node.now →
    ∃ t, exec (.keySample normalMade isolateMade) s = .next t ∧
      t.node.fiu.key.delivered = .isolate ∧ t.node.vcu.outputOn = none ∧ t.node.vcu.queue = [] ∧
      (∀ c, (t.node.chan c).state ≠ .ready) ∧
      t.node.vcu.selector.state ≠ .opening ∧ t.node.vcu.selector.state ≠ .opened ∧
      (match s.node.hsq.hall with
        | .discharging => t.node.hsq.hall = .soak ∧
            t.node.hsq.soak = some (s.node.now + 1000 * s.node.cfg.soak)
        | .soak => t.node.hsq.hall = .soak ∧ t.node.hsq.soak = s.node.hsq.soak
        | .spent => t.node.hsq.hall = .spent
        | .lockout => t.node.hsq.hall = .lockout
        | _ => t.node.hsq.hall = .lockout ∧ t.node.hsq.manualOverride = false ∧
            t.node.hsq.cause = .none ∧ t.node.hsq.epoReached = false ∧ t.node.remaining = 0 ∧
            t.node.hsq.degraded = none ∧ t.node.hsq.duration = none ∧ t.node.hsq.soak = none ∧
            t.node.rcl.bid = .none) ∧
      (let n := s.node
       let before : Prop := n.hsq.hall ≠ .discharging ∧ n.hsq.hall ≠ .soak ∧ n.hsq.hall ≠ .spent ∧
         n.hsq.hall ≠ .lockout
       let feeding : Prop := n.hsq.hall = .discharging ∧ n.hsq.reservePhase = .opened
       (before ∨ feeding → t.node.rcl.bid = .none ∧ t.node.rcl.wait = .stopped ∧
         t.node.rcl.feedTimeout = none ∧ t.node.rcl.flowTimer = none ∧
         t.node.rcl.closePending = false ∧
         (n.rcl.bid = .queued ∨ n.rcl.bid = .placed → yieldHanded n t.node)) ∧
       (feeding → t.node.rcl.phase = .done ∧ t.node.hsq.reservePhase = .resolved ∧
         t.node.hsq.reserveOutcome = n.rcl.outcomeByRule) ∧
       (n.hsq.hall = .awaitSlot ∨ (n.hsq.hall = .discharging ∧ n.hsq.mode = .normal) →
         ventWithdrawn n t.node) ∧
       (n.rvaActive = true →
         (∀ e ∈ t.node.rva.bids, e.granted = 0 ∧ e.hold = none) ∧
         (∀ c, (t.node.chan c).state ≠ .committed) ∧ t.node.rva.feedQueue = [] ∧
         (∀ w ∈ n.rva.feedQueue,
           (∃ a ∈ t.node.rva.answers, a.grantee = w.1 ∧ a.outcome = .refused) ∧
           ∀ e ∈ t.node.rva.bids, e.node = w.1 → e.taken = .no) ∧
         (n.rva.feed = none →
           t.node.rva.bids = n.rva.bids.map (fun e => { e with
             granted := 0, hold := none,
             taken := if ∃ w ∈ n.rva.feedQueue, w.1 = e.node then FeedTaken.no else e.taken }) ∧
           (n.rva.answers = [] → (∀ a ∈ t.node.rva.answers, a.confirmed = 0 ∧ a.failed = 0) ∧
             (n.lkc.outbox.fed = none → n.lkc.inFlight = none → n.lkc.link ≠ .lost →
               t.node.lkc.outbox.fed = t.node.rva.answers.head?))))) ∧
      (∀ f, s.node.rva.feed = some f → f.orphaned = false →
        (∃ x ∈ f.places, x.status = .pending) →
        (∀ x ∈ f.places, x.status = .pending → x.channel ∈ s.node.vcu.queue ∧
          (s.node.chan x.channel).state = .queued ∧ (s.node.chan x.channel).requester = .rva) →
        s.node.rva.feedQueue = [] → s.node.rva.answers = [] → s.node.lkc.outbox.fed = none →
        s.node.lkc.inFlight = none → s.node.lkc.link ≠ .lost →
        t.node.rva.feed = none ∧ t.node.lkc.outbox.fed = some
          { grantee := f.grantee, confirmed := f.confirmed, failed := f.failed,
            outcome := if f.confirmed = 0 then .refused else .part })

/-- The key turned back to NORMAL (a clean NORMAL for 100 ms): LOCKOUT is left for QUIET, for ALERT at
once while a cause stands, and for a full countdown with both zones latched in NORMAL mode; every other
hall state stays. Alarm runs and isolated alarms end; latches
and faults stay. -/
def Obligations.KeyToNormalLeavesLockout : Prop :=
  ∀ (s : State) (since : Time), s.node.running = true → s.node.fiu.key.delivered = .isolate →
    s.node.fiu.key.changeRun = some since → since + 100 ≤ s.node.now →
    ∃ t, exec (.keySample true false) s = .next t ∧ t.node.fiu.key.delivered = .normal ∧
      t.node.fiu.zoneA = { s.node.fiu.zoneA with alarmRun := none, isolated := false } ∧
      t.node.fiu.zoneB = { s.node.fiu.zoneB with alarmRun := none, isolated := false } ∧
      (∀ c, (t.node.chan c).state = .isolated → (t.node.chan c).role = .unused) ∧
      (s.node.hsq.hall ≠ .lockout → t.node.hsq.hall = s.node.hsq.hall) ∧
      (s.node.hsq.hall = .lockout →
        t.node.hsq.manualOverride = false ∧
        ((s.node.hsq.latchedA = false ∨ s.node.hsq.latchedB = false ∨ s.node.hsq.mode = .fallback) →
          t.node.hsq.hall = (if s.node.hsq.latchedA = true ∨ s.node.hsq.latchedB = true ∨
            s.node.hsq.adjacent = true then .alert else .quiet)) ∧
        (s.node.hsq.latchedA = true → s.node.hsq.latchedB = true → s.node.hsq.mode = .normal →
          0 < s.node.cfg.countdown →
          t.node.hsq.hall = (if s.node.fiu.hold.delivered = .operated then .hold else .countdown) ∧
          t.node.remaining = 1000 * s.node.cfg.countdown ∧ t.node.hsq.cause = .crossZone))

/-- A temperature read: every reading replaces the record. A hall pressure read: outside DISCHARGING it
is kept and nothing else; in DISCHARGING it drives the deferral by R73's table. -/
def Obligations.TemperatureAndHallPressureReads : Prop :=
  (∀ (s : State) (reading : Option Int), s.node.running = true →
     let status : TempStatus := match reading with
       | none => .openCircuit
       | some r => if -400 ≤ r ∧ r ≤ 850 then .ok else .outOfRange
     endsAs (.temperatureRead reading) s { s.node with fiu := { s.node.fiu with
       temp := { value := reading, status := status, sampleAt := s.node.now + 1000 } } }) ∧
  (∀ (s : State) (reading : Int), s.node.running = true →
     let n := s.node
     let sound : Prop := -500 ≤ reading ∧ reading ≤ 3000
     let status := if -500 ≤ reading ∧ reading ≤ 3000 then PressStatus.ok else .fault
     let m := { n with fiu := { n.fiu with press :=
       { value := some reading, status := status, sampleAt := n.now + 100 } } }
     let c := Instr.hallPressureRead reading
     (n.hsq.hall ≠ .discharging → endsAs c s m) ∧
     (n.hsq.hall = .discharging →
       (n.vcu.deferral = .inactive → sound → (n.cfg.pressureLimit : Int) ≤ reading →
         endsAs c s { m with vcu := { n.vcu with
           deferral := .active, deferTimer := some (n.now + 1000 * n.cfg.deferLimit) } }) ∧
       (n.vcu.deferral = .inactive → sound → reading < (n.cfg.pressureLimit : Int) → endsAs c s m) ∧
       (n.vcu.deferral = .active → sound → reading < (n.cfg.resumeThreshold : Int) →
         endsAs c s { m with vcu := { n.vcu with deferral := .inactive, deferTimer := none } }) ∧
       (n.vcu.deferral = .active → sound → (n.cfg.resumeThreshold : Int) ≤ reading → endsAs c s m) ∧
       (n.vcu.deferral = .waived → sound → endsAs c s m) ∧
       (n.vcu.deferral = .inactive → ¬ sound →
         endsAs c s ({ m with vcu := { n.vcu with deferral := .waived } }.setFlag
           .pressureSensorFault)) ∧
       (n.vcu.deferral = .active → ¬ sound →
         endsAs c s ({ m with vcu := { n.vcu with deferral := .waived, deferTimer := none } }.setFlag
           .pressureSensorFault)) ∧
       (n.vcu.deferral = .waived → ¬ sound → endsAs c s (m.setFlag .pressureSensorFault))))

/-! ## The sequencer's own events (01_hall_release_sequence.md) -/

/-- The degraded confirm timer's expiry in QUIET or ALERT confirms with cause DEGRADED. The EPO point is
marked exactly when a running countdown stands at or below an EPO lead above 0 with EPO enable ON, and
nothing else is written. -/
def Obligations.DegradedExpiryConfirmsAndEpoPointIsMarked : Prop :=
  (∀ (s : State) (ends : Time), s.node.running = true → s.node.hsq.mode = .normal →
     s.node.hsq.degraded = some ends → ends ≤ s.node.now →
     (s.node.hsq.hall = .quiet ∨ s.node.hsq.hall = .alert) → s.node.hsq.manualOverride = false →
     0 < s.node.cfg.countdown →
     ∃ t, exec .degradedConfirmExpiry s = .next t ∧
       t.node.hsq.hall = (if s.node.fiu.hold.delivered = .operated then .hold else .countdown) ∧
       t.node.remaining = 1000 * s.node.cfg.countdown ∧ t.node.hsq.cause = .degraded ∧
       t.node.hsq.degraded = none ∧ t.node.apl.stage = .planned ∧ t.node.flag .confirmed = true ∧
       t.node.flag .degradedConfirm = true ∧ reserveStartsAfresh s.node t.node) ∧
  (∀ s : State, s.node.running = true →
     let n := s.node
     let reached : Prop := n.hsq.hall = .countdown ∧ n.cfg.epoEnable = true ∧ 0 < n.cfg.epoLead ∧
       n.remaining ≤ 1000 * n.cfg.epoLead
     (reached → endsAs .epoPointReached s { n with hsq := { n.hsq with epoReached := true } }) ∧
     (¬ reached → endsAs .epoPointReached s n))

/-- Countdown expiry: in NORMAL mode a re-plan of the groups from the stored Wd, the bid brought to the new
count, the EPO point with a lead of 0, then AWAIT_SLOT with the node's VENT handed over, or
DISCHARGING at once where the node has no vent group or the link is LOST (ISOLATED_RELEASE); in
FALLBACK mode DISCHARGING without a re-plan. -/
def Obligations.CountdownExpiryByModeAndLink : Prop :=
  ∀ (s : State) (ends : Time), s.node.running = true → s.node.hsq.hall = .countdown →
    s.node.hsq.countdown = .running ends → ends ≤ s.node.now →
    ∃ t, exec .countdownExpiry s = .next t ∧ t.node.remaining = 0 ∧
      (s.node.hsq.mode = .fallback → t.node.hsq.hall = .discharging ∧ t.node.apl = s.node.apl ∧
        t.node.flag .ventForced = s.node.flag .ventForced ∧
        t.node.flag .isolatedRelease = s.node.flag .isolatedRelease) ∧
      (s.node.hsq.mode = .normal →
        (let n := s.node
         let a := t.node.apl
         a = { n.apl with stage := .replanned, readyCount := a.readyCount, nOwn := a.nOwn,
                          nRes := a.nRes, noReserve := a.noReserve, wp := a.wp } ∧
         groupsPlanned n a ∧
         t.node.hsq.epoReached =
           (n.hsq.epoReached || (n.cfg.epoEnable && decide (n.cfg.epoLead = 0))) ∧
         (n.vcu.selector.state ≠ .jammed → bidBroughtTo a.nRes n t.node)) ∧
        (s.node.lkc.link = .lost → t.node.hsq.hall = .discharging ∧
          t.node.flag .isolatedRelease = true) ∧
        (s.node.lkc.link ≠ .lost → s.node.cfg.ventGroup = 0 → t.node.hsq.hall = .discharging ∧
          t.node.flag .ventForced = s.node.flag .ventForced ∧
          t.node.flag .isolatedRelease = s.node.flag .isolatedRelease) ∧
        (s.node.lkc.link ≠ .lost → 0 < s.node.cfg.ventGroup → t.node.hsq.hall = .awaitSlot ∧
          t.node.vsu.own = .queued ∧ t.node.vsu.sought = true ∧
          t.node.vsu.slotWait = some (s.node.now + 1000 * s.node.cfg.slotWait) ∧
          t.node.lkc.outbox.vent = some s.node.cfg.ventGroup))

/-- The entry to DISCHARGING (taken at an expiry that enters it at once): the release record and row 12
first, then one pulse for each of the first n_own READY HALL channels (in FALLBACK, of all), ascending,
at the tail of the queue; the duration timer starts and RELEASED is set. -/
def Obligations.DischargeEntryRequestsTheOwnGroups : Prop :=
  ∀ (s : State) (ends : Time), s.node.running = true → s.node.hsq.hall = .countdown →
    s.node.hsq.countdown = .running ends → ends ≤ s.node.now →
    (s.node.hsq.mode = .fallback ∨ s.node.lkc.link = .lost ∨ s.node.cfg.ventGroup = 0) →
    ∃ t cs, exec .countdownExpiry s = .next t ∧
      (s.node.hsq.mode = .fallback → cs = s.node.readyHall) ∧
      (s.node.hsq.mode = .normal → cs = s.node.readyHall.take t.node.apl.nOwn) ∧
      t.node.hsq.firing = cs.map (fun c => (c, FireStatus.pending)) ∧
      t.node.vcu.queue = s.node.vcu.queue ++ cs ∧
      (∀ c ∈ cs, (t.node.chan c).state = .queued ∧ (t.node.chan c).requester = .hsq) ∧
      (t.node.row 12).void = true ∧ t.node.cfs.release.state = .released ∧
      t.node.cfs.release.hallId = s.node.cfg.hallId ∧
      t.node.cfs.release.wd = (if s.node.hsq.mode = .fallback then 0 else t.node.apl.wd) ∧
      t.node.hsq.duration = some (s.node.now + 1000 * s.node.cfg.duration) ∧
      t.node.hsq.elapsed = false ∧ t.node.flag .released = true ∧
      (s.node.hsq.mode = .fallback ∨ t.node.apl.nRes = 0 → t.node.hsq.reservePhase = .resolved) ∧
      (s.node.hsq.mode = .normal → 0 < t.node.apl.nRes → s.node.vcu.selector.state ≠ .jammed →
        t.node.hsq.reservePhase = .opened)

/-- The discharge duration's expiry sets the elapsed marker; with every own entry resolved and the
reserve phase RESOLVED the hall goes to SOAK: the outcome is judged once, into the plan and the sticky
flags, the vent announcement is withdrawn with a VENTFREE, and the soak timer is started. Outside DISCHARGING the timer only stops (log 32, read from section 1.12). The soak timer's expiry
moves SOAK to SPENT, and nothing else changes. -/
def Obligations.DurationAndSoakExpiryEndTheDischarge : Prop :=
  (∀ (s : State) (ends : Time), s.node.running = true → s.node.hsq.duration = some ends →
     ends ≤ s.node.now →
     let n := s.node
     let settled : Prop := (∀ e ∈ n.hsq.firing, e.2 ≠ .pending) ∧ n.hsq.reservePhase = .resolved
     (n.hsq.hall ≠ .discharging →
       endsAs .dischargeDurationExpiry s { n with hsq := { n.hsq with duration := none } }) ∧
     (n.hsq.hall = .discharging → ¬ settled → endsAs .dischargeDurationExpiry s
       { n with hsq := { n.hsq with duration := none, elapsed := true } }) ∧
     (n.hsq.hall = .discharging → settled →
       ∃ t, exec .dischargeDurationExpiry s = .next t ∧ t.node.hsq.hall = .soak ∧
         t.node.hsq.soak = some (n.now + 1000 * n.cfg.soak) ∧ t.node.vcu.deferral = .inactive ∧
         (n.hsq.mode = .normal → ventWithdrawn n t.node ∧
           (n.apl.evaluated = false →
             t.node.apl = { n.apl with
               short := decide (n.apl.m < n.apl.wd), evaluated := true,
               low := decide (n.apl.ca < n.cfg.concentration) } ∧
             (t.node.flag .short = true ↔ n.flag .short = true ∨ n.apl.m < n.apl.wd) ∧
             (t.node.flag .low = true ↔ n.flag .low = true ∨ n.apl.ca < n.cfg.concentration)) ∧
           (n.apl.evaluated = true → t.node.apl = n.apl ∧ t.node.svp = n.svp)) ∧
         (n.hsq.mode = .fallback → t.node.apl = n.apl ∧ t.node.vsu = n.vsu ∧
           t.node.svp = n.svp ∧ t.node.lkc.outbox.ventfree = n.lkc.outbox.ventfree))) ∧
  (∀ (s : State) (ends : Time), s.node.running = true → s.node.hsq.soak = some ends →
     ends ≤ s.node.now →
     (s.node.hsq.hall = .soak → endsAs .soakExpiry s
       { s.node with hsq := { s.node.hsq with soak := none, hall := .spent } }) ∧
     (s.node.hsq.hall ≠ .soak → endsAs .soakExpiry s
       { s.node with hsq := { s.node.hsq with soak := none } }))

/-! ## Valve channels (04_valve_channels_and_the_pulse_arbiter.md) -/

/-- A cylinder pressure read: the reading is stored (151 or more as 150). A channel that is not FIRING
moves by R66's table, with CYL_LOW where the table says so. The read of a FIRING channel serves the
confirmation, below 50 % sets flow seen: the channel stays FIRING while its output is on or flow is not yet
seen, and is SPENT and confirmed, for the own hall or for a feed, at the read that first shows flow with
the output off. That the sequencer takes the own report in DISCHARGING alone is section 1.12's (log 22), and
that an entry made while its node's feed ran takes the feed's count is the model's choice (log 42). -/
def Obligations.CylinderReadMovesTheChannel : Prop :=
  (∀ (s : State) (c : ChanId) (reading : Nat), s.node.running = true →
     let n := s.node
     let r := n.chan c
     let p := min reading 150
     let r' := { r with pressure := p, readAt := n.now + 100 }
     let fit : Prop := n.cfg.fullThreshold ≤ p
     let down : ChanState := if 10 ≤ p then .low else .spent
     let e := Instr.cylinderPressureRead c reading
     (r.role = .unused ∨ r.state = .spent ∨ r.state = .failed → r.state ≠ .firing →
       endsAs e s (n.setChan c r')) ∧
     (r.role ≠ .unused → fit → r.state = .ready ∨ r.state = .isolated ∨ r.state = .committed ∨
       r.state = .queued → endsAs e s (n.setChan c r')) ∧
     (r.role ≠ .unused → ¬ fit → r.state = .ready ∨ r.state = .isolated →
       endsAs e s ((n.setChan c { r' with state := down }).setFlag .cylLow)) ∧
     (r.role ≠ .unused → ¬ fit → r.state = .low → endsAs e s (n.setChan c { r' with state := down })) ∧
     (r.role = .hall → fit → r.state = .low →
       endsAs e s (n.setChan c { r' with
         state := if n.fiu.key.delivered = .isolate then .isolated else .ready })) ∧
     (r.role = .reserve → fit → r.state = .low → n.fiu.key.delivered = .isolate →
       endsAs e s (n.setChan c { r' with state := .isolated })) ∧
     (r.role = .reserve → fit → r.state = .low → n.fiu.key.delivered = .normal →
       ∃ t, exec e s = .next t ∧ (t.node.chan c).pressure = p ∧
         ((t.node.chan c).state = .ready ∨ (t.node.chan c).state = .committed)) ∧
     (r.role ≠ .unused → ¬ fit → r.state = .committed →
       ∃ t, exec e s = .next t ∧ t.node.chan c = { r' with state := down, committedTo := none } ∧
         t.node.flag .cylLow = true) ∧
     (r.role ≠ .unused → ¬ fit → r.state = .queued →
       ∃ t, exec e s = .next t ∧ t.node.chan c = r'.leave down ∧ c ∉ t.node.vcu.queue ∧
         t.node.flag .cylLow = true)) ∧
  (∀ (s : State) (c : ChanId) (reading : Nat), s.node.running = true →
     (s.node.chan c).state = .firing → (s.node.chan c).role ≠ .unused →
     (s.node.chan c).driveCut = false →
     let n := s.node
     let p := min reading 150
     let seen := (n.chan c).flowSeen || decide (p < 50)
     let r' := { n.chan c with pressure := p, readAt := n.now + 100, flowSeen := seen }
     let spent := { r' with
       state := .spent, requester := .none, committedTo := none, feedGrantee := none, window := none }
     let off : Prop := n.vcu.outputOn ≠ some c ∧ (n.chan c).currentSince = none
     let e := Instr.cylinderPressureRead c reading
     (¬ off → endsAs e s (n.setChan c r')) ∧
     (off → seen = false → (n.chan c).window.isSome = true → endsAs e s (n.setChan c r')) ∧
     (off → seen = true → (n.chan c).requester = .hsq →
       ownGroupConfirmed e s c (n.setChan c spent)) ∧
     (off → seen = true → (n.chan c).requester = .rva → placeConfirmed e s c spent))

/-- The arbiter starts the oldest eligible entry when no output is on and none draws current, the
stagger interval has passed and the key is delivered NORMAL; else it starts nothing. A RESERVE entry is
always eligible, a HALL entry in DISCHARGING while the deferral is not ACTIVE. That the output draws current
from its pulse start is the model's choice (log 21). -/
def Obligations.ArbiterStartsTheOldestEligibleEntry : Prop :=
  ∀ (s : State), s.node.running = true →
    let n := s.node
    let free : Prop := n.vcu.outputOn = none ∧ (∀ c, (n.chan c).currentSince = none) ∧
      n.vcu.stagger = none ∧ n.fiu.key.delivered = .normal
    let eligible : ChanId → Prop := fun c => (n.chan c).role = .reserve ∨
      ((n.chan c).role = .hall ∧ n.vcu.deferral ≠ .active ∧ n.hsq.hall = .discharging)
    (¬ free ∨ (∀ c ∈ n.vcu.queue, ¬ eligible c) → endsAs .pulseStart s n) ∧
    (∀ before c after, free → n.vcu.queue = before ++ c :: after → (∀ d ∈ before, ¬ eligible d) →
      eligible c →
      let r := n.chan c
      let m := n.setChan c { r with
        state := .firing, flowSeen := false, window := some (n.now + n.cfg.window),
        currentSince := some n.now }
      endsAs .pulseStart s { m with vcu := { m.vcu with
        queue := n.vcu.queue.filter (· ≠ c), outputOn := some c, lastStart := some n.now,
        pulseEnd := some (n.now + n.cfg.pulse), stagger := some (n.now + n.cfg.stagger) } })

/-- The end of the pulse length commands the output off. With flow seen the group is confirmed and its
channel SPENT: an own group for the sequencer and the planner, a RESERVE group for its feed. Without flow
the channel stays FIRING while its window runs, and has failed with GROUP_FAILED where the window is
over. For a driver that draws no current of its own accord, whose current ends with the command (log 21, the
model's choice). Outside DISCHARGING the own list does not change (section 1.12; log 22), and an entry made
while its node's feed ran takes the feed's count (log 42, the model's choice). -/
def Obligations.PulseEndConfirmsAnOwnGroup : Prop :=
  ∀ (s : State) (c : ChanId) (ends : Time), s.node.running = true →
    s.node.vcu.pulseEnd = some ends → ends ≤ s.node.now → s.node.vcu.outputOn = some c →
    let n := s.node
    let r := n.chan c
    let off := { n with vcu := { n.vcu with outputOn := none, pulseEnd := none } }
    let left := fun st : ChanState => { r with
      currentSince := none, state := st, requester := .none, committedTo := none,
      feedGrantee := none, window := none }
    let e := Instr.pulseLengthExpiry
    r.state = .firing → r.driveCut = false → r.selfDriven = false →
    (r.flowSeen = false → r.window.isSome = true →
      endsAs e s (off.setChan c { r with currentSince := none })) ∧
    (r.flowSeen = true → r.requester = .hsq → ownGroupConfirmed e s c (off.setChan c (left .spent))) ∧
    (r.flowSeen = true → r.requester = .rva → placeConfirmed e s c (left .spent)) ∧
    (r.flowSeen = false → r.window = none → r.requester = .hsq →
      ownGroupFails e s c ((off.setChan c (left .failed)).setFlag .groupFailed)) ∧
    (r.flowSeen = false → r.window = none → r.requester = .rva → placeFails e s c (left .failed))

/-- The end of a confirm window. While the output is still on, or its current is still read, the window
alone stops; with the output off and no flow the group is FAILED with GROUP_FAILED: an own group is
substituted by the lowest READY HALL channel not in the own firing list, the place of a feed by the lowest
READY reserve channel not yet used in it, and without a substitute the entry or place is FAILED. Outside
DISCHARGING nothing more follows an own failure (section 1.12; log 22), and an entry made while its node's
feed ran takes the feed's count (log 42, the model's choice). -/
def Obligations.WindowEndFailsAGroupAndSubstitutes : Prop :=
  ∀ (s : State) (c : ChanId) (ends : Time), s.node.running = true →
    (s.node.chan c).window = some ends → ends ≤ s.node.now →
    let n := s.node
    let r := n.chan c
    let m := n.setChan c { r with window := none }
    let failed := { r with
      window := none, state := .failed, requester := .none, committedTo := none, feedGrantee := none }
    let dead : Prop := n.vcu.outputOn ≠ some c ∧ r.currentSince = none
    let e := Instr.confirmWindowExpiry c
    (r.state ≠ .firing ∨ (r.driveCut = false ∧ ¬ dead) → endsAs e s m) ∧
    (r.state = .firing → r.driveCut = false → dead → r.flowSeen = false →
      (r.requester = .hsq → ownGroupFails e s c ((n.setChan c failed).setFlag .groupFailed)) ∧
      (r.requester = .rva → placeFails e s c failed))

/-- The stagger timer's expiry stops it, and nothing else; the defer timer's expiry in ACTIVE waives the
deferral and sets PRESSURE_FORCED. -/
def Obligations.StaggerAndDeferTimersExpire : Prop :=
  (∀ (s : State) (ends : Time), s.node.running = true → s.node.vcu.stagger = some ends →
     ends ≤ s.node.now →
     endsAs .staggerTimerExpiry s { s.node with vcu := { s.node.vcu with stagger := none } }) ∧
  (∀ (s : State) (ends : Time), s.node.running = true → s.node.vcu.deferTimer = some ends →
     ends ≤ s.node.now →
     let stopped := { s.node with vcu := { s.node.vcu with deferTimer := none } }
     (s.node.vcu.deferral = .active → endsAs .deferTimerExpiry s
       ({ stopped with vcu := { stopped.vcu with deferral := .waived } }.setFlag .pressureForced)) ∧
     (s.node.vcu.deferral ≠ .active → endsAs .deferTimerExpiry s stopped))

/-- The drive monitor: 3.0 s of continuous current cut the output. The drive cut and DRIVE_FAULT are
set, the current and the command end, READY, ISOLATED and LOW channels become FAILED, SPENT and FAILED
ones stay, a QUEUED or FIRING one becomes FAILED and leaves the queue; an UNUSED channel keeps ISOLATED,
the one state R63 gives it (log 20); less than 3.0 s changes nothing. A driver that draws current without
command is noted with the moment its current began (log 21, the model's choice); a cut output draws none. -/
def Obligations.DriveMonitorTimesAndCutsTheCurrent : Prop :=
  (∀ (s : State) (c : ChanId), s.node.running = true →
     let n := s.node
     let r := n.chan c
     let r' := { r with driveCut := true, currentSince := none }
     let off := if n.vcu.outputOn = some c then
         { n with vcu := { n.vcu with outputOn := none, pulseEnd := none } } else n
     ((∀ t, r.currentSince = some t → n.now < t + 3000) → endsAs (.driveMonitorCut c) s n) ∧
     (∀ t, r.currentSince = some t → t + 3000 ≤ n.now → r.driveCut = false →
       (r.role ≠ .unused → r.state = .ready ∨ r.state = .isolated ∨ r.state = .low →
         endsAs (.driveMonitorCut c) s
           ((off.setChan c { r' with state := .failed }).setFlag .driveFault)) ∧
       (r.role = .unused → r.state = .isolated →
         endsAs (.driveMonitorCut c) s ((off.setChan c r').setFlag .driveFault)) ∧
       (r.state = .spent ∨ r.state = .failed →
         endsAs (.driveMonitorCut c) s ((off.setChan c r').setFlag .driveFault)) ∧
       (r.role ≠ .unused → r.state = .queued ∨ r.state = .firing ∨ r.state = .committed →
         ∃ u, exec (.driveMonitorCut c) s = .next u ∧ (u.node.chan c).state = .failed ∧
           (u.node.chan c).driveCut = true ∧ (u.node.chan c).committedTo = none ∧
           (r.state = .queued → c ∉ u.node.vcu.queue) ∧
           u.node.vcu.outputOn ≠ some c ∧ u.node.flag .driveFault = true))) ∧
  (∀ (s : State) (c : ChanId), s.node.running = true →
     let n := s.node
     let r := n.chan c
     (r.driveCut = true → ∀ b, endsAs (.driveCurrentWithoutCommand c b) s n) ∧
     (r.driveCut = false → endsAs (.driveCurrentWithoutCommand c true) s (n.setChan c { r with
       selfDriven := true, currentSince := some (r.currentSince.getD n.now) })) ∧
     (r.driveCut = false → n.vcu.outputOn = some c →
       endsAs (.driveCurrentWithoutCommand c false) s (n.setChan c { r with selfDriven := false })) ∧
     (r.driveCut = false → n.vcu.outputOn ≠ some c → r.state ≠ .firing →
       endsAs (.driveCurrentWithoutCommand c false) s
         (n.setChan c { r with selfDriven := false, currentSince := none })))

/-- A read of the selector's limit switches (section 4.8): travel ends at its own end's reading, a rest
state's travel timer runs while the reading differs, both switches made jam the selector, and JAMMED
stays. The travel timer's expiry jams it: JAMMED, drive OFF, SELECTOR_JAM; a bid in COUNTDOWN, HOLD or
AWAIT_SLOT is given up. -/
def Obligations.SelectorFollowsItsReadingsAndTravelTimer : Prop :=
  (∀ (s : State) (openMade closedMade : Bool), s.node.running = true →
     let n := s.node
     let sel := n.vcu.selector
     let reading : SelReading := match openMade, closedMade with
       | true, false => .opened | false, true => .closed | false, false => .moving
       | true, true => .fault
     let seen := { sel with reading := reading, readAt := n.now + 100 }
     let as := fun x : Selector => endsAs (.selectorLimitRead openMade closedMade) s
       { n with vcu := { n.vcu with selector := x } }
     (sel.state = .jammed → as seen) ∧
     (sel.state = .closing → reading = .closed →
       as { seen with state := .closed, drive := .off, travel := none }) ∧
     (sel.state = .opening → reading = .closed ∨ reading = .moving → as seen) ∧
     (sel.state = .closing → reading = .opened ∨ reading = .moving → as seen) ∧
     ((sel.state = .closed ∧ reading = .closed) ∨ (sel.state = .opened ∧ reading = .opened) →
       as { seen with travel := none }) ∧
     ((sel.state = .closed ∧ (reading = .opened ∨ reading = .moving)) ∨
         (sel.state = .opened ∧ (reading = .closed ∨ reading = .moving)) →
       as { seen with travel := some (sel.travel.getD (n.now + 1000 * n.cfg.selectorTime)) }) ∧
     (sel.state = .opening → reading = .opened →
       ∃ t, exec (.selectorLimitRead openMade closedMade) s = .next t ∧
         t.node.vcu.selector = { seen with state := .opened, drive := .off, travel := none } ∧
         (n.rcl.phase = .opening → 0 < n.rcl.grantHeard → n.cfg.holder.isSome = true →
           n.lkc.link ≠ .lost → t.node.rcl.phase = .requested ∧
           t.node.lkc.outbox.wayopen = n.cfg.holder.map (fun h =>
             (h, min n.rcl.grantHeard (n.rcl.n - n.rcl.fed))) ∧
           t.node.rcl.feedTimeout = some (n.now + 1000 * n.cfg.feedTimeout))) ∧
     (sel.state ≠ .jammed → reading = .fault →
       ∃ t, exec (.selectorLimitRead openMade closedMade) s = .next t ∧
         t.node.vcu.selector = { seen with state := .jammed, drive := .off, travel := none } ∧
         t.node.flag .selectorJam = true)) ∧
  (∀ (s : State) (ends : Time), s.node.running = true → s.node.vcu.selector.travel = some ends →
     ends ≤ s.node.now → s.node.vcu.selector.state ≠ .jammed →
     ∃ t, exec .selectorTravelExpiry s = .next t ∧ t.node.vcu.selector.state = .jammed ∧
       t.node.vcu.selector.drive = .off ∧ t.node.vcu.selector.travel = none ∧
       t.node.flag .selectorJam = true ∧
       (s.node.hsq.hall ≠ .discharging → s.node.rcl.bid = .queued ∨ s.node.rcl.bid = .placed →
         t.node.rcl.bid = .none))

/-! ## The hall link (05_the_hall_link.md) -/

/-- The status timer's expiry restarts it at P and queues a STANDING, in every link state; while the
identity clash stands nothing is queued. -/
def Obligations.StatusExpiryQueuesAStanding : Prop :=
  ∀ (s : State) (ends : Time), s.node.running = true → s.node.lkc.status = some ends →
    ends ≤ s.node.now →
    ∃ t, exec .statusTimerExpiry s = .next t ∧ t.pending = s.pending ∧ t.snapshot = s.snapshot ∧
      t.node.bare = Node.bare { s.node with lkc := { s.node.lkc with
        status := some (s.node.now + s.node.cfg.period) } } ∧
      t.node.lkc.outbox.standing = (!s.node.lkc.clash || s.node.lkc.outbox.standing)

/-- The listen timer's expiry joins the link: the bid queue is rebuilt from the peer table (ELEVATED
before ORDINARY, ascending ids), the vent queue likewise (holding before waiting, the own id left out),
a held bid is placed where the holder is reachable and the selector not jammed, and a held VENT. -/
def Obligations.ListenExpiryJoinsAndRebuilds : Prop :=
  ∀ (s : State) (ends : Time), s.node.running = true → s.node.lkc.listen = some ends →
    ends ≤ s.node.now → s.node.lkc.link = .listen →
    let n := s.node
    let bids := fun cls : BidClass => allNodes.filter (fun i =>
      (n.peer i).present && decide (0 < (n.peer i).wanted) && decide ((n.peer i).bidHolder = n.id)
        && decide ((n.peer i).cls = cls))
    let vents := fun st : VentStatus => allNodes.filter (fun i =>
      decide (i ≠ n.id) && (n.peer i).present && decide ((n.peer i).ventGroup = n.cfg.ventGroup)
        && decide ((n.peer i).ventStatus = st))
    ∃ t, exec .listenTimerExpiry s = .next t ∧ t.node.lkc.link = .joined ∧
      t.node.lkc.listen = none ∧
      (n.rvaActive = true →
        t.node.rva.bids.map BidEntry.node = bids .elevated ++ bids .ordinary) ∧
      (n.vsuActive = true → t.node.vsu.queue = vents .holding ++ vents .waiting ∧
        (n.vsu.own = .held → t.node.vsu.own = .queued ∧
          t.node.lkc.outbox.vent = some n.cfg.ventGroup)) ∧
      (∀ h, n.rcl.bid = .held → n.cfg.holder = some h → (n.peer h).present = true →
        (n.peer h).holderPart.isSome = true → n.vcu.selector.state ≠ .jammed →
        t.node.rcl.bid = .queued ∧
        t.node.lkc.outbox.bid = some { holder := h, wanted := n.rcl.n, cls := n.cfg.cls })

/-- The silence and the placement timer's expiry lose the link: the link's timers but the status timer
stop, the outbox is emptied and the frame in flight dropped (its echo may still come, log 46), every peer
goes ABSENT with its last-heard fields kept and its age absent (log 38), the queues of bids, feeds, answers
and vents are empty, LINK_LOST is set, no adjacent cause stands, QUIET and ALERT follow that, a bid of a
countdown is HELD, a reserve phase in DISCHARGING with a grant or a feed outstanding ends LOST (IDLE too, log
37), and a hall in AWAIT_SLOT discharges with ISOLATED_RELEASE. -/
def Obligations.SilenceOrPlacementExpiryLosesTheLink : Prop :=
  ∀ (c : Instr) (s : State) (ends : Time), s.node.running = true → s.node.lkc.link ≠ .lost →
    ((c = .silenceTimerExpiry ∧ s.node.lkc.silence = some ends) ∨
      (c = .placementTimerExpiry ∧ s.node.lkc.placement = some ends)) → ends ≤ s.node.now →
    ∃ t, exec c s = .next t ∧ t.node.lkc.link = .lost ∧ t.node.lkc.listen = none ∧
      t.node.lkc.silence = none ∧ t.node.lkc.placement = none ∧
      t.node.lkc.status = s.node.lkc.status ∧ t.node.lkc.outbox = Outbox.empty ∧
      t.node.lkc.inFlight = none ∧ t.node.lkc.dropped = s.node.lkc.inFlight ∧
      t.node.lkc.clash = s.node.lkc.clash ∧
      (∀ i, t.node.peer i =
        { s.node.peer i with present := false, lastHeard := none, presence := none }) ∧
      t.node.hsq.adjacent = false ∧
      (let h := { s.node.hsq with adjacent := false }
       h.hall = .quiet ∨ h.hall = .alert → ¬ crossZone h → followsCauses s.node h t.node.hsq) ∧
      t.node.rva.bids = [] ∧ t.node.rva.feedQueue = [] ∧
      t.node.rva.answers = [] ∧ t.node.vsu.queue = [] ∧ t.node.vsu.status = .none ∧
      t.node.rcl.grantHeard = 0 ∧ t.node.flag .linkLost = true ∧
      (s.node.hsq.hall = .countdown ∨ s.node.hsq.hall = .hold →
        s.node.rcl.bid = .queued ∨ s.node.rcl.bid = .placed → t.node.rcl.bid = .held) ∧
      (s.node.hsq.hall = .discharging → 0 < s.node.rcl.grantHeard ∨ s.node.rcl.phase = .requested →
        s.node.rcl.phase ≠ .done → t.node.rcl.phase = .done ∧ t.node.rcl.outcome = .lost ∧
        t.node.rcl.bid = .none ∧ t.node.flag .holderLost = true) ∧
      (s.node.hsq.hall = .awaitSlot → t.node.hsq.hall = .discharging ∧
        t.node.flag .isolatedRelease = true)

/-- A presence timer's expiry: the entry goes ABSENT with its last-heard fields kept, no other entry
changes; the adjacent cause is worked out afresh, with what follows in QUIET and ALERT; its node leaves the
bid queue of a JOINED holder and the vent queue, and a lost holder's grant is gone, with HOLDER_LOST where
it was above 0 and, in DISCHARGING, the reserve phase ended LOST (unless the hall confirms in the same
event, which starts the reserve record anew). That IDLE is such a phase is read from R128 (log 37). -/
def Obligations.PresenceExpiryMakesThePeerAbsent : Prop :=
  ∀ (s : State) (i : NodeId) (ends : Time), s.node.running = true →
    (s.node.peer i).presence = some ends → ends ≤ s.node.now →
    let n := s.node
    ∃ t, exec (.presenceTimerExpiry i) s = .next t ∧
      t.node.peer i =
        { s.node.peer i with present := false, lastHeard := none, presence := none } ∧
      (∀ j, j ≠ i → t.node.peer j = s.node.peer j) ∧
      (t.node.hsq.adjacent = true ↔ adjacentStands t.node) ∧
      (n.hsq.hall = .quiet ∨ n.hsq.hall = .alert → ¬ crossZone n.hsq →
        followsCauses n { n.hsq with adjacent := t.node.hsq.adjacent } t.node.hsq) ∧
      (s.node.lkc.link = .joined → t.node.entry i = none) ∧
      (s.node.vsuTakes = true → i ≠ s.node.id → i ∉ t.node.vsu.queue) ∧
      (s.node.cfg.holder = some i → t.node.rcl.grantHeard = 0 ∧
        (¬ crossZone n.hsq → 0 < n.rcl.grantHeard → t.node.flag .holderLost = true) ∧
        (n.hsq.hall = .discharging → 0 < n.rcl.grantHeard ∨ n.rcl.phase = .requested →
          n.rcl.phase ≠ .done → t.node.rcl.phase = .done ∧ t.node.rcl.outcome = .lost ∧
          t.node.rcl.bid = .none ∧ t.node.rcl.wait = .stopped ∧
          (n.rcl.phase = .requested → t.node.flag .feedLost = true) ∧
          (n.hsq.reservePhase = .opened → t.node.hsq.reservePhase = .resolved ∧
            t.node.hsq.reserveOutcome = .lost)))

/-- A valid STANDING with no identity clash, of another node, of this node as the echo of its own, or in
LOST as the late echo of its own that the entry to LOST dropped in flight (log 46): the entry takes its
content and is PRESENT for 3P, no other entry changes, the silence timer restarts, and a LOST link listens
again. A changed presence or hall state works the adjacent cause out afresh, with what follows in QUIET and
ALERT. Of the holder the grant heard is taken: in WAITING_GRANT it opens the selector or sends the WAYOPEN,
one that vanished is bid for again, and a held bid is placed. In JOINED a change that shows no bid for this
holder removes the node's bid, and any other keeps the reserve queues; a change of vent group or status
repairs the vent queue, and a repair that changes nothing gives no slot. -/
def Obligations.StandingReceivedFillsThePeerTable : Prop :=
  ∀ (s : State) (src : NodeId) (c : Standing), s.node.running = true → s.node.lkc.clash = false →
    c.valid = true →
    (src ≠ s.node.id ∨ s.node.lkc.inFlight = some (.standing src c) ∨
      (s.node.lkc.link = .lost ∧ s.node.lkc.dropped = some (.standing src c))) →
    let n := s.node
    let p := n.peer src
    let member : Prop := c.ventGroup = n.cfg.ventGroup ∧ c.ventStatus ≠ .none
    let ventChange : Prop := p.present = false ∨ p.ventGroup ≠ c.ventGroup ∨
      p.ventStatus ≠ c.ventStatus
    let bidChange : Prop := p.present = false ∨ p.bidHolder ≠ c.bidHolder ∨ p.wanted ≠ c.wanted ∨
      p.cls ≠ c.cls
    let bids : Prop := 0 < c.wanted ∧ c.bidHolder = n.id
    ∃ t, exec (.standingReceived src c) s = .next t ∧
      t.node.peer src =
        { present := true, lastHeard := some n.now, presence := some (n.now + 3 * n.cfg.period),
          hall := some c.hall, mode := some c.mode, lockout := c.lockout, short := c.short,
          low := c.low, trouble := c.trouble, ventGroup := c.ventGroup, ventStatus := c.ventStatus,
          bidHolder := c.bidHolder, wanted := c.wanted, cls := c.cls, holderPart := c.holderPart } ∧
      (∀ j, j ≠ src → t.node.peer j = n.peer j) ∧
      t.node.lkc.silence = some (n.now + 3 * n.cfg.period) ∧ t.node.lkc.inFlight = none ∧
      t.node.lkc.link = (if n.lkc.link = .lost then .listen else n.lkc.link) ∧
      t.node.lkc.listen = (match n.lkc.link with
        | .lost => some (n.now + 2 * n.cfg.period)
        | .listen => some (n.lkc.listen.getD (n.now + 2 * n.cfg.period))
        | .joined => n.lkc.listen) ∧
      t.node.lkc.badFrames = n.lkc.badFrames ∧ t.node.lkc.clash = false ∧
      (p.present = false ∨ p.hall ≠ some c.hall →
        (t.node.hsq.adjacent = true ↔ adjacentStands t.node) ∧
        (n.hsq.hall = .quiet ∨ n.hsq.hall = .alert → ¬ crossZone n.hsq →
          followsCauses n { n.hsq with adjacent := t.node.hsq.adjacent }
            { t.node.hsq with reservePhase := n.hsq.reservePhase,
                              reserveOutcome := n.hsq.reserveOutcome })) ∧
      (n.cfg.holder = some src → p.present = false ∨ p.holderPart ≠ c.holderPart →
        grantShown c.holderPart n.id t.node.rcl.grantHeard ∧
        (let g := t.node.rcl.grantHeard
         let left := n.rcl.n - n.rcl.fed
         let sel := n.vcu.selector
         (n.hsq.hall = .discharging → n.fiu.key.delivered = .normal → n.rcl.phase = .waitingGrant →
           0 < g → 0 < left →
           (sel.state = .closed ∨ sel.state = .closing → t.node.rcl.phase = .opening ∧
             t.node.vcu.selector = { sel with
               state := .opening, drive := .driveOpen,
               travel := some (n.now + 1000 * n.cfg.selectorTime) }) ∧
           (sel.state = .opening → t.node.rcl.phase = .opening ∧ t.node.vcu.selector = sel) ∧
           (sel.state = .opened → t.node.rcl.phase = .requested ∧ t.node.vcu.selector = sel ∧
             t.node.rcl.asked = min g left ∧ t.node.lkc.outbox.wayopen = some (src, min g left) ∧
             t.node.rcl.feedTimeout = some (n.now + 1000 * n.cfg.feedTimeout)) ∧
           (sel.state = .jammed → t.node.rcl.phase = .done ∧ t.node.rcl.bid = .none ∧
             t.node.rcl.outcome = n.rcl.outcomeByRule)) ∧
         (let vanished : Prop := n.rcl.bid = .placed ∧ 0 < n.rcl.grantHeard ∧ g = 0 ∧
            n.rcl.phase ≠ .requested
          let waits : Prop := (n.rcl.bid = .held ∨ (n.rcl.rebid = true ∧ n.rcl.bid ≠ .none)) ∧
            n.lkc.link = .joined ∧ c.holderPart ≠ none ∧ sel.state ≠ .jammed
          (¬ crossZone n.hsq → vanished ∨ waits → t.node.rcl.bid = .queued ∧
            bidWaits n.rcl.n t.node) ∧
          (¬ crossZone n.hsq → n.rcl.bid ≠ .held → n.rcl.rebid = false → ¬ vanished →
            n.hsq.hall ≠ .awaitSlot → n.rcl.phase ≠ .waitingGrant →
            t.node.rcl.bid = n.rcl.bid)))) ∧
      (n.lkc.link ≠ .joined ∨ bids ∨ ¬ bidChange → t.node.rva = n.rva) ∧
      (n.lkc.link = .joined → ¬ bids → bidChange → t.node.entry src = none ∧
        (n.entry src ≠ none → t.node.committedTo src = [] ∧ ∀ w ∈ t.node.rva.feedQueue, w.1 ≠ src)) ∧
      (let takes : Prop := n.vsuTakes = true ∧ src ≠ n.id ∧ ventChange
       (takes → member → t.node.vsu.queue =
         if src ∈ n.vsu.queue then n.vsu.queue else n.vsu.queue ++ [src]) ∧
       (takes → ¬ member → t.node.vsu.queue = n.vsu.queue.filter (· ≠ src) ∧
         (n.hsq.hall = .awaitSlot → n.vsu.sought = true → src ∈ n.vsu.queue →
           n.id ∈ n.vsu.queue →
           (t.node.vsu.queue.findIdx (fun i => i = n.id)) < n.cfg.ventCapacity →
           t.node.hsq.hall = .discharging ∧ t.node.vsu.slotWait = none)) ∧
       (¬ takes → t.node.vsu.queue = n.vsu.queue) ∧
       (n.hsq.hall = .awaitSlot → t.node.vsu.queue = n.vsu.queue → t.node.hsq.hall = .awaitSlot))

/-- A STANDING with the node's own id that is no echo, and not the late echo in LOST of one dropped in
flight at the entry to LOST (log 46), is an identity clash: ID_CLASH, and the link is LOST. That a frame in
flight is dropped where the link is LOST already is read from section 5.8 (log 30). -/
def Obligations.OwnIdStandingIsAClash : Prop :=
  ∀ (s : State) (c : Standing), s.node.running = true → s.node.lkc.clash = false →
    c.valid = true → s.node.lkc.inFlight ≠ some (.standing s.node.id c) →
    (s.node.lkc.link = .lost → s.node.lkc.dropped ≠ some (.standing s.node.id c)) →
    ∃ t, exec (.standingReceived s.node.id c) s = .next t ∧ t.node.lkc.clash = true ∧
      t.node.lkc.link = .lost ∧ t.node.lkc.inFlight = none ∧ t.node.flag .idClash = true

/-- A frame that fails the checks, as bytes that are no valid frame or as a kind with a field out of
its range: the bad-frame counter rises by one, up to 65535, a frame in flight returns to its place in the
outbox, and nothing else happens; an echo that might still have come after a loss of the link is over (log
46). A valid frame taken while the identity clash stands changes nothing. -/
def Obligations.BadFrameIsOnlyCounted : Prop :=
  ∀ (c : Instr) (s : State), s.node.running = true →
    let n := s.node
    let counted := { n with lkc := { n.lkc with
      badFrames := min 65535 (n.lkc.badFrames + 1), inFlight := none, dropped := none,
      outbox := match n.lkc.inFlight with
        | none => n.lkc.outbox | some f => returnFrame f n.lkc.outbox } }
    ((∃ bytes, c = .badFrame bytes ∧ parse bytes = none) → endsWith c s counted) ∧
    (∀ f, c.frame? = some f → f.valid = false → endsWith c s counted) ∧
    (∀ f, c.frame? = some f → f.valid = true → n.lkc.clash = true → endsWith c s n) ∧
    (∀ bytes f, c = .badFrame bytes → parse bytes = some f → n.lkc.clash = true → endsWith c s n)

/-- In LISTEN and from LOST a valid frame of another node of any kind but STANDING counts as heard and
does nothing else. -/
def Obligations.OtherKindsWaitForTheJoin : Prop :=
  ∀ (c : Instr) (f : Frame) (s : State), s.node.running = true → c.frame? = some f →
    (∀ src content, c ≠ .standingReceived src content) → f.valid = true →
    s.node.lkc.clash = false → s.node.lkc.inFlight = none → s.node.lkc.link ≠ .joined →
    endsAs c s { s.node with lkc := { s.node.lkc with
      link := .listen, silence := some (s.node.now + 3 * s.node.cfg.period),
      listen := match s.node.lkc.link with
        | .lost => some (s.node.now + 2 * s.node.cfg.period)
        | _ => some (s.node.lkc.listen.getD (s.node.now + 2 * s.node.cfg.period)) } }

/-- At an idle line a JOINED node with no frame in flight and no clash offers the first frame of the
order FED, WAYOPEN, YIELD, VENTFREE, BID, VENT, STANDING, and a node in LISTEN or LOST a STANDING alone;
sent to its end the frame is in flight and has left the outbox, and a frame that loses a bit is back in the
outbox, which is then as before. With a frame in flight, a clash, or nothing to offer, no frame is sent. No
offer leaves an echo of a frame dropped at an entry to LOST to be waited for (log 46). The operand that says
which bit was lost first, and that one past the frame's end loses none, is the model's choice (log 29). The
STANDING shows the fields as they stand, its holder part the READY RESERVE channels, the lockout and the
grants in queue order. -/
def Obligations.OfferTakesTheFirstKind : Prop :=
  ∀ (s : State) (differsAt : Option Nat), s.node.running = true →
    let n := s.node
    let o := n.lkc.outbox
    let me := n.id
    let ends := fun (free : Nat) (flight : Option Frame) (box : Outbox) =>
      endsWith (.frameOffer differsAt) s { n with
        free := free, lkc := { n.lkc with dropped := none, inFlight := flight, outbox := box } }
    let offered := fun (f : Frame) (rest : Outbox) => ∃ free,
      (differsAt = none → ends free (some f) rest) ∧
      (∀ k, differsAt = some k → 8 * frameLength f ≤ k → ends free (some f) rest) ∧
      (∀ k, differsAt = some k → k < 8 * frameLength f → ends free none o)
    let standing := ∃ c : Standing, offered (.standing me c) { o with standing := false } ∧
      c.hall = n.hsq.hall ∧ c.mode = n.hsq.mode ∧
      c.lockout = decide (n.fiu.key.delivered = .isolate) ∧ c.short = n.apl.short ∧
      c.low = n.apl.low ∧ c.trouble = n.trouble ∧ c.ventStatus = n.vsu.status ∧
      c.ventGroup = (if n.hsq.mode = .normal then n.cfg.ventGroup else 0) ∧
      c.wanted = (if n.rcl.bid = .queued ∨ n.rcl.bid = .placed then n.rcl.n else 0) ∧
      (∀ h, n.cfg.holder = some h → c.bidHolder = h) ∧ c.cls = n.cfg.cls ∧
      (let bank : Prop := ∃ d, (n.chan d).role = .reserve
       (¬ bank → c.holderPart = none) ∧
       (bank → ∃ part, c.holderPart = some part ∧
         part.lockout = decide (n.fiu.key.delivered = .isolate) ∧
         (n.hsq.mode = .normal →
           part.ready = (allChans.filter (fun d =>
             (n.chan d).role = .reserve ∧ (n.chan d).state = .ready)).length ∧
           part.grants = (n.rva.bids.filter (fun e => 0 < e.granted)).map
             (fun e => { grantee := e.node, count := e.granted })) ∧
         (n.hsq.mode = .fallback → part.ready = 0 ∧ part.grants = [])))
    (n.lkc.inFlight.isSome = true ∨ n.lkc.clash = true ∨ o = Outbox.empty ∨
        (n.lkc.link ≠ .joined ∧ o.standing = false) →
      ends n.free n.lkc.inFlight o) ∧
    (n.lkc.inFlight = none → n.lkc.clash = false → n.lkc.link = .joined →
      (∀ a, o.fed = some a →
        offered (.fed me a.grantee a.confirmed a.failed a.outcome) { o with fed := none }) ∧
      (o.fed = none →
        (∀ w, o.wayopen = some w → offered (.wayopen me w.1 w.2) { o with wayopen := none }) ∧
      (o.wayopen = none →
        (∀ h, o.yieldTo = some h → offered (.yield me h) { o with yieldTo := none }) ∧
      (o.yieldTo = none →
        (∀ g, o.ventfree = some g → offered (.ventfree me g) { o with ventfree := none }) ∧
      (o.ventfree = none →
        (∀ b, o.bid = some b → offered (.bid me b.holder b.wanted b.cls) { o with bid := none }) ∧
      (o.bid = none →
        (∀ g, o.vent = some g → offered (.vent me g) { o with vent := none }) ∧
      (o.vent = none → o.standing = true → standing))))))) ∧
    (n.lkc.inFlight = none → n.lkc.clash = false → n.lkc.link ≠ .joined → o.standing = true →
      standing)

/-- In JOINED the echo of the node's own BID places the bid, and its own arbiter takes it like any other
node's; the echo of its own VENT joins the vent queue and makes the VENT PLACED, with the slot it may give;
the frame in flight is gone. The echo of the own FED takes the head answer off the list and hands the next
over, and does nothing else where it is no answer to this node. The echo of a YIELD or WAYOPEN for another
holder, and of a VENTFREE of another group, only counts as heard; a YIELD for the own arbiter removes the
own entry, and a VENTFREE of the own group takes the own id out of the vent queue. A frame of any kind but
STANDING with the node's own id that is no echo only counts as heard, and a frame in flight returns to the
outbox. -/
def Obligations.EchoPlacesTheBid : Prop :=
  (∀ (s : State) (holder : NodeId) (wanted : Nat) (cls : BidClass), s.node.running = true →
    s.node.lkc.clash = false → s.node.lkc.link = .joined → 1 ≤ wanted → wanted ≤ 8 →
    s.node.lkc.inFlight = some (.bid s.node.id holder wanted cls) → s.node.rcl.bid = .queued →
    s.node.lkc.outbox.bid = none →
    ∃ t, exec (.bidReceived s.node.id holder wanted cls) s = .next t ∧
      t.node.rcl.bid = .placed ∧ t.node.lkc.inFlight = none ∧
      t.node.lkc.silence = some (s.node.now + 3 * s.node.cfg.period) ∧
      (holder = s.node.id → s.node.rvaActive = true → s.node.entry s.node.id = none →
        ∃ e, t.node.entry s.node.id = some e ∧ e.wanted = wanted ∧ e.cls = cls)) ∧
  (∀ (s : State) (group : Nat), s.node.running = true → s.node.lkc.clash = false →
    s.node.lkc.link = .joined → group = s.node.cfg.ventGroup → 1 ≤ group → group ≤ 15 →
    s.node.vsuActive = true → s.node.lkc.inFlight = some (.vent s.node.id group) →
    s.node.vsu.own = .queued → s.node.lkc.outbox.vent = none →
    let n := s.node
    let place := (if n.id ∈ n.vsu.queue then n.vsu.queue else n.vsu.queue ++ [n.id]).findIdx
      (fun i => i = n.id)
    ∃ t, exec (.ventReceived n.id group) s = .next t ∧ t.node.vsu.own = .placed ∧
      t.node.lkc.inFlight = none ∧ t.node.lkc.silence = some (n.now + 3 * n.cfg.period) ∧
      t.node.vsu.queue = (if n.id ∈ n.vsu.queue then n.vsu.queue else n.vsu.queue ++ [n.id]) ∧
      t.node.vsu.status = (if place < n.cfg.ventCapacity then .holding else .waiting) ∧
      (n.hsq.hall = .awaitSlot → n.vsu.sought = true →
        (place < n.cfg.ventCapacity → t.node.hsq.hall = .discharging ∧ t.node.vsu.slotWait = none) ∧
        (n.cfg.ventCapacity ≤ place → t.node.hsq.hall = .awaitSlot ∧
          t.node.vsu.slotWait = n.vsu.slotWait))) ∧
  (∀ (s : State) (grantee : NodeId) (k f : Nat) (o : FedOutcome), s.node.running = true →
    s.node.lkc.clash = false → s.node.lkc.link = .joined → k ≤ 8 → f ≤ 8 →
    s.node.lkc.inFlight = some (.fed s.node.id grantee k f o) → s.node.lkc.outbox.fed = none →
    let n := s.node
    let c := Instr.fedReceived n.id grantee k f o
    let next := n.rva.answers.tail
    (∃ t, exec c s = .next t ∧ t.node.rva = { n.rva with answers := next } ∧
      t.node.lkc.outbox.fed = next.head? ∧ t.node.lkc.inFlight = none) ∧
    (n.cfg.holder ≠ some n.id ∨ grantee ≠ n.id →
      (let m := n.heard
       endsWith c s { m with
         rva := { n.rva with answers := next },
         lkc := { m.lkc with outbox := { n.lkc.outbox with fed := next.head? } } }))) ∧
  (∀ (s : State), s.node.running = true → s.node.lkc.clash = false → s.node.lkc.link = .joined →
    let n := s.node
    let flies := fun f : Frame => n.lkc.inFlight = some f
    (∀ holder, flies (.yield n.id holder) →
      (holder ≠ n.id ∨ n.rvaActive = false →
        endsWith (.yieldReceived n.id holder) s n.heard) ∧
      (holder = n.id → n.rvaActive = true → ∃ t, exec (.yieldReceived n.id holder) s = .next t ∧
        t.node.entry n.id = none ∧ t.node.lkc.inFlight = none)) ∧
    (∀ holder count, flies (.wayopen n.id holder count) → 1 ≤ count → count ≤ 8 →
      holder ≠ n.id ∨ n.rvaActive = false →
      endsWith (.wayopenReceived n.id holder count) s n.heard) ∧
    (∀ group, flies (.ventfree n.id group) → 1 ≤ group → group ≤ 15 →
      (group ≠ n.cfg.ventGroup ∨ n.vsuActive = false ∨ n.id ∉ n.vsu.queue →
        endsWith (.ventfreeReceived n.id group) s n.heard) ∧
      (group = n.cfg.ventGroup → n.vsuActive = true → n.id ∈ n.vsu.queue →
        endsAs (.ventfreeReceived n.id group) s { n.heard with vsu := { n.vsu with
          queue := n.vsu.queue.filter (· ≠ n.id),
          status := if n.vsu.own = .placed then .waiting else .none } }))) ∧
  (∀ (c : Instr) (f : Frame) (s : State), s.node.running = true → s.node.lkc.clash = false →
    s.node.lkc.link = .joined → c.frame? = some f → (∀ src x, c ≠ .standingReceived src x) →
    frameSource f = s.node.id → f.valid = true → s.node.lkc.inFlight ≠ some f →
    endsWith c s { s.node with lkc := { s.node.lkc with
      silence := some (s.node.now + 3 * s.node.cfg.period), inFlight := none,
      outbox := match s.node.lkc.inFlight with
        | none => s.node.lkc.outbox | some g => returnFrame g s.node.lkc.outbox } })

/-! ## The reserve bank (06_reserve_bank_bids_grants_and_feeds.md) -/

/-- A BID that names this holder, from another node or as the echo of the own one. Without an entry it creates one, behind the last
ELEVATED entry (ELEVATED) or at the tail (ORDINARY), and the other entries keep their order; its feed taken
is what runs or waits for the node (log 50), and it is granted nothing under ISOLATE, and with no claim of
another entry open the smaller of its count and the free RESERVE channels. The node's only entry takes the
new count and class, a change of class moves it, the surplus goes back highest-numbered channels first, a
larger claim is granted what is free, and a fully fed entry goes with its channels. -/
def Obligations.BidCreatesAnEntryInItsPlace : Prop :=
  ∀ (s : State) (src : NodeId) (wanted : Nat) (cls : BidClass), s.node.running = true →
    s.node.lkc.clash = false → s.node.lkc.link = .joined →
    heardOrEchoed (.bid src s.node.id wanted cls) s.node → 1 ≤ wanted → wanted ≤ 8 →
    s.node.rvaActive = true →
    let n := s.node
    let nodesOf := fun k : BidClass =>
      (n.rva.bids.filter (fun e => e.cls = k ∧ e.node ≠ src)).map BidEntry.node
    let placed := match cls with
      | .elevated => nodesOf .elevated ++ [src] ++ nodesOf .ordinary
      | .ordinary => (n.rva.bids.filter (fun e => e.node ≠ src)).map BidEntry.node ++ [src]
    let othersMet : Prop := ∀ x ∈ n.rva.bids, x.node ≠ src → x.outstanding = 0
    let holdUntil := some (n.now + 1000 * n.cfg.grantHold)
    let command := Instr.bidReceived src s.node.id wanted cls
    (n.entry src = none → ∃ t e, exec command s = .next t ∧
      t.node.rva.bids.map BidEntry.node = placed ∧
      t.node.entry src = some e ∧ e.wanted = wanted ∧ e.cls = cls ∧ e.inFeed = 0 ∧ e.fed = 0 ∧
      e.taken = (if ∃ f, n.rva.feed = some f ∧ f.grantee = src ∧ f.orphaned = false then .running
        else if ∃ w ∈ n.rva.feedQueue, w.1 = src then .waiting else .no) ∧
      e.hold = (if 0 < e.granted ∧ e.taken = .no then holdUntil else none) ∧
      e.granted ≤ wanted ∧ (n.fiu.key.delivered = .isolate → e.granted = 0) ∧
      (n.fiu.key.delivered = .normal → othersMet →
        e.granted = min wanted n.freeReserve.length)) ∧
    (∀ x, n.rva.bids.filter (fun y => y.node = src) = [x] →
      let surplus := x.granted + x.inFeed + x.fed - wanted
      let back := min surplus (n.committedTo src).length
      let kept := x.granted - back
      (wanted ≤ x.fed → x.inFeed = 0 →
        ∃ t, exec command s = .next t ∧ t.node.entry src = none ∧ t.node.committedTo src = []) ∧
      (x.fed < wanted ∨ x.inFeed ≠ 0 → ∃ t e, exec command s = .next t ∧
        t.node.rva.bids.map BidEntry.node =
          (if x.cls = cls then n.rva.bids.map BidEntry.node else placed) ∧
        t.node.entry src = some e ∧ e.wanted = wanted ∧ e.cls = cls ∧ e.inFeed = x.inFeed ∧
        e.fed = x.fed ∧ e.taken = x.taken ∧ kept ≤ e.granted ∧
        e.hold = (if kept < e.granted ∧ x.taken = .no then holdUntil
          else if kept = 0 then none else x.hold) ∧
        (n.fiu.key.delivered = .isolate → e.granted = kept) ∧
        (0 < surplus → e.granted = kept ∧
          t.node.committedTo src =
            (n.committedTo src).take ((n.committedTo src).length - back)) ∧
        (surplus = 0 → n.fiu.key.delivered = .normal → othersMet →
          e.granted = x.granted +
            min (wanted - x.granted - x.inFeed - x.fed) n.freeReserve.length)))

/-- A YIELD that names this holder, the own echo included, and a grant hold timer's expiry, remove the node's entry, and no
channel stays committed to it. -/
def Obligations.YieldAndGrantHoldExpiryRemoveTheEntry : Prop :=
  (∀ (s : State) (src : NodeId), s.node.running = true → s.node.lkc.clash = false →
     s.node.lkc.link = .joined → heardOrEchoed (.yield src s.node.id) s.node →
     s.node.rvaActive = true →
     ∃ t, exec (.yieldReceived src s.node.id) s = .next t ∧ t.node.entry src = none ∧
       (s.node.entry src ≠ none → t.node.committedTo src = [] ∧
         ∀ w ∈ t.node.rva.feedQueue, w.1 ≠ src) ∧
       (s.node.entry src = none → t.node.rva = s.node.rva ∧ t.node.vcu = s.node.vcu)) ∧
  (∀ (s : State) (i : NodeId) (e : BidEntry) (ends : Time), s.node.running = true →
     s.node.entry i = some e → e.hold = some ends → ends ≤ s.node.now →
     ∃ t, exec (.grantHoldExpiry i) s = .next t ∧ t.node.entry i = none ∧
       t.node.committedTo i = [] ∧ t.node.rva.feedQueue = s.node.rva.feedQueue ∧
       t.node.rva.feed = s.node.rva.feed ∧ t.node.rva.answers = s.node.rva.answers ∧
       t.node.vcu.queue = s.node.vcu.queue ∧
       t.node.rva.bids.map BidEntry.node =
         (s.node.rva.bids.map BidEntry.node).filter (fun j => j ≠ i))

/-- A WAYOPEN that names this holder, the own echo included, by R115's table: while the node's own feed runs nothing follows;
while one of its WAYOPENs waits the count alone is replaced; else it is answered REFUSED under ISOLATE and
LAPSED without an entry or a grant, and otherwise joins the feed queue with its entry's hold stopped, behind
the feed that runs. A feed that can start at once takes the lowest-numbered channels committed to the node,
the smaller of the count and the entry's grant, and requests their pulses in that order. -/
def Obligations.WayopenIsAnsweredOrStartsAFeed : Prop :=
  ∀ (s : State) (src : NodeId) (count : Nat), s.node.running = true → s.node.lkc.clash = false →
    s.node.lkc.link = .joined → heardOrEchoed (.wayopen src s.node.id count) s.node → 1 ≤ count →
    count ≤ 8 → s.node.rvaActive = true →
    let n := s.node
    let c := Instr.wayopenReceived src s.node.id count
    let feeds : Prop := ∃ f, n.rva.feed = some f ∧ f.grantee = src ∧ f.orphaned = false
    let waits : Prop := ∃ w ∈ n.rva.feedQueue, w.1 = src
    let answered := fun o : FedOutcome => n.rva.answers = [] → n.lkc.outbox.fed = none →
      ∃ t, exec c s = .next t ∧
        t.node.lkc.outbox.fed =
          some { grantee := src, confirmed := 0, failed := 0, outcome := o } ∧
        t.node.rva.feed = n.rva.feed ∧ t.node.rva.feedQueue = n.rva.feedQueue ∧
        t.node.rva.bids = n.rva.bids ∧ t.node.vcu = n.vcu
    (feeds → endsWith c s n.heard) ∧
    (¬ feeds → waits → endsWith c s { n.heard with rva := { n.rva with
      feedQueue := n.rva.feedQueue.map (fun w => if w.1 = src then (src, count) else w) } }) ∧
    (¬ feeds → ¬ waits → n.fiu.key.delivered = .isolate → answered .refused) ∧
    (¬ feeds → ¬ waits → n.fiu.key.delivered = .normal → n.entry src = none → answered .lapsed) ∧
    (∀ e, ¬ feeds → ¬ waits → n.fiu.key.delivered = .normal → n.entry src = some e →
      e.granted = 0 → answered .lapsed) ∧
    (∀ e f, ¬ feeds → ¬ waits → n.fiu.key.delivered = .normal → n.entry src = some e →
      0 < e.granted → n.rva.feed = some f → (∃ x ∈ f.places, x.status = .pending) →
      ∃ t, exec c s = .next t ∧ t.node.vcu = n.vcu ∧ t.node.rva = { n.rva with
        feedQueue := n.rva.feedQueue ++ [(src, count)],
        bids := n.rva.bids.map (fun x =>
          if x.node = src then { x with taken := .waiting, hold := none } else x) }) ∧
    (∀ e, n.rva.feed = none → n.rva.feedQueue = [] → n.fiu.key.delivered = .normal →
      n.entry src = some e → 0 < e.granted → (n.committedTo src).length = e.granted →
      (∀ d ∈ n.committedTo src, (n.chan d).role = .reserve) →
      let cs := (n.committedTo src).take (min count e.granted)
      ∃ t, exec c s = .next t ∧ t.node.vcu.queue = n.vcu.queue ++ cs ∧
        (∀ d ∈ cs, (t.node.chan d).state = .queued ∧ (t.node.chan d).requester = .rva ∧
          (t.node.chan d).feedGrantee = some src) ∧
        (∃ f, t.node.rva.feed = some f ∧ f.grantee = src ∧ f.confirmed = 0 ∧ f.failed = 0 ∧
          f.places = cs.map (fun d => { channel := d, status := .pending })) ∧
        ∃ e', t.node.entry src = some e' ∧ e'.granted = e.granted - cs.length ∧
          e'.inFeed = cs.length ∧ e'.taken = .running ∧ e'.hold = none)

/-- The FED that answers this node's WAYOPEN: the feed timeout stops, the outcome is kept as last
answer and the grant is gone. With groups still wanted and the reserve wait running RCL waits for a grant
again, after LAPSED with its bid queued anew; with none wanted, or the reserve wait expired, the reserve
phase ends. Confirmed flow adds to reserve fed, capped at 8, and restarts the two timers of flow while the
reserve phase is OPEN. In any other feed phase it is no answer: its mass is taken in DISCHARGING and SOAK and
its flow while the reserve phase is OPEN, and nothing else follows, but that a remaining count of 0 ends
WAITING_GRANT and OPENING (log 33). A FED from another node than the holder, or to another grantee, is no business of
this node. -/
def Obligations.FedAnswersTheWayopen : Prop :=
  (∀ (s : State) (h : NodeId) (k f : Nat) (o : FedOutcome), s.node.running = true →
     s.node.lkc.clash = false → s.node.lkc.link = .joined → s.node.lkc.inFlight = none →
     h ≠ s.node.id → s.node.cfg.holder = some h → k ≤ 8 → f ≤ 8 → s.node.rcl.phase = .requested →
     s.node.hsq.reservePhase = .opened → s.node.hsq.hall = .discharging →
     let n := s.node
     let fed := if 0 < k then min 8 (n.rcl.fed + k) else n.rcl.fed
     let running : Prop := ∃ ends, n.rcl.wait = .running ends
     ∃ t, exec (.fedReceived h s.node.id k f o) s = .next t ∧ t.node.rcl.grantHeard = 0 ∧
       t.node.rcl.feedTimeout = none ∧ t.node.rcl.fed = fed ∧
       t.node.rcl.lastAnswer = (match o with
         | .complete => .complete | .part => .part | .lapsed => .lapsed | .refused => .refused) ∧
       (0 < k → t.node.rcl.flowTaken = true ∧
         t.node.rcl.flowTimer = some (n.now + 1000 * n.cfg.duration) ∧
         t.node.hsq.elapsed = false ∧
         t.node.hsq.duration = some (n.now + 1000 * n.cfg.duration)) ∧
       (n.apl.stage ≠ .none → t.node.apl.m = n.apl.m + k * n.cfg.mr ∧
         t.node.apl.resConfirmed = n.apl.resConfirmed + k) ∧
       (0 < n.rcl.n - fed → running → t.node.rcl.phase = .waitingGrant ∧
         t.node.rcl.wait = n.rcl.wait ∧ t.node.vcu.selector = n.vcu.selector ∧
         t.node.hsq.reservePhase = .opened ∧
         (o ≠ .lapsed → t.node.rcl.bid = n.rcl.bid ∧ t.node.lkc.outbox.bid = n.lkc.outbox.bid) ∧
         (o = .lapsed → n.rcl.bid = .queued ∨ n.rcl.bid = .placed → t.node.rcl.bid = .queued ∧
           t.node.lkc.outbox.bid =
             some { holder := h, wanted := n.rcl.n, cls := n.cfg.cls })) ∧
       (n.rcl.n - fed = 0 ∨ n.rcl.wait = .expired → t.node.rcl.phase = .done ∧
         t.node.rcl.wait = .stopped ∧ t.node.rcl.bid = .none ∧
         t.node.rcl.outcome = (if 0 < k ∨ n.rcl.flowTaken = true then .fed
           else if o = .lapsed ∨ o = .refused then .lapsed else .yielded) ∧
         t.node.hsq.reservePhase = .resolved ∧
         t.node.hsq.reserveOutcome = t.node.rcl.outcome)) ∧
  (∀ (s : State) (h : NodeId) (k f : Nat) (o : FedOutcome), s.node.running = true →
     s.node.lkc.clash = false → s.node.lkc.link = .joined → s.node.lkc.inFlight = none →
     h ≠ s.node.id → s.node.cfg.holder = some h → k ≤ 8 → f ≤ 8 → s.node.rcl.phase ≠ .requested →
     let n := s.node
     let c := Instr.fedReceived h n.id k f o
     let m := n.heard
     let mass := n.apl.m + k * n.cfg.mr
     let apl := if (n.hsq.hall = .discharging ∨ n.hsq.hall = .soak) ∧ n.apl.stage ≠ .none ∧ 0 < k then
         { n.apl with
           m := mass, resConfirmed := n.apl.resConfirmed + k,
           ca := 10000 * mass * n.apl.s8 / (n.cfg.volume * 1000000000 + mass * n.apl.s8) }
       else n.apl
     let flows : Prop := 0 < k ∧ n.hsq.reservePhase = .opened
     let ends := some (n.now + 1000 * n.cfg.duration)
     let fed := if flows then min 8 (n.rcl.fed + k) else n.rcl.fed
     let taken := { m with
       apl := apl,
       rcl := if flows then { n.rcl with fed := fed, flowTaken := true, flowTimer := ends } else n.rcl,
       hsq := if flows then { n.hsq with duration := ends, elapsed := false } else n.hsq }
     let settled : Prop := n.hsq.hall = .discharging ∧ n.hsq.reservePhase = .resolved ∧
       n.hsq.elapsed = true ∧ ∀ e ∈ n.hsq.firing, e.2 ≠ .pending
     let seeks : Prop := n.rcl.phase = .waitingGrant ∨ n.rcl.phase = .opening
     (¬ settled → ¬ (seeks ∧ n.rcl.n - fed = 0) → endsAs c s taken) ∧
     (seeks → n.rcl.n - fed = 0 → ∃ t, exec c s = .next t ∧ t.node.rcl.phase = .done ∧
       t.node.rcl.fed = fed ∧ t.node.rcl.wait = .stopped ∧ t.node.rcl.bid = .none ∧
       t.node.rcl.outcome = taken.rcl.outcomeByRule ∧ t.node.apl.m = apl.m ∧
       t.node.apl.resConfirmed = apl.resConfirmed ∧
       (n.hsq.reservePhase = .opened → t.node.hsq.reservePhase = .resolved ∧
         t.node.hsq.reserveOutcome = t.node.rcl.outcome))) ∧
  (∀ (s : State) (src grantee : NodeId) (k f : Nat) (o : FedOutcome), s.node.running = true →
     s.node.lkc.clash = false → s.node.lkc.link = .joined → s.node.lkc.inFlight = none →
     src ≠ s.node.id → k ≤ 8 → f ≤ 8 → (s.node.cfg.holder ≠ some src ∨ grantee ≠ s.node.id) →
     endsAs (.fedReceived src grantee k f o) s { s.node with lkc := { s.node.lkc with
       silence := some (s.node.now + 3 * s.node.cfg.period) } })

/-- The reserve wait's expiry: in REQUESTED it is only marked; else the reserve phase ends, with the
bid given up. -/
def Obligations.ReserveWaitExpiryEndsThePhase : Prop :=
  ∀ (s : State) (ends : Time), s.node.running = true → s.node.rcl.wait = .running ends →
    ends ≤ s.node.now →
    (s.node.rcl.phase = .requested → endsAs .reserveWaitExpiry s
      { s.node with rcl := { s.node.rcl with wait := .expired } }) ∧
    (s.node.rcl.phase ≠ .requested →
      ∃ t, exec .reserveWaitExpiry s = .next t ∧ t.node.rcl.phase = .done ∧
        t.node.rcl.wait = .stopped ∧ t.node.rcl.bid = .none ∧
        t.node.rcl.outcome = (if s.node.rcl.flowTaken = true then .fed
          else if s.node.rcl.lastAnswer = .lapsed ∨ s.node.rcl.lastAnswer = .refused then .lapsed
          else .yielded) ∧
        (s.node.hsq.reservePhase = .opened → t.node.hsq.reservePhase = .resolved ∧
          t.node.hsq.reserveOutcome = t.node.rcl.outcome))

/-- The feed timeout in REQUESTED: FEED_LOST, the selector commanded CLOSE at once, the reserve phase
ended; in any other phase the timer only stops (log 31). The flow timer's expiry commands the close that
was waiting for it; without one it only stops. -/
def Obligations.FeedTimeoutAndFlowTimerExpire : Prop :=
  (∀ (s : State) (ends : Time), s.node.running = true → s.node.rcl.feedTimeout = some ends →
     ends ≤ s.node.now →
     (s.node.rcl.phase = .requested →
       ∃ t, exec .feedTimeoutExpiry s = .next t ∧ t.node.flag .feedLost = true ∧
         t.node.rcl.phase = .done ∧ t.node.rcl.bid = .none ∧ t.node.rcl.feedTimeout = none ∧
         t.node.vcu.selector.state ≠ .opening ∧ t.node.vcu.selector.state ≠ .opened ∧
         (s.node.hsq.reservePhase = .opened → t.node.hsq.reservePhase = .resolved)) ∧
     (s.node.rcl.phase ≠ .requested → endsAs .feedTimeoutExpiry s
       { s.node with rcl := { s.node.rcl with feedTimeout := none } })) ∧
  (∀ (s : State) (ends : Time), s.node.running = true → s.node.rcl.flowTimer = some ends →
     ends ≤ s.node.now →
     let m := { s.node with rcl := { s.node.rcl with flowTimer := none, closePending := false } }
     let sel := s.node.vcu.selector
     let travel := some (s.node.now + 1000 * s.node.cfg.selectorTime)
     (s.node.rcl.closePending = false → endsAs .flowTimerExpiry s m) ∧
     (s.node.rcl.closePending = true → sel.state = .opening ∨ sel.state = .opened →
       endsAs .flowTimerExpiry s { m with vcu := { m.vcu with selector :=
         { sel with state := .closing, drive := .driveClose, travel := travel } } }) ∧
     (s.node.rcl.closePending = true → sel.state ≠ .opening → sel.state ≠ .opened →
       endsAs .flowTimerExpiry s m))

/-! ## Vent slots (07_vent_slots.md) -/

/-- In JOINED with VSU active: a VENT of the node's group from another node joins the tail of the vent
queue once; a VENTFREE removes its node; other groups, a VENT of a node in the queue and a VENTFREE of one
that is not change nothing but the silence timer. A removal that brings the own id within the capacity
gives the slot sought. The slot wait's expiry with a slot still sought in AWAIT_SLOT forces the discharge
with VENT_FORCED; where the hall is elsewhere, or no slot is sought, the wait only ends. -/
def Obligations.VentFramesAndSlotWait : Prop :=
  (∀ (s : State) (src : NodeId) (group : Nat), s.node.running = true → s.node.lkc.clash = false →
     s.node.lkc.link = .joined → s.node.lkc.inFlight = none → src ≠ s.node.id → 1 ≤ group →
     group ≤ 15 → s.node.vsuActive = true →
     let n := s.node
     let heard := { n with lkc := { n.lkc with silence := some (n.now + 3 * n.cfg.period) } }
     (group ≠ n.cfg.ventGroup ∨ src ∈ n.vsu.queue → endsAs (.ventReceived src group) s heard) ∧
     (group ≠ n.cfg.ventGroup ∨ src ∉ n.vsu.queue → endsAs (.ventfreeReceived src group) s heard) ∧
     (group = n.cfg.ventGroup →
       (src ∉ n.vsu.queue → ∃ t, exec (.ventReceived src group) s = .next t ∧
         t.node.vsu.queue = n.vsu.queue ++ [src] ∧ t.node.vsu.own = n.vsu.own) ∧
       (src ∈ n.vsu.queue → ∃ t, exec (.ventfreeReceived src group) s = .next t ∧
         t.node.vsu.queue = n.vsu.queue.filter (· ≠ src) ∧ t.node.vsu.own = n.vsu.own ∧
         (n.hsq.hall = .awaitSlot → n.vsu.sought = true → n.id ∈ t.node.vsu.queue →
           (t.node.vsu.queue.findIdx (fun i => i = n.id)) < n.cfg.ventCapacity →
           t.node.hsq.hall = .discharging ∧ t.node.vsu.slotWait = none)))) ∧
  (∀ (s : State) (ends : Time), s.node.running = true → s.node.vsu.slotWait = some ends →
     ends ≤ s.node.now →
     (s.node.hsq.hall = .awaitSlot → s.node.vsu.sought = true →
       ∃ t, exec .slotWaitExpiry s = .next t ∧ t.node.hsq.hall = .discharging ∧
         t.node.flag .ventForced = true ∧ t.node.flag .released = true ∧
         t.node.vsu.sought = false ∧ t.node.vsu.slotWait = none ∧ t.node.vsu.own = s.node.vsu.own ∧
         t.node.vsu.queue = s.node.vsu.queue) ∧
     (s.node.hsq.hall ≠ .awaitSlot ∨ s.node.vsu.sought = false → endsAs .slotWaitExpiry s
       { s.node with vsu := { s.node.vsu with slotWait := none, sought := false } }))

/-! ## The release plan (03_agent_demand_and_the_release_plan.md) -/

/-- The demand figures over the configured ranges: W is the least whole number not below
V 10^9 Cd / (S8 (10000 - Cd)), Wd the least not below W D / 100, with their bounds; Ca is the greatest
whole number not above its quotient, below 10000, and a hall that receives Wd reads Ca at or above Cd. -/
def Obligations.DemandFiguresAreRoundedAsStated : Prop :=
  ∀ V Cd D S8 m : Nat, 10 ≤ V → V ≤ 30000 → 300 ≤ Cd → Cd ≤ 2000 → 100 ≤ D → D ≤ 150 →
    100000 ≤ S8 → S8 ≤ 67000000 →
    let num := V * 10 ^ 9 * Cd
    let den := S8 * (10000 - Cd)
    let W := baseMass V Cd S8
    let Wd := designMass W D
    let Ca := achieved m S8 V
    num ≤ 6 * 10 ^ 16 ∧ 800000000 ≤ den ∧ den ≤ 649900000000 ∧
    num ≤ W * den ∧ (W - 1) * den < num ∧ 1 ≤ W ∧ W ≤ 75000000 ∧
    W * D ≤ 100 * Wd ∧ 100 * (Wd - 1) < W * D ∧ (D = 100 → Wd = W) ∧ Wd ≤ 112500000 ∧
    Ca * (V * 10 ^ 9 + m * S8) ≤ 10000 * m * S8 ∧ 10000 * m * S8 < (Ca + 1) * (V * 10 ^ 9 + m * S8) ∧
    Ca < 10000 ∧ (m = 0 → Ca = 0) ∧ (Wd ≤ m → Cd ≤ Ca)

/-- The plan at an entry to COUNTDOWN, shown at a manual release in NORMAL mode: the record is replaced
as a whole, from the temperature (clamped to Tmin and Tmax, or Tmin by default with TEMP_DEFAULT), the
exact S8, the figures rounded up, the READY HALL channels, and the reserve groups for the shortfall, for
which a BID is queued or held. -/
def Obligations.PlanAtConfirmation : Prop :=
  ∀ (s : State) (current since : Nat), s.node.running = true → 120 ≤ current → current < 400 →
    s.node.fiu.station.opRun = some { since := since, done := false } → since + 500 ≤ s.node.now →
    (s.node.hsq.hall = .quiet ∨ s.node.hsq.hall = .alert) → s.node.hsq.mode = .normal →
    0 < s.node.cfg.manualCountdown →
    let n := s.node
    let c := n.cfg
    let known : Prop := n.fiu.temp.status = .ok ∧ n.fiu.temp.value ≠ none
    let v := n.fiu.temp.value.getD 0
    ∃ t, exec (.manualStationSample current) s = .next t ∧ reserveStartsAfresh n t.node ∧
      (let a := t.node.apl
       a.stage = .planned ∧
       (known → v < c.tmin → a.temp = c.tmin ∧ a.source = .clamped ∧ a.tempDefault = false) ∧
       (known → c.tmin ≤ v → c.tmax < v → a.temp = c.tmax ∧ a.source = .clamped ∧
        a.tempDefault = false) ∧
       (known → c.tmin ≤ v → v ≤ c.tmax → a.temp = v ∧ a.source = .sensor ∧ a.tempDefault = false) ∧
       (¬ known → a.temp = c.tmin ∧ a.source = .default ∧ a.tempDefault = true ∧
        t.node.flag .tempDefault = true) ∧
       a.s8 = (1000 * (c.k1 : Int) + (c.k2 : Int) * a.temp).toNat ∧
       a.w = baseMass c.volume c.concentration a.s8 ∧ a.wd = designMass a.w c.factor ∧
       groupsPlanned n a ∧ a.m = 0 ∧ a.ca = 0 ∧ a.ownConfirmed = 0 ∧
       a.resConfirmed = 0 ∧ a.short = false ∧ a.low = false ∧ a.evaluated = false)

/-! ## Plant outputs (08_plant_outputs_and_annunciation.md) -/

/-- Every step keeps the outputs as their inputs call for: the sounder's stage and pattern, strobe,
sign, relays and contacts by hall state, EPO request, trouble contact and ATTN, and every output
de-energised outside RUN. -/
def Obligations.EveryStepDrivesTheOutputsByTheirInputs : Prop :=
  ∀ s t : State, outputLaw s.node → step s = .next t → outputLaw t.node

/-- One supervision read completes in every state of RUN: a read during the settle time is stored and not
counted; a counted OPEN or SHORT read puts the output into fault once the fault run has lasted 1000 ms, with
OUTPUT_FAULT, a counted NORMAL read takes it out, with fault kind none, once the recovery run has. With EPO
enable OFF a read of the EPO request leaves its record, and every output's but for settle times, as they
were, and with the outputs as their inputs call for the whole plant record. -/
def Obligations.SupervisionReadCountsTheRuns : Prop :=
  ∀ (s : State) (o : SupOutput) (cls : SupClass), s.node.running = true →
    let n := s.node
    let r := n.pou.sup.get (supIdx o)
    let bad : Prop := cls ≠ .normal
    let enters : Prop := r.settle = none ∧ bad ∧ r.inFault = false ∧
      ∃ t, r.faultRun = some t ∧ t + 1000 ≤ n.now
    let leaves : Prop := r.settle = none ∧ ¬ bad ∧ r.inFault = true ∧
      ∃ t, r.recRun = some t ∧ t + 1000 ≤ n.now
    let c := Instr.supervisionRead o cls
    let settled := fun x : SupRec => { x with settle := none }
    ∃ t, exec c s = .next t ∧ t.pending = s.pending ∧ t.snapshot = s.snapshot ∧
      (∀ p, p ≠ o → settled (t.node.pou.sup.get (supIdx p)) = settled (n.pou.sup.get (supIdx p))) ∧
      (¬ enters ∨ (o = .epo ∧ n.cfg.epoEnable = false) → t.node.bare = n.bare) ∧
      (o = .epo → n.cfg.epoEnable = false →
        settled (t.node.pou.sup.get (supIdx o)) = settled r ∧
        (outputLaw n → t.node.pou = n.pou)) ∧
      (o ≠ .epo ∨ n.cfg.epoEnable = true →
        (enters → t.node.bare = (n.setFlag .outputFault).bare) ∧
        (let r' := t.node.pou.sup.get (supIdx o)
         r'.cls = some cls ∧ r'.readAt = n.now + 100 ∧
         (r'.inFault = true ↔ enters ∨ (r.inFault = true ∧ ¬ leaves)) ∧
         (r.settle ≠ none → r'.faultRun = r.faultRun ∧ r'.recRun = r.recRun ∧ r'.kind = r.kind) ∧
         (r.settle = none → bad → r'.recRun = none ∧
          r'.faultRun = (if r.inFault = true then some (r.faultRun.getD n.now)
            else match r.faultRun with
              | none => some n.now
              | some t => if t + 1000 ≤ n.now then none else some t) ∧
          r'.kind = (if r'.inFault = true then
              some (if cls = .openLine then LineFault.openLoop else .shortLoop)
            else r.kind)) ∧
         (r.settle = none → ¬ bad → r'.faultRun = none ∧
          (leaves → r'.recRun = none ∧ r'.kind = none) ∧
          (r'.inFault = true → r'.recRun = some (r.recRun.getD n.now) ∧ r'.kind = r.kind) ∧
          (r.inFault = false → r'.recRun = r.recRun ∧ r'.kind = r.kind))))

/-- The end of a settle time stops it, and the end of a sounder phase swaps ON and OFF and starts the
phase time anew: 1.0 s in stage 1, 0.25 s in stage 2. No other output changes. -/
def Obligations.SettleAndSounderPhaseEnd : Prop :=
  ∀ (s : State) (ends : Time), s.node.running = true → outputLaw s.node → ends ≤ s.node.now →
    let n := s.node
    (∀ o, (n.pou.sup.get (supIdx o)).settle = some ends →
      endsAs (.settleTimeExpiry o) s n ∧
      ∃ t, exec (.settleTimeExpiry o) s = .next t ∧ t.node.pou = { n.pou with
        sup := n.pou.sup.set (supIdx o) { n.pou.sup.get (supIdx o) with settle := none } }) ∧
    (n.pou.patternEnd = some ends →
      endsAs .sounderPhaseExpiry s n ∧
      ∃ t, exec .sounderPhaseExpiry s = .next t ∧ t.node.pou = { n.pou with
        patternOn := !n.pou.patternOn,
        patternEnd := match n.pou.stage with
          | .stage1 => some (n.now + 1000) | .stage2 => some (n.now + 250)
          | .off => none | .stage3 => none })

/-! ## Resets, LOAD and the store (09_configuration_store_and_start_up.md) -/

/-- A power-on, the reset line held for 100 us or longer and let go, and a RESTART taken in RUN with the
store idle start every record at its value after reset and keep the rows. A supply below its threshold, and
a reset line held on, hold the part with its records so from that moment (logs 36, 47), with the cause that
began the reset, until neither holds it; a shorter assertion of the reset line changes nothing. The straps
are an operand of the event that ends the cause (log 5). Shown after it: the values after reset of each
block's record; where the spec gives a field its value only in LOAD, VALIDATE or RUN it is the model's
choice (log 7), the hall QUIET before row 12 is read included, and so is that no driver draws current of its
own accord then (log 52). -/
def Obligations.ResetsStartEveryRecordAfresh : Prop :=
  ∀ s : State,
    let n := s.node
    let fresh := fun (straps : NodeId) (cause : ResetCause) =>
      Node.start n.now n.free n.cfs.rows straps cause
    let begun := fun (straps : NodeId) (cause : ResetCause) =>
      { s with node := fresh straps cause, snapshot := fresh straps cause }
    let inReset := fun cause : ResetCause => if n.held = true then n else fresh n.id cause
    (∀ straps, n.held = false → exec (.powerOn straps) s = .next (begun straps .power)) ∧
    (∀ straps, n.supplyLow = true → n.lineHeld = false →
      exec (.powerOn straps) s = .next (begun straps n.cfs.cause)) ∧
    (∀ straps, n.lineHeld = true →
      exec (.powerOn straps) s = .next { s with node := { n with supplyLow := false } }) ∧
    exec .supplyBelowThreshold s = .next { s with
      node := { inReset .power with supplyLow := true } } ∧
    (∀ micros straps, n.lineHeld = false →
      (micros < 100 → exec (.resetLine micros (some straps)) s = .next s ∧
        exec (.resetLine micros none) s = .next s) ∧
      (100 ≤ micros → n.supplyLow = false →
        exec (.resetLine micros (some straps)) s = .next (begun straps .line)) ∧
      (100 ≤ micros → n.supplyLow = true → exec (.resetLine micros (some straps)) s = .next s) ∧
      (100 ≤ micros → exec (.resetLine micros none) s = .next { s with
        node := { inReset .line with lineHeld := true } })) ∧
    (∀ micros straps, n.lineHeld = true →
      exec (.resetLine micros none) s = .next s ∧
      (n.supplyLow = true → exec (.resetLine micros (some straps)) s = .next { s with
        node := { n with lineHeld := false } }) ∧
      (n.supplyLow = false →
        exec (.resetLine micros (some straps)) s = .next (begun straps n.cfs.cause))) ∧
    (∀ straps, n.running = true → n.cfs.busy = none → n.svp.transaction = .addressedWrite →
      n.svp.expectIndex = false → n.svp.nacked = false → n.svp.index = 0xB5 →
      exec (.restart straps) s = .next (begun straps .command)) ∧
    (∀ straps cause, let f := fresh straps cause
      f.now = n.now ∧ f.cfs.rows = n.cfs.rows ∧ f.held = false ∧ f.cfs.phase = .load ∧
      f.cfs.nodeId = straps ∧ f.cfs.cause = cause ∧ f.cfs.busy = none ∧
      f.cfs.releasePending = none ∧ f.cfs.configPending = false ∧ f.cfs.findings = [] ∧
      (∀ r, f.cfs.rowResult.get r = none) ∧ f.svp.flags = 0 ∧
      f.svp.autoSnap = true ∧ f.svp.transaction = .idle ∧ f.svp.result = .none ∧ f.svp.count = 0 ∧
      f.hsq.hall = .quiet ∧ f.hsq.countdown = .off ∧ f.hsq.cause = .none ∧ f.apl.stage = .none ∧
      f.apl.m = 0 ∧ f.fiu.zoneA.latched = false ∧ f.fiu.zoneB.latched = false ∧
      f.fiu.key.delivered = .isolate ∧ f.fiu.hold.delivered = .released ∧
      f.vcu.queue = [] ∧ f.vcu.outputOn = none ∧ f.vcu.deferral = .inactive ∧
      f.vcu.selector.drive = .off ∧ f.lkc.link = .listen ∧ f.lkc.clash = false ∧
      f.lkc.badFrames = 0 ∧ f.lkc.outbox = Outbox.empty ∧ (∀ i, (f.peer i).present = false) ∧
      f.rva = Rva.start ∧ f.rva.bids = [] ∧ f.rcl.bid = .none ∧ f.rcl.phase = .idle ∧
      f.vsu.queue = [] ∧ f.vsu.own = .none ∧ f.pou.stage = .off ∧ f.pou.hvac = false ∧
      f.pou.troubleClosed = false ∧ f.pou.attn = false)

/-- LOAD of a part just reset. Taken up to a row it stays in LOAD, or with all thirteen read in VALIDATE,
with the results so far and nothing begun, and goes on to the same end as LOAD at once (log 49). To its end,
with neither zone line in ALARM: the rows' results, each of the nine checks' finding, mode and working
configuration, the release record and the hall state that row 12 gives, the first reading of every channel,
of the selector, the key, the temperature and the hall pressure, and the start of the link. The rows that
DIGEST and HOLDER_WITHOUT_BANK name are the model's choice (log 23), and so are the bits that have flipped
before the rows are read as an operand of LOAD (log 8) and the fields no block uses in FALLBACK (log 24).
LOAD's reading of row 12, and not VALIDATE's end, sets the release record and the hall state (log 51). -/
def Obligations.LoadJudgesTheRowsAndEntersRun : Prop :=
  ∀ (s : State) (i : LoadInputs) (now free : Nat) (rows : Vector Row 13) (id : NodeId)
    (cause : ResetCause), s.node = Node.start now free rows id cause →
    let rows' := (flipRows i.flips s.node).cfs.rows
    let l : Loaded := Vector.ofFn (fun r => ((rows'.get r).read).2)
    let normalKey : Prop := i.keyNormal = true ∧ i.keyIsolate = false
    (i.upTo ≤ 13 → ∃ a, exec (.load i) s = .next a ∧ a.pending = s.pending ∧
      a.snapshot = s.snapshot ∧ a.node.running = false ∧
      a.node.cfs.phase = (if i.upTo = 13 then .validate else .load) ∧ a.node.cfs.rows = rows' ∧
      (∀ r : RowId, a.node.cfs.rowResult.get r =
        if r.val < i.upTo then some ((rows'.get r).read).1 else none) ∧
      a.node.cfs.findings = [] ∧
      (a.node.flag .secCorrected = true ↔
        ∃ r : RowId, r.val < i.upTo ∧ ((rows'.get r).read).1 = .corrected) ∧
      (a.node.pou.attn = true ↔
        a.node.flag .secCorrected = true ∨ a.node.flag .releaseRowLost = true) ∧
      (i.upTo < 13 → a.node.hsq = s.node.hsq ∧ a.node.cfs.release = s.node.cfs.release ∧
        a.node.cfs.releaseTrouble = false ∧ a.node.flag .releaseRowLost = false) ∧
      (i.upTo = 13 → match l.get 12 with
        | none => a.node.hsq = { s.node.hsq with hall := .spent } ∧
            a.node.cfs.release.state = .unreadable ∧ a.node.cfs.releaseTrouble = true ∧
            a.node.flag .releaseRowLost = true
        | some d => a.node.cfs.releaseTrouble = false ∧ a.node.flag .releaseRowLost = false ∧
            a.node.cfs.release = {
              state := if d.get 0 = 0 then ReleaseState.clear else .released, hallId := le2 d 1,
              wd := le2 d 3 + 65536 * le2 d 5, nOwn := byte1 d 7, nRes := byte1 d 8 } ∧
            a.node.hsq = { s.node.hsq with hall := if d.get 0 = 0 then .quiet else .spent }) ∧
      exec (.load { i with upTo := 14, flips := [] }) a = exec (.load { i with upTo := 14 }) s) ∧
    (13 < i.upTo → ¬ (120 ≤ i.zoneA ∧ i.zoneA < 400) → ¬ (120 ≤ i.zoneB ∧ i.zoneB < 400) →
    ∃ t, exec (.load i) s = .next t ∧ t.pending = s.pending ∧ t.node.running = true ∧
      t.node.cfs.rows = rows' ∧
      (∀ r, t.node.cfs.rowResult.get r = some ((rows'.get r).read).1) ∧
      (let found := fun (check : Check) (k : Nat) => (check, k) ∈ t.node.cfs.findings
       let sum := ((allRows.take 11).flatMap (fun r =>
         ((l.get r).getD (Vector.replicate 14 0)).toList.map BitVec.toNat)).sum
       (∀ k, found .rowUncorrectable k ↔
         ∃ r : RowId, r.val = k ∧ k ≤ 11 ∧ l.get r = none ∧ ∀ q, q < r → l.get q ≠ none) ∧
       (∀ k, found .format k ↔ k = 0 ∧ ∃ d, l.get 0 = some d ∧ le2 d 0 ≠ 0xC46E) ∧
       (∀ k, found .notCommissioned k ↔ k = 11 ∧ ∃ d, l.get 11 = some d ∧ le2 d 0 = 0) ∧
       (∀ k, found .digest k ↔ k = 11 ∧ (∀ r : RowId, r.val ≤ 11 → l.get r ≠ none) ∧
         ∃ d, l.get 11 = some d ∧ le2 d 2 ≠ sum % 65536) ∧
       (∀ k, found .fieldRange k ↔ firstBad l fieldsFit k) ∧
       (∀ k, found .relation k ↔ firstBad l relationHolds k) ∧
       (∀ k, found .specificVolume k ↔ k = 2 ∧ ∃ d, l.get 2 = some d ∧ 1000 ≤ le2 d 0 ∧
         le2 d 0 ≤ 50000 ∧ le2 d 2 ≤ 20000 ∧ -400 ≤ signedLe2 d 4 ∧ signedLe2 d 4 ≤ 850 ∧
         1000 * (le2 d 0 : Int) + (le2 d 2 : Int) * signedLe2 d 4 < 100000) ∧
       (∀ k, found .roleCount k ↔ k = 4 ∧ ∃ d, l.get 4 = some d ∧
         (8 < (allChans.filter (fun c => roleAt d c = 1)).length ∨
          8 < (allChans.filter (fun c => roleAt d c = 2)).length)) ∧
       (∀ k, found .holderWithoutBank k ↔ k = 4 ∧ ∃ d e, l.get 4 = some d ∧ l.get 10 = some e ∧
         (∀ c, roleAt d c ≤ 2) ∧ byte1 e 0 = id.val ∧ ∀ c, roleAt d c ≠ 2) ∧
       (∀ check, (t.node.cfs.findings.filter (fun f => f.1 = check)).length ≤ 1)) ∧
      (t.node.cfs.findings = [] → t.node.hsq.mode = .normal ∧ t.node.cfs.validation = .valid ∧
        t.node.cfg = cfgOf l) ∧
      (t.node.cfs.findings ≠ [] → t.node.hsq.mode = .fallback ∧
        t.node.cfs.validation = .invalid ∧ t.node.cfg = fallbackOf l ∧
        t.node.flag .configInvalid = true) ∧
      ((∃ r, ((rows'.get r).read).1 = .corrected) → t.node.flag .secCorrected = true) ∧
      (match l.get 12 with
        | none => t.node.cfs.release.state = .unreadable ∧ t.node.hsq.hall = .spent ∧
            t.node.flag .releaseRowLost = true ∧ t.node.cfs.releaseTrouble = true
        | some d =>
          (d.get 0 = 0 → t.node.cfs.release.state = .clear ∧
            t.node.hsq.hall = (if i.keyNormal = true ∧ i.keyIsolate = false then .quiet
              else .lockout)) ∧
          (d.get 0 ≠ 0 → t.node.cfs.release.state = .released ∧ t.node.hsq.hall = .spent)) ∧
      (t.node.fiu.key.delivered = .normal ↔ normalKey) ∧
      t.node.fiu.temp.value = i.temperature ∧ t.node.fiu.press.value = some i.pressure ∧
      (∀ c, (t.node.chan c).role = t.node.cfg.roles.get c ∧
        (t.node.chan c).pressure = min (i.cylinders.get c) 150 ∧
        (t.node.chan c).state = (if t.node.cfg.roles.get c = .unused then .isolated
          else if t.node.cfg.fullThreshold ≤ min (i.cylinders.get c) 150 then
            (if i.keyNormal = true ∧ i.keyIsolate = false then .ready else .isolated)
          else if 10 ≤ min (i.cylinders.get c) 150 then .low else .spent)) ∧
      t.node.vcu.selector.state = (match i.selectorOpen, i.selectorClosed with
        | false, true => .closed | true, true => .jammed | _, false => .closing) ∧
      t.node.lkc.link = .listen ∧ t.node.lkc.outbox.standing = true ∧
      t.node.lkc.silence = some (now + 3 * t.node.cfg.period) ∧
      t.node.lkc.status = some (now + t.node.cfg.period))

/-- A part whose row 12 is void (as it is from every entry to DISCHARGING to the end of its write), with
the reset line not asserted, is SPENT after the supply fails, rises again and LOAD runs, whatever the inputs
read then. -/
def Obligations.VoidReleaseRowRestartsSpent : Prop :=
  ∀ (s : State) (straps : NodeId) (i : LoadInputs), (s.node.row 12).void = true →
    s.node.lineHeld = false → 13 < i.upTo →
    ∃ a b t, exec .supplyBelowThreshold s = .next a ∧ exec (.powerOn straps) a = .next b ∧
      exec (.load i) b = .next t ∧ t.node.running = true ∧ t.node.hsq.hall = .spent ∧
      t.node.cfs.release.state = .unreadable ∧ t.node.flag .releaseRowLost = true ∧
      t.node.cfs.releaseTrouble = true ∧ (s.node.supplyLow = false → t.node.cfs.cause = .power)

/-- The completion of a row write: the new data are stored, a waiting release write starts, and the
service port and the sequencer learn of it: start clears, the result becomes DONE when no later command
was taken, and an erase clears the release record and leaves SPENT. -/
def Obligations.RowWriteCompletes : Prop :=
  ∀ (s : State) (w : RowWrite), s.node.running = true → s.node.cfs.busy = some w →
    (s.node.now < w.ends → endsAs .storeWriteCompletion s s.node) ∧
    (w.ends ≤ s.node.now →
      let n := s.node
      let rows := n.cfs.rows.set w.row { data := w.data, void := false, flips := [] }
      let told := { n.svp with
        result := if n.svp.awaiting = some n.svp.count then .done else n.svp.result, awaiting := none }
      let stored := { n with cfs := { n.cfs with rows := rows, busy := none } }
      (n.cfs.releasePending = none → w.kind = .release → endsAs .storeWriteCompletion s stored) ∧
      (n.cfs.releasePending = none → w.kind = .config → endsAs .storeWriteCompletion s
        { stored with svp := { told with startBit := false } }) ∧
      (∀ d, n.cfs.releasePending = some d → w.kind = .config → endsAs .storeWriteCompletion s
        { n with
          svp := { told with startBit := false },
          cfs := { n.cfs with
            rows := rows.set 12 { rows.get 12 with void := true }, releasePending := none,
            busy := some { row := 12, kind := .release, data := d, ends := n.now + 6 } } }) ∧
      (n.cfs.releasePending = none → w.kind = .erase → n.hsq.hall = .spent →
        (n.fiu.key.delivered = .isolate ∨ n.hsq.mode = .fallback ∨ n.hsq.latchedA = false ∨
          n.hsq.latchedB = false) →
        ∃ t, exec .storeWriteCompletion s = .next t ∧ t.node.cfs.rows = rows ∧
          t.node.cfs.busy = none ∧ t.node.cfs.release.state = .clear ∧
          t.node.cfs.releaseTrouble = false ∧
          t.node.svp.result = (if n.svp.awaiting = some n.svp.count then .done else n.svp.result) ∧
          t.node.hsq.hall = (if n.fiu.key.delivered = .isolate then .lockout
            else if n.hsq.latchedA = true ∨ n.hsq.latchedB = true ∨ n.hsq.adjacent = true then .alert
            else .quiet)))

/-- Every step keeps it: the hall is in DISCHARGING, SOAK or SPENT exactly while the release record is
not CLEAR, and a release erase is in flight only in SPENT. -/
def Obligations.EveryStepKeepsTheReleaseRecord : Prop :=
  ∀ s t : State, releaseLaw s.node → step s = .next t → releaseLaw t.node

/-- Every step keeps it: while the key is delivered ISOLATE no valve channel output is commanded on and
the selector neither opens nor is driven open; it is driven open only while it is OPENING; and before
RUN no output is on. -/
def Obligations.EveryStepKeepsTheKeyLaw : Prop :=
  ∀ s t : State, keyLaw s.node → driveLaw s.node → quietLaw s.node → step s = .next t →
    keyLaw t.node ∧ driveLaw t.node ∧ quietLaw t.node

/-- Every step keeps the port's index, its pointers and its command count, and the bad-frame counter,
in their ranges. -/
def Obligations.EveryStepKeepsThePortInRange : Prop :=
  ∀ s t : State, portLaw s.node → step s = .next t → portLaw t.node

/-- The laws that every step keeps hold at reset. -/
def Obligations.TheLawsHoldAtReset : Prop :=
  outputLaw State.reset.node ∧ releaseLaw State.reset.node ∧ keyLaw State.reset.node ∧
    driveLaw State.reset.node ∧ quietLaw State.reset.node ∧ portLaw State.reset.node

/-- AWAIT_SLOT is left for DISCHARGING only with a slot held, at the slot wait's expiry with VENT_FORCED
set, or with the link LOST and ISOLATED_RELEASE set. -/
def Obligations.AwaitSlotEndsWithASlotOrAFlag : Prop :=
  ∀ (c : Instr) (s t : State), s.node.running = true → s.node.hsq.hall = .awaitSlot →
    exec c s = .next t → t.node.hsq.hall = .discharging →
    t.node.holdsSlot = true ∨ (c = .slotWaitExpiry ∧ t.node.flag .ventForced = true) ∨
      (t.node.lkc.link = .lost ∧ t.node.flag .isolatedRelease = true)

/-! ## Frames (11_frame_row_and_register_layouts.md) -/

/-- The bytes of every frame whose fields lie in their ranges are read back as that frame. -/
def Obligations.FrameBytesReadBackAsTheFrame : Prop :=
  ∀ f : Frame, f.valid = true → parse (encode f) = some f

/-! ## The service port (10_service_port.md) -/

/-- A start condition and an address, and the index byte: the port answers at 0x60 plus the node id
alone; a write awaits an index; a read takes a snapshot when auto-snap is set; an index byte above 0xFC
is not acknowledged and makes the result REFUSED. -/
def Obligations.PortTakesAddressAndIndex : Prop :=
  ∀ s : State, s.node.held = false →
    let n := s.node
    let own : BitVec 7 := BitVec.ofNat 7 (0x60 + n.id.val)
    let with' := fun v : Svp => { s with node := { n with svp := v } }
    let reading := { n.svp with
      transaction := .addressedRead, expectIndex := false, nacked := false, out := [] }
    (∀ address read, address ≠ own → exec (.startCondition address read) s =
      .next (with' { n.svp with
        transaction := .idle, expectIndex := false, nacked := false, out := [] })) ∧
    exec (.startCondition own false) s = .next (with' { n.svp with
      transaction := .addressedWrite, expectIndex := true, nacked := false, out := [] }) ∧
    (n.svp.autoSnap = false → exec (.startCondition own true) s = .next (with' reading)) ∧
    (n.svp.autoSnap = true → exec (.startCondition own true) s =
      .next { with' { reading with counterTaken := false } with
        snapshot := { n with svp := { reading with counterTaken := false } } }) ∧
    (∀ byte : Byte,
      let e := Instr.indexWrite byte
      let takes : Prop := n.svp.transaction = .addressedWrite ∧ n.svp.expectIndex = true ∧
        n.svp.nacked = false
      (¬ takes → exec e s = .next s) ∧
      (takes → byte.toNat ≤ 0xFC →
        endsAs e s { n with svp := { n.svp with index := byte.toNat, expectIndex := false } }) ∧
      (takes → 0xFC < byte.toNat →
        endsAs e s { n with svp := { n.svp with nacked := true, result := .refused } }))

/-- Reading: the read address opens a read from the current index; each byte after it is the snapshot's
byte there, and the index moves on, turning back at the end of a window, whose pointer advances. The
bad-frame counter's last byte takes the snapshot's count from the live counter, once a snapshot; a
window's last byte, read on to, moves its pointer. How many bytes READ_ADDRESS, WINDOW_RECORD_READ and
BAD_FRAME_COUNTER_READ take is the model's choice of their operands (log 26). Every byte of a snapshot
shows its fields by the places and codes of R184 and R185, and a window the record at its live pointer. The
model's choices: a time's part unit either way, bits of an absent field without a code left free, a valid
byte of 1 (log 25); in FALLBACK the reserve holder byte 0 (log 24); the release
record's group counts modulo 16 (log 53); the low byte of the reserve groups confirmed, the low three of m
(log 41). -/
def Obligations.PortReadsTheSnapshot : Prop :=
  (∀ s : State, s.node.held = false →
    (∀ k, ∃ t, exec (.readAddress k) s = .next t ∧ t.pending = s.pending ∧
      t.node.svp.out.length = k) ∧
    (exec (.readAddress 0) s =
      exec (.startCondition (BitVec.ofNat 7 (0x60 + s.node.id.val)) true) s) ∧
    (∀ k t, exec (.readAddress k) s = .next t →
      let v := t.node.svp
      let counter : Prop := v.index = 0x71 ∧ v.counterTaken = false
      ∃ u, exec (.readAddress (k + 1)) s = .next u ∧
        u.node.svp.out = v.out ++ [viewByte t.snapshot v.pointers v.index] ∧
        (∀ w, v.index = windowLast w → u.node.svp.index = windowBase w + 1 ∧
          u.node.svp.pointers.get w = (v.pointers.get w + 1) % windowCap w ∧
          ∀ x, x ≠ w → u.node.svp.pointers.get x = v.pointers.get x) ∧
        ((∀ w, v.index ≠ windowLast w) → u.node.svp.index = v.index + 1 ∧
          u.node.svp.pointers = v.pointers) ∧
        (counter → u.node.lkc.badFrames = t.node.lkc.badFrames - t.snapshot.lkc.badFrames ∧
          u.snapshot.lkc.badFrames = 0 ∧ u.node.svp.counterTaken = true) ∧
        (¬ counter → u.node.lkc = t.node.lkc ∧ u.snapshot = t.snapshot)) ∧
    (s.node.svp.transaction = .addressedRead →
      (s.node.svp.index = 0x70 ∨ s.node.svp.index = 0x71 →
        ∃ t, exec .badFrameCounterRead s = .next t ∧ t.node.svp.index = 0x72 ∧
          t.node.svp.counterTaken = true ∧
          t.node.lkc.badFrames = (if s.node.svp.counterTaken = true then s.node.lkc.badFrames
            else s.node.lkc.badFrames - s.snapshot.lkc.badFrames)) ∧
      (∀ w, windowBase w < s.node.svp.index → s.node.svp.index ≤ windowLast w →
        ∃ t, exec .windowRecordRead s = .next t ∧ t.node.svp.index = windowBase w + 1 ∧
          t.node.svp.pointers.get w = (s.node.svp.pointers.get w + 1) % windowCap w ∧
          t.node.lkc = s.node.lkc ∧ t.snapshot = s.snapshot)) ∧
    (s.node.svp.transaction ≠ .addressedRead →
      exec .windowRecordRead s = .next s ∧ exec .badFrameCounterRead s = .next s)) ∧
  (∀ (n : Node) (pointers : Vector Nat 8),
    let b := viewByte n pointers
    let two := fun k => b k + 256 * b (k + 1)
    let code := fun (bits : List Bool) => bits.foldr (fun x acc => x.toNat + 2 * acc) 0
    let zone := fun z : ZoneRec =>
      (match z.cls with
        | none => 0 | some .openLoop => 0 | some .normal => 1 | some .alarm => 2
        | some .shortLoop => 3) +
      (match z.kind with | some .shortLoop => 4 | some .openLoop => 0 | none => 0) +
      (match z.lastReset with | .none => 0 | .cleared => 8 | .refused => 16 | .notLatched => 24)
    let outputs := [SupOutput.sounder, .strobe, .sign, .hvac, .damper, .epo, .trouble, .released]
    let sup := fun o : SupOutput => n.pou.sup.get (supIdx o)
    -- status
    b 0x00 = (match n.hsq.hall with
      | .quiet => 0 | .alert => 1 | .countdown => 2 | .hold => 3 | .awaitSlot => 4
      | .discharging => 5 | .soak => 6 | .spent => 7 | .lockout => 8) ∧
    b 0x01 = (match n.hsq.mode with | .normal => 0 | .fallback => 1) +
      (match n.lkc.link with | .listen => 0 | .joined => 2 | .lost => 4) + 8 * n.lkc.clash.toNat +
      (match n.cfs.phase with | .load => 0 | .validate => 16 | .run => 32) +
      (match n.cfs.cause with | .power => 0 | .line => 64 | .command => 128) ∧
    b 0x02 = (n.remaining + 999) / 1000 ∧
    b 0x03 = code [n.hsq.latchedA, n.hsq.latchedB, n.hsq.faultA, n.hsq.faultB, n.hsq.adjacent,
      n.fiu.zoneA.isolated, n.fiu.zoneB.isolated, n.hsq.manualOverride] ∧
    b 0x04 = (match n.hsq.cause with | .none => 0 | .crossZone => 1 | .degraded => 2 | .manual => 3) +
      (match n.hsq.reservePhase with | .none => 0 | .opened => 4 | .resolved => 8) +
      (match n.hsq.reserveOutcome with
        | .none => 0 | .fed => 16 | .yielded => 32 | .lapsed => 48 | .lost => 64) +
      128 * n.cfs.configPending.toNat ∧
    b 0x05 = n.cfs.nodeId.val + 16 * n.hsq.epoReached.toNat ∧
    b 0x06 = zone n.fiu.zoneA ∧ b 0x07 = zone n.fiu.zoneB ∧
    b 0x08 = (match n.fiu.station.cls with
        | none => 0 | some .normal => 0 | some .operated => 1 | some .fault => 2) +
      4 * n.fiu.station.fault.toNat +
      (match n.fiu.hold.cls with
        | none => 0 | some .released => 0 | some .operated => 8 | some .fault => 16) +
      (match n.fiu.hold.delivered with | .released => 0 | .operated => 32) +
      64 * n.fiu.hold.fault.toNat ∧
    b 0x09 = (match n.fiu.key.cls with
        | none => 0 | some .normal => 0 | some .isolate => 1 | some .fault => 2) +
      (match n.fiu.key.delivered with | .normal => 0 | .isolate => 4) +
      8 * n.fiu.key.fault.toNat ∧
    b 0x0A = code [n.fiu.zoneA.fault, n.fiu.zoneB.fault, n.fiu.station.fault, n.fiu.hold.fault,
      n.fiu.key.fault, decide (n.cfs.phase = .run ∧ n.fiu.temp.status ≠ .ok),
      decide (n.cfs.phase = .run ∧ n.fiu.press.status ≠ .ok),
      decide (∃ c, (n.chan c).role ≠ .unused ∧
        ((n.chan c).state = .low ∨ (n.chan c).state = .failed))] ∧
    b 0x0B % 128 = code [decide (n.vcu.selector.state = .jammed), decide (∃ c, (n.chan c).driveCut = true),
      decide (n.lkc.link = .lost), decide (∃ o ∈ outputs, (sup o).inFault = true),
      decide (n.cfs.phase = .run ∧ n.hsq.mode = .fallback), n.cfs.releaseTrouble] ∧
    (128 ≤ b 0x0B ↔ b 0x0A ≠ 0 ∨ b 0x0B % 128 ≠ 0) ∧ b 0x0B < 256 ∧
    -- sticky flags
    (∀ f k j, (f, k, j) ∈
        ([(.confirmed, 0x1F, 0), (.degradedConfirm, 0x1F, 1), (.holdIgnored, 0x1F, 2),
          (.manualIgnored, 0x1F, 3), (.released, 0x1F, 4), (.ventForced, 0x1F, 5),
          (.isolatedRelease, 0x1F, 6), (.tempDefault, 0x1F, 7)] ++
         [(.short, 0x20, 0), (.low, 0x20, 1), (.cylLow, 0x20, 2), (.pressureForced, 0x20, 4),
          (.pressureSensorFault, 0x20, 5), (.groupFailed, 0x20, 6), (.driveFault, 0x20, 7)] ++
         [(.selectorJam, 0x21, 0), (.linkLost, 0x21, 1), (.idClash, 0x21, 2), (.holderLost, 0x21, 3),
          (.feedLost, 0x21, 4), (.outputFault, 0x21, 5), (.secCorrected, 0x21, 6),
          (.configInvalid, 0x21, 7), (.releaseRowLost, 0x22, 0)] : List (Flag × Nat × Nat)) →
      (b k).testBit j = n.flag f) ∧
    -- valve unit
    b 0x3E = (match n.vcu.outputOn with | some c => c.val | none => 15) +
      (match n.vcu.deferral with | .inactive => 0 | .active => 16 | .waived => 32) ∧
    b 0x3F = (match n.vcu.selector.state with
        | .closed => 0 | .opening => 1 | .opened => 2 | .closing => 3 | .jammed => 4) +
      (match n.vcu.selector.drive with | .off => 0 | .driveOpen => 8 | .driveClose => 16) ∧
    -- reserve client
    b 0x40 = (match n.rcl.bid with | .none => 0 | .held => 1 | .queued => 2 | .placed => 3) +
      (match n.rcl.phase with
        | .idle => 0 | .waitingGrant => 4 | .opening => 8 | .requested => 12 | .done => 16) +
      32 * n.rcl.flowTaken.toNat + 64 * n.rcl.closePending.toNat ∧
    b 0x41 = n.rcl.n + 16 * n.rcl.grantHeard ∧ b 0x42 = n.rcl.asked + 16 * n.rcl.fed ∧
    b 0x43 = (match n.rcl.lastAnswer with
        | .none => 0 | .complete => 1 | .part => 2 | .lapsed => 3 | .refused => 4) +
      (match n.rcl.outcome with
        | .none => 0 | .fed => 8 | .yielded => 16 | .lapsed => 24 | .lost => 32) +
      (match n.rcl.wait with | .stopped => 0 | .running _ => 64 | .expired => 128) ∧
    (∃ x, two 0x44 = x % 65536 ∧ shownIn 1000
      (match n.rcl.wait with | .running ends => ends - n.now | .stopped => 0 | .expired => 0) x) ∧
    (∃ x, two 0x46 = x % 65536 ∧ shownIn 1000 (n.rcl.feedTimeout.elim 0 (· - n.now)) x) ∧
    shownIn 1000 (n.rcl.flowTimer.elim 0 (· - n.now)) (b 0x48) ∧
    -- vent slot unit
    b 0x49 = (match n.vsu.own with | .none => 0 | .held => 1 | .queued => 2 | .placed => 3) +
      4 * n.vsu.sought.toNat + (match n.vsu.status with | .none => 0 | .waiting => 8 | .holding => 16) ∧
    (∃ x, two 0x4A = x % 65536 ∧ shownIn 1000 (n.vsu.slotWait.elim 0 (· - n.now)) x) ∧
    b 0x4C = (if n.cfs.nodeId ∈ n.vsu.queue then n.vsu.queue.findIdx (fun i => i = n.cfs.nodeId)
      else 0xFF) ∧
    -- plant outputs
    b 0x4D = (match n.pou.stage with | .off => 0 | .stage1 => 1 | .stage2 => 2 | .stage3 => 3) +
      4 * n.pou.patternOn.toNat ∧
    b 0x4E = code [n.pou.strobe, n.pou.sign, n.pou.hvac, n.pou.damper, n.pou.epo, n.pou.released,
      n.pou.troubleClosed, n.pou.attn] ∧
    b 0x4F = code (outputs.map (fun o => (sup o).inFault)) ∧
    b 0x50 = code (outputs.map (fun o => decide ((sup o).kind = some .shortLoop))) ∧
    (∀ o, two 0x51 / 4 ^ (supIdx o).val % 4 = match (sup o).cls with
      | none => 0 | some .normal => 1 | some .openLine => 2 | some .shortLine => 3) ∧
    -- configuration store
    (let word := two 0x53 + 65536 * two 0x55
     (∀ r : RowId, word / 4 ^ r.val % 4 = match n.cfs.rowResult.get r with
       | none => 0 | some .clean => 1 | some .corrected => 2 | some .uncorrectable => 3) ∧
     word / 2 ^ 26 = (match n.cfs.release.state with
       | .clear => 0 | .released => 1 | .unreadable => 2) +
       (match n.cfs.validation with | .valid => 0 | .invalid => 4)) ∧
    (∀ check k, (check, k) ∈ [(Check.rowUncorrectable, 0x57), (.format, 0x58), (.notCommissioned, 0x59),
        (.digest, 0x5A), (.fieldRange, 0x5B), (.relation, 0x5C), (.specificVolume, 0x5D),
        (.roleCount, 0x5E), (.holderWithoutBank, 0x5F)] →
      (∀ r, n.cfs.findings.filter (fun f => f.1 = check) = [(check, r)] → b k = r) ∧
      ((∀ f ∈ n.cfs.findings, f.1 ≠ check) → b k = 0xFF)) ∧
    two 0x60 = n.cfs.serial % 65536 ∧ two 0x62 = n.cfs.release.hallId % 65536 ∧
    two 0x64 + 65536 * two 0x66 = n.cfs.release.wd % 2 ^ 32 ∧
    b 0x68 = n.cfs.release.nOwn % 16 + 16 * (n.cfs.release.nRes % 16) ∧
    b 0x69 = (match n.cfs.busy with
        | none => 0
        | some w => 1 + 2 * w.row.val + (match w.kind with | .config => 32 | .erase => 32 | .release => 64)) +
      128 * n.cfs.releasePending.isSome.toNat ∧
    b 0x6A = (match n.cfs.busy with | none => 0 | some w => w.ends - n.now) ∧
    -- link
    b 0x6B = code [false, n.lkc.outbox.fed.isSome, n.lkc.outbox.wayopen.isSome,
      n.lkc.outbox.yieldTo.isSome, n.lkc.outbox.ventfree.isSome, n.lkc.outbox.bid.isSome,
      n.lkc.outbox.vent.isSome, n.lkc.outbox.standing] ∧
    b 0x6C = (match n.lkc.inFlight with
      | none => 0 | some (.fed _ _ _ _ _) => 1 | some (.wayopen _ _ _) => 2 | some (.yield _ _) => 3
      | some (.ventfree _ _) => 4 | some (.bid _ _ _ _) => 5 | some (.vent _ _) => 6
      | some (.standing _ _) => 7) ∧
    shownIn 100 (n.lkc.listen.elim 0 (· - n.now)) (b 0x6D) ∧
    shownIn 100 (n.lkc.silence.elim 0 (· - n.now)) (b 0x6E) ∧
    shownIn 100 (n.lkc.placement.elim 0 (· - n.now)) (b 0x6F) ∧
    two 0x70 = n.lkc.badFrames % 65536 ∧
    -- command area
    b 0xB4 = n.svp.param.toNat ∧ b 0xB5 = n.svp.code.toNat ∧
    b 0xB6 = (match n.svp.command with
      | .none => 0 | .snap => 1 | .alarmReset => 2 | .clearRelease => 3 | .restart => 4
      | .storeReadRow => 5 | .storeWriteRow => 6) ∧
    b 0xB7 = (match n.svp.result with
      | .none => 0 | .accepted => 1 | .done => 2 | .busy => 3 | .refused => 4) ∧
    b 0xB8 = n.svp.count) ∧
  (∀ (n : Node) (pointers : Vector Nat 8),
    let b := viewByte n pointers
    let two := fun k => b k + 256 * b (k + 1)
    let three := fun k => two k + 65536 * b (k + 2)
    let four := fun k => two k + 65536 * two (k + 2)
    let code := fun (bits : List Bool) => bits.foldr (fun x acc => x.toNat + 2 * acc) 0
    let signed := fun x : Int => (x % 65536).toNat
    let idBits := fun i : Option NodeId => match i with | some x => x.val + 16 | none => 0
    let clsBit := fun k : BidClass => match k with | .ordinary => 0 | .elevated => 1
    let roleCode := fun r : Role => match r with | .unused => 0 | .hall => 1 | .reserve => 2
    let a := n.apl
    let c := n.cfg
    -- measurements
    b 0x0C = (match n.fiu.temp.status with | .ok => 0 | .outOfRange => 1 | .openCircuit => 2) ∧
    (∀ x, n.fiu.temp.value = some x → two 0x0D = signed x) ∧
    b 0x0F = (match n.fiu.press.status with | .ok => 0 | .fault => 1) ∧
    (∀ x, n.fiu.press.value = some x → two 0x10 = signed x) ∧
    (∀ d : ChanId, b (0x12 + d.val) = (n.chan d).pressure) ∧
    b 0x1E = (match n.vcu.selector.reading with
      | .closed => 0 | .opened => 1 | .moving => 2 | .fault => 3) ∧
    -- plan
    b 0x23 = (match a.stage with | .none => 0 | .planned => 1 | .replanned => 2) +
      (match a.source with | .sensor => 0 | .clamped => 4 | .default => 8) + 16 * a.evaluated.toNat ∧
    b 0x24 = code [a.short, a.low, a.tempDefault, a.noReserve] ∧ two 0x25 = signed a.temp ∧
    four 0x27 = a.s8 % 2 ^ 32 ∧ four 0x2B = a.w % 2 ^ 32 ∧ four 0x2F = a.wd % 2 ^ 32 ∧
    b 0x33 = a.readyCount + 16 * a.nOwn ∧ b 0x34 = a.nRes + 16 * a.ownConfirmed ∧
    b 0x35 = a.resConfirmed % 256 ∧ three 0x36 = a.wp % 2 ^ 24 ∧ three 0x39 = a.m % 2 ^ 24 ∧
    two 0x3C = a.ca % 65536 ∧
    -- working configuration
    (∀ k v, (k, v) ∈
        ([(0x72, c.hallId), (0x74, c.period), (0x76, c.volume), (0x78, c.concentration),
          (0x7B, c.k1), (0x7D, c.k2), (0x7F, signed c.tmin), (0x81, signed c.tmax), (0x83, c.mh),
          (0x85, c.mr)] ++
         [(0x8D, c.degradedDelay), (0x92, c.soak), (0x94, c.verifyA), (0x96, c.verifyB),
          (0x98, c.neighbours), (0x9C, c.slotWait), (0x9F, c.pulse), (0xA1, c.stagger),
          (0xA3, c.window), (0xA5, c.pressureLimit), (0xA7, c.resumeThreshold)] ++
         [(0xAD, c.reserveWait), (0xAF, c.feedTimeout), (0xB1, c.grantHold)] : List (Nat × Nat)) →
      two k = v % 65536) ∧
    (∀ k v, (k, v) ∈
        ([(0x8A, c.countdown), (0x8B, c.manualCountdown), (0x8C, c.holdRestart),
          (0x8F, c.epoEnable.toNat), (0x90, c.epoLead), (0x91, c.duration), (0x9A, c.ventGroup),
          (0x9B, c.ventCapacity), (0x9E, c.fullThreshold), (0xA9, c.deferLimit),
          (0xAA, c.selectorTime), (0xAC, clsBit c.cls)] : List (Nat × Nat)) → b k = v) ∧
    b 0x7A = c.factor % 256 ∧
    (∀ d : ChanId, three 0x87 / 4 ^ d.val % 4 = roleCode (c.roles.get d)) ∧
    b 0xAB = (match c.holder, n.hsq.mode with
      | some h, _ => h.val | none, .normal => 0xFF | none, .fallback => 0) ∧
    -- control and store access
    b 0xB3 = n.svp.autoSnap.toNat ∧ b 0xB9 = n.svp.rowNumber.toNat ∧
    b 0xBA = (match n.svp.op with | .read => 1 | .write => 2) + 4 * n.svp.enable.toNat +
      8 * n.svp.startBit.toNat ∧
    b 0xBB = (match n.svp.rowResult with
      | none => 0 | some .clean => 1 | some .corrected => 2 | some .uncorrectable => 3) ∧
    (∀ k : Fin 14, b (0xBC + k.val) = (n.svp.buffer.get k).toNat) ∧
    -- windows
    (∀ w k, (w, k) ∈ ([(0, 0xCA), (1, 0xD2), (2, 0xE3), (3, 0xEA), (4, 0xEE), (5, 0xF2), (6, 0xF7),
      (7, 0xFA)] : List (Fin 8 × Nat)) → b k = n.svp.pointers.get w) ∧
    (∀ d : ChanId, pointers.get 0 = d.val → let r := n.chan d
      b 0xCB = 1 ∧
      b 0xCC = roleCode r.role + (match r.state with
        | .ready => 0 | .low => 4 | .committed => 8 | .queued => 12 | .firing => 16 | .spent => 20
        | .failed => 24 | .isolated => 28) + 32 * r.flowSeen.toNat + 64 * r.driveCut.toNat ∧
      b 0xCD = r.pressure ∧
      b 0xCE = idBits r.committedTo +
        (match r.requester with | .none => 0 | .hsq => 32 | .rva => 64) ∧
      b 0xCF = idBits r.feedGrantee ∧ two 0xD0 = r.window.elim 0 (· - n.now) % 65536) ∧
    (∀ i : NodeId, pointers.get 1 = i.val → let p := n.peer i
      b 0xD3 = 1 ∧
      b 0xD4 = (match p.hall with
        | none => 15 | some .quiet => 0 | some .alert => 1 | some .countdown => 2 | some .hold => 3
        | some .awaitSlot => 4 | some .discharging => 5 | some .soak => 6 | some .spent => 7
        | some .lockout => 8) ∧
      (∀ m, p.mode = some m → b 0xD5 = code [p.lockout, p.short, p.low, p.trouble,
        decide (m = .fallback), p.holderPart.isSome, p.present]) ∧
      (p.lastHeard = none → b 0xD6 = 0xFF) ∧
      (∀ x, p.lastHeard = some x → shownIn 100 (n.now - x) (b 0xD6)) ∧
      b 0xD7 = p.ventGroup + (match p.ventStatus with | .none => 0 | .waiting => 16 | .holding => 32) ∧
      b 0xD8 = p.bidHolder.val + 16 * clsBit p.cls ∧ b 0xD9 = p.wanted ∧
      b 0xDA = p.holderPart.elim 0 (fun h => h.ready + 16 * h.lockout.toNat) ∧
      ∀ k : Fin 8, b (0xDB + k.val) = ((p.holderPart.elim [] HolderPart.grants)[k.val]?).elim 0
        (fun g => 16 * g.grantee.val + g.count)) ∧
    (match n.rva.bids[pointers.get 2]? with
      | none => ∀ k < 6, b (0xE4 + k) = 0
      | some e => b 0xE4 = 1 ∧
          b 0xE5 = e.node.val + 16 * clsBit e.cls +
            (match e.taken with | .no => 0 | .waiting => 32 | .running => 64) ∧
          b 0xE6 = e.wanted + 16 * e.fed ∧ b 0xE7 = e.granted + 16 * e.inFeed ∧
          ∃ x, two 0xE8 = x % 65536 ∧ shownIn 1000 (e.hold.elim 0 (· - n.now)) x) ∧
    (match n.rva.feedQueue[pointers.get 3]? with
      | none => ∀ k < 3, b (0xEB + k) = 0
      | some w => b 0xEB = 1 ∧ b 0xEC = w.1.val ∧ b 0xED = w.2) ∧
    (match (n.rva.feed.elim [] Feed.places)[pointers.get 4]? with
      | none => ∀ k < 3, b (0xEF + k) = 0
      | some x => b 0xEF = 1 ∧ b 0xF0 = x.channel.val ∧ b 0xF1 = (match x.status with
          | .pending => 0 | .confirmed => 1 | .failed => 2 | .cancelled => 3)) ∧
    (match n.rva.answers[pointers.get 5]? with
      | none => ∀ k < 4, b (0xF3 + k) = 0
      | some x => b 0xF3 = 1 ∧ b 0xF4 = x.grantee.val ∧ b 0xF5 = x.confirmed + 16 * x.failed ∧
          b 0xF6 = (match x.outcome with
            | .complete => 0 | .part => 1 | .lapsed => 2 | .refused => 3)) ∧
    (match n.vcu.queue[pointers.get 6]? with
      | none => b 0xF8 = 0 ∧ b 0xF9 = 0
      | some d => b 0xF8 = 1 ∧ b 0xF9 = d.val) ∧
    (match n.vsu.queue[pointers.get 7]? with
      | none => b 0xFB = 0 ∧ b 0xFC = 0
      | some i => b 0xFB = 1 ∧ b 0xFC = i.val))

/-- A data byte of a write: in the sticky flags area it clears the flags its one bits name, at a window's
pointer it moves the pointer when below the capacity, at the control index it sets or clears auto-snap,
elsewhere it is stored where the partner may write and refused where it may not. Out of a write
transaction nothing changes. -/
def Obligations.PortTakesDataBytes : Prop :=
  ∀ (s : State) (byte : Byte), s.node.held = false →
    let n := s.node
    let v := n.svp
    let open_ : Prop := v.transaction = .addressedWrite ∧ v.expectIndex = false ∧ v.nacked = false
    let as := fun (c : Instr) (x : Svp) => endsAs c s { n with svp := x }
    let next := { v with index := v.index + 1 }
    let refused := { v with nacked := true, result := .refused }
    (¬ open_ → exec (.stickyFlagClear byte) s = .next s ∧
      exec (.windowPointerWrite byte) s = .next s ∧ exec (.autoSnapWrite byte) s = .next s ∧
      exec (.registerWrite byte) s = .next s ∧ exec .snap s = .next s ∧
      exec .alarmReset s = .next s ∧ exec .clearRelease s = .next s ∧
      (∀ straps, exec (.restart straps) s = .next s) ∧ exec (.storeReadRow byte) s = .next s ∧
      exec (.storeWriteRow byte) s = .next s) ∧
    (open_ → 0x1F ≤ v.index → v.index ≤ 0x22 → as (.stickyFlagClear byte) { next with
      flags := v.flags &&& ~~~ (byte.setWidth 32 <<< (8 * (v.index - 0x1F))) }) ∧
    (∀ w, open_ → v.index = windowBase w →
      (byte.toNat < windowCap w →
        as (.windowPointerWrite byte) { next with pointers := v.pointers.set w byte.toNat }) ∧
      (windowCap w ≤ byte.toNat → as (.windowPointerWrite byte) refused)) ∧
    (open_ → v.index = 0xB3 →
      as (.autoSnapWrite byte) { next with autoSnap := byte.getLsbD 0 }) ∧
    (open_ → v.index = 0xB4 → as (.registerWrite byte) { next with param := byte }) ∧
    (open_ → v.index = 0xB9 → as (.registerWrite byte) { next with rowNumber := byte }) ∧
    (∀ k : Fin 14, open_ → v.index = 0xBC + k.val →
      as (.registerWrite byte) { next with buffer := v.buffer.set k byte }) ∧
    (open_ → v.index = 0xBA → byte.getLsbD 3 = false →
      (byte.toNat % 4 = 1 →
        as (.registerWrite byte) { next with op := .read, enable := byte.getLsbD 2 }) ∧
      (byte.toNat % 4 = 2 →
        as (.registerWrite byte) { next with op := .write, enable := byte.getLsbD 2 })) ∧
    (open_ → v.index = 0xBA → byte.toNat % 4 = 0 ∨ byte.toNat % 4 = 3 →
      as (.registerWrite byte) refused) ∧
    (open_ → v.index = 0xB5 → byte.toNat = 0 ∨ 4 < byte.toNat → as (.registerWrite byte) refused) ∧
    (open_ → ¬ (0x1F ≤ v.index ∧ v.index ≤ 0x22) → v.index ≠ 0xB3 → v.index ≠ 0xB4 →
      v.index ≠ 0xB5 → v.index ≠ 0xB9 → v.index ≠ 0xBA → ¬ (0xBC ≤ v.index ∧ v.index ≤ 0xC9) →
      (∀ w, v.index ≠ windowBase w) → as (.registerWrite byte) refused)

/-- The four commands of the command area: each stores its code, names itself, counts one and gives its
result; before RUN all but SNAP are BUSY. ALARM RESET clears a named latched zone whose latest sample is
NORMAL and refuses one whose is not, and QUIET and ALERT follow the causes left, with the degraded confirm
timer; CLEAR RELEASE needs the key at ISOLATE and the hall SPENT, and starts
the erase; a RESTART while the store writes is BUSY. -/
def Obligations.PortCommandsAreJudged : Prop :=
  ∀ s : State, s.node.held = false → s.node.svp.transaction = .addressedWrite →
    s.node.svp.expectIndex = false → s.node.svp.nacked = false → s.node.svp.index = 0xB5 →
    let n := s.node
    let p := n.svp.param.toNat
    let taken' := fun (code : Byte) (c : Command) (r : CmdResult) => { n.svp with
      index := 0xB6, code := code, command := c, count := (n.svp.count + 1) % 256, result := r }
    let codeOf : Command → Byte := fun c => match c with
      | .snap => 1 | .alarmReset => 2 | .clearRelease => 3 | .restart => 4
      | .none => 0 | .storeReadRow => 0 | .storeWriteRow => 0
    let as := fun (i : Instr) (c : Command) (r : CmdResult) =>
      endsAs i s { n with svp := taken' (codeOf c) c r }
    let zone := fun (z : ZoneRec) (named : Prop) (z' : ZoneRec) =>
      (¬ named → z' = z) ∧
      (named → z.latched = false → z' = { z with lastReset := .notLatched }) ∧
      (named → z.latched = true → z.cls = some .normal →
        z' = { z with latched := false, lastReset := .cleared }) ∧
      (named → z.latched = true → z.cls ≠ some .normal → z' = { z with lastReset := .refused })
    (let snapped := { n with svp := { taken' 1 .snap .done with counterTaken := false } }
     exec .snap s = .next { s with node := snapped, snapshot := snapped }) ∧
    (n.running = false → as .alarmReset .alarmReset .busy ∧ as .clearRelease .clearRelease .busy ∧
      ∀ straps, as (.restart straps) .restart .busy) ∧
    (n.running = true →
      (p = 0 ∨ 3 < p → as .alarmReset .alarmReset .refused) ∧
      (1 ≤ p → p ≤ 3 → ∃ a b r,
        zone n.fiu.zoneA (p ≠ 2) a ∧ zone n.fiu.zoneB (p ≠ 1) b ∧
        (r = .done ∨ r = .refused) ∧
        (r = .refused ↔ (p ≠ 2 ∧ n.fiu.zoneA.latched = true ∧ n.fiu.zoneA.cls ≠ some .normal) ∨
          (p ≠ 1 ∧ n.fiu.zoneB.latched = true ∧ n.fiu.zoneB.cls ≠ some .normal)) ∧
        (let h := { n.hsq with
           latchedA := a.latched, latchedB := b.latched, faultA := a.fault, faultB := b.fault }
         let m := { n with
           fiu := { n.fiu with zoneA := a, zoneB := b }, svp := taken' 2 .alarmReset r }
         (¬ crossZone h → ∃ h', followsCauses n h h' ∧ endsAs .alarmReset s { m with hsq := h' }) ∧
         (crossZone h → endsIn .alarmReset s { m with hsq := h } (fun u =>
           u.hsq.cause = .crossZone ∧ u.hsq.degraded = none ∧ u.flag .confirmed = true)))) ∧
      (n.fiu.key.delivered = .normal ∨ n.hsq.hall ≠ .spent → as .clearRelease .clearRelease .refused) ∧
      (n.fiu.key.delivered = .isolate → n.hsq.hall = .spent → n.cfs.busy ≠ none →
        as .clearRelease .clearRelease .busy) ∧
      (n.fiu.key.delivered = .isolate → n.hsq.hall = .spent → n.cfs.busy = none →
        endsAs .clearRelease s { n with
          svp := { taken' 3 .clearRelease .accepted with awaiting := some ((n.svp.count + 1) % 256) },
          cfs := { n.cfs with
            rows := n.cfs.rows.set 12 { n.row 12 with void := true },
            busy := some { row := 12, kind := .erase, data := Vector.replicate 14 0,
                           ends := n.now + 6 } } }) ∧
      (n.cfs.busy ≠ none → ∀ straps, as (.restart straps) .restart .busy))

/-- The two store commands, taken at the control index with start set: a read answers BUSY before RUN and
while the store writes, REFUSED for a row number above 12 (first, where the store is busy too: log 39), and
else DONE with the row's data and result; a write is REFUSED without enable, BUSY before RUN, then judged by
row number, key and store, and else ACCEPTED with the row void for 6 ms. -/
def Obligations.PortStoreCommandsAreJudged : Prop :=
  ∀ (s : State) (control : Byte), s.node.held = false → s.node.svp.transaction = .addressedWrite →
    s.node.svp.expectIndex = false → s.node.svp.nacked = false → s.node.svp.index = 0xBA →
    control.getLsbD 3 = true →
    let n := s.node
    let v := n.svp
    let row := v.rowNumber.toNat
    let taken' := fun (o : StoreOp) (c : Command) (r : CmdResult) => { v with
      index := 0xBB, command := c, count := (v.count + 1) % 256, result := r, op := o,
      enable := control.getLsbD 2, startBit := false }
    (control.toNat % 4 = 1 →
      let e := Instr.storeReadRow control
      let as := fun r : CmdResult => endsAs e s { n with svp := taken' .read .storeReadRow r }
      let gives := fun (r : RowResult) (d : RowData) => endsAs e s { n with svp :=
        { taken' .read .storeReadRow .done with rowResult := some r, buffer := d } }
      (n.running = false → as .busy) ∧
      (n.running = true → 12 < row → as .refused) ∧
      (n.running = true → row ≤ 12 → n.cfs.busy ≠ none → as .busy) ∧
      (∀ i : RowId, n.running = true → row = i.val → n.cfs.busy = none →
        ((n.row i).void = true → gives .uncorrectable (Vector.replicate 14 0)) ∧
        ((n.row i).void = false → (n.row i).flips = [] → gives .clean (n.row i).data) ∧
        (∀ b, (n.row i).void = false → (n.row i).flips = [b] → gives .corrected (n.row i).data) ∧
        (∀ b b', (n.row i).void = false → (n.row i).flips = [b, b'] →
          gives .uncorrectable (Vector.replicate 14 0)))) ∧
    (control.toNat % 4 = 2 →
      let e := Instr.storeWriteRow control
      let as := fun r : CmdResult => endsAs e s { n with svp := taken' .write .storeWriteRow r }
      (control.getLsbD 2 = false → as .refused) ∧
      (control.getLsbD 2 = true → n.running = false → as .busy) ∧
      (control.getLsbD 2 = true → n.running = true →
        (12 ≤ row ∨ n.fiu.key.delivered = .normal → as .refused) ∧
        (row < 12 → n.fiu.key.delivered = .isolate → n.cfs.busy ≠ none → as .busy) ∧
        (∀ i : RowId, row = i.val → i.val < 12 → n.fiu.key.delivered = .isolate →
          n.cfs.busy = none →
          endsAs e s { n with
            svp := { taken' .write .storeWriteRow .accepted with
              startBit := true, awaiting := some ((v.count + 1) % 256) },
            cfs := { n.cfs with
              configPending := true,
              rows := n.cfs.rows.set i { n.row i with void := true },
              busy := some { row := i, kind := .config, data := v.buffer,
                             ends := n.now + 6 } } })))
end

