-- ==== Sys2Proof/Laws/Still.lean ====
section
/-! SUPPORT. Still: what a report or a request between the blocks cannot move. One lemma for each shared
operation: the node agrees with the one before outside the records named in `Node.still`. -/

namespace Sys2Proof.Machine

@[simp] theorem Node.setFlag_still (n : Node) (f : Flag) : (n.setFlag f).still = n.still := rfl
@[simp] theorem Node.setChan_still (n : Node) (c : ChanId) (r : Channel) : (n.setChan c r).still = n.still := rfl
@[simp] theorem Node.modChan_still (n : Node) (c : ChanId) (f : Channel → Channel) : (n.modChan c f).still = n.still := rfl
@[simp] theorem Node.modOutbox_still (n : Node) (f : Outbox → Outbox) : (n.modOutbox f).still = n.still := rfl
@[simp] theorem Node.setFlagIf_still (n : Node) (b : Bool) (f : Flag) : (n.setFlagIf b f).still = n.still := by cases b <;> rfl
@[simp] theorem still_apl (n : Node) (x : Apl) : Node.still { n with apl := x } = n.still := rfl
@[simp] theorem still_vcu (n : Node) (x : Vcu) : Node.still { n with vcu := x } = n.still := rfl
@[simp] theorem still_rva (n : Node) (x : Rva) : Node.still { n with rva := x } = n.still := rfl
@[simp] theorem still_rcl (n : Node) (x : Rcl) : Node.still { n with rcl := x } = n.still := rfl
@[simp] theorem still_vsu (n : Node) (x : Vsu) : Node.still { n with vsu := x } = n.still := rfl
@[simp] theorem still_free (n : Node) (x : Nat) : Node.still { n with free := x } = n.still := rfl
@[simp] theorem still_outbox (n : Node) (x : Outbox) : Node.still { n with lkc := { n.lkc with outbox := x } } = n.still := rfl
theorem still_hsq (n : Node) (x : Hsq) (h : x.still = n.hsq.still) : Node.still { n with hsq := x } = n.still := by
  simp [Node.still, h]

/-! ## Outbox -/

@[simp] theorem queueStanding_still (n : Node) : (queueStanding n).still = n.still := by
  unfold queueStanding; split <;> simp
@[simp] theorem queueBid_still (b : BidContent) (n : Node) : (queueBid b n).still = n.still := by
  unfold queueBid; repeat' split
  all_goals simp
@[simp] theorem queueWayopen_still (h : NodeId) (k : Nat) (n : Node) : (queueWayopen h k n).still = n.still := by
  unfold queueWayopen; repeat' split
  all_goals simp
@[simp] theorem queueFed_still (a : Answer) (n : Node) : (queueFed a n).still = n.still := by
  unfold queueFed; repeat' split
  all_goals simp
@[simp] theorem queueVent_still (g : Nat) (n : Node) : (queueVent g n).still = n.still := by
  unfold queueVent; repeat' split
  all_goals simp
@[simp] theorem queueYield_still (h : NodeId) (n : Node) : (queueYield h n).still = n.still := by
  unfold queueYield; repeat' split
  all_goals simp
@[simp] theorem queueVentfree_still (g : Nat) (n : Node) : (queueVentfree g n).still = n.still := by
  unfold queueVentfree; repeat' split
  all_goals simp

/-! ## Planner -/

@[simp] theorem aplPlan_still (n : Node) : (aplPlan n).still = n.still := by
  simp [aplPlan]
@[simp] theorem aplReplan_still (n : Node) : (aplReplan n).still = n.still := by
  rfl
@[simp] theorem aplOwnConfirmed_still (n : Node) : (aplOwnConfirmed n).still = n.still := by
  unfold aplOwnConfirmed; split <;> rfl
@[simp] theorem aplFed_still (k : Nat) (n : Node) : (aplFed k n).still = n.still := by
  unfold aplFed; split <;> rfl
@[simp] theorem aplEvaluate_still (n : Node) : (aplEvaluate n).still = n.still := by
  unfold aplEvaluate; split <;> simp

/-! ## Valve -/

@[simp] theorem dequeue_still (c : ChanId) (n : Node) : (dequeue c n).still = n.still := by
  rfl
@[simp] theorem resolveFiring_still (c : ChanId) (n : Node) : (resolveFiring c n).1.still = n.still := by
  unfold resolveFiring; dsimp only; repeat' split
  all_goals simp
@[simp] theorem classifyRead_still (c : ChanId) (k : PressureClass) (n : Node) : (classifyRead c k n).1.still = n.still := by
  unfold classifyRead; dsimp only; split
  all_goals simp
@[simp] theorem cylinderRead_still (c : ChanId) (k : Nat) (n : Node) : (cylinderRead c k n).1.still = n.still := by
  unfold cylinderRead; dsimp only; split
  all_goals simp
theorem commit_still (c : ChanId) (g : NodeId) (n m : Node) (h : commit c g n = some m) : m.still = n.still := by
  revert h; unfold commit; dsimp only; split <;> rintro ⟨⟩; rfl
@[simp] theorem uncommit_still (c : ChanId) (n : Node) : (uncommit c n).still = n.still := by
  unfold uncommit; dsimp only; split <;> rfl
@[simp] theorem uncommitAll_still (cs : List ChanId) (n : Node) : (uncommitAll cs n).still = n.still := by
  induction cs generalizing n with
  | nil => rfl
  | cons c cs ih => exact (ih (uncommit c n)).trans (uncommit_still c n)
@[simp] theorem enqueue_still (c : ChanId) (r : Channel) (n : Node) : (enqueue c r n).still = n.still := rfl
theorem requestHall_still (c : ChanId) (n m : Node) (h : requestHall c n = some m) : m.still = n.still := by
  revert h; unfold requestHall; dsimp only; split <;> rintro ⟨⟩; rfl
theorem requestCommitted_still (c : ChanId) (g : NodeId) (n m : Node) (h : requestCommitted c g n = some m) : m.still = n.still := by
  revert h; unfold requestCommitted; dsimp only; split <;> rintro ⟨⟩; rfl
theorem requestSubstitute_still (c : ChanId) (g : NodeId) (n m : Node) (h : requestSubstitute c g n = some m) : m.still = n.still := by
  revert h; unfold requestSubstitute; dsimp only; split <;> rintro ⟨⟩; rfl
theorem cancelHall_still (c : ChanId) (n m : Node) (h : cancelHall c n = some m) : m.still = n.still := by
  revert h; unfold cancelHall; dsimp only; split <;> rintro ⟨⟩; rfl
@[simp] theorem startPulse_still (c : ChanId) (n : Node) : (startPulse c n).still = n.still := by
  rfl
@[simp] theorem outputOff_still (n : Node) : (outputOff n).still = n.still := by
  unfold outputOff; split <;> rfl
@[simp] theorem endPulse_still (n : Node) : (endPulse n).1.still = n.still := by
  unfold endPulse; split <;> simp
@[simp] theorem endWindow_still (c : ChanId) (n : Node) : (endWindow c n).1.still = n.still := by
  simp [endWindow]
@[simp] theorem cutDrive_still (c : ChanId) (n : Node) : (cutDrive c n).1.still = n.still := by
  unfold cutDrive; dsimp only; repeat' split
  all_goals first | rfl | simp
@[simp] theorem selfDrive_still (c : ChanId) (b : Bool) (n : Node) : (selfDrive c b n).1.still = n.still := by
  unfold selfDrive; dsimp only; repeat' split
  all_goals simp
@[simp] theorem deferralRead_still (k : PressStatus) (r : Int) (n : Node) : (deferralRead k r n).still = n.still := by
  unfold deferralRead; repeat' split
  all_goals rfl
@[simp] theorem resetDeferral_still (n : Node) : (resetDeferral n).still = n.still := by
  rfl
@[simp] theorem selTravel_still (a : SelState) (d : SelDrive) (n : Node) : (selTravel a d n).still = n.still := by
  rfl
@[simp] theorem selOpen_still (n : Node) : (selOpen n).still = n.still := by
  unfold selOpen; repeat' split
  all_goals rfl
@[simp] theorem selClose_still (n : Node) : (selClose n).still = n.still := by
  unfold selClose; split <;> rfl
@[simp] theorem selJam_still (n : Node) : (selJam n).still = n.still := by
  rfl
@[simp] theorem selArrive_still (a : SelState) (n : Node) : (selArrive a n).still = n.still := by
  rfl
@[simp] theorem selWatch_still (b : Bool) (n : Node) : (selWatch b n).still = n.still := by
  unfold selWatch; repeat' split
  all_goals rfl
@[simp] theorem selRead_still (r : SelReading) (n : Node) : (selRead r n).1.still = n.still := by
  unfold selRead; dsimp only; split <;> first | rfl | simp
@[simp] theorem vcuIsolate_still (n : Node) : (vcuIsolate n).1.still = n.still := by
  simp [vcuIsolate]
@[simp] theorem vcuNormal_still (n : Node) : (vcuNormal n).1.still = n.still := by
  rfl

/-! ## Store -/

@[simp] theorem setRow_still (r : Row) (n : Node) : (n.setRow 12 r).still = n.still := by
  have h : (n.setRow 12 r).cfs.still = n.cfs.still := by
    unfold Node.setRow Cfs.still; dsimp only; congr 1; exact Vector.set_set ..
  simp only [Node.still, h]; rfl
@[simp] theorem voidRow_still (n : Node) : (voidRow 12 n).still = n.still := by
  exact setRow_still _ n
@[simp] theorem startWrite_still (k : WriteKind) (d : RowData) (n : Node) : (startWrite 12 k d n).still = n.still := by
  exact voidRow_still n
@[simp] theorem releaseWrite_still (a b c : Nat) (n : Node) : (releaseWrite a b c n).still = n.still := by
  unfold releaseWrite; dsimp only; split <;> exact voidRow_still n
@[simp] theorem startPending_still (n : Node) : (startPending n).still = n.still := by
  unfold startPending; split
  · rfl
  · exact voidRow_still n

/-! ## Arbiter -/

@[simp] theorem modEntry_still (i : NodeId) (f : BidEntry → BidEntry) (n : Node) : (modEntry i f n).still = n.still := by
  rfl
@[simp] theorem dropEntry_still (i : NodeId) (n : Node) : (dropEntry i n).still = n.still := by
  rfl
theorem commitAll_still (i : NodeId) (cs : List ChanId) (k : Nat) (n : Node) :
    (commitAll i cs (k, n)).2.still = n.still := by
  induction cs generalizing k n with
  | nil => rfl
  | cons c cs ih =>
    unfold commitAll
    split
    · rename_i m h; exact (ih _ m).trans (commit_still c i n m h)
    · exact ih _ n
@[simp] theorem walkEntry_still (e : BidEntry) (n : Node) : (walkEntry e n).2.still = n.still :=
  commitAll_still _ _ _ _
@[simp] theorem walkList_still (es : List BidEntry) (n : Node) : (walkList es n).2.still = n.still := by
  induction es generalizing n with
  | nil => rfl
  | cons e es ih => exact (ih _).trans (walkEntry_still e n)
@[simp] theorem grantWalk_still (n : Node) : (grantWalk n).still = n.still := by
  unfold grantWalk; split
  · rfl
  · exact walkList_still n.rva.bids n
@[simp] theorem addAnswer_still (a : Answer) (n : Node) : (addAnswer a n).still = n.still := by
  unfold addAnswer; split <;> rfl
@[simp] theorem sendAnswer_still (n : Node) : (sendAnswer n).still = n.still := by
  unfold sendAnswer; repeat' split
  all_goals simp
@[simp] theorem answerPlaced_still (n : Node) : (answerPlaced n).still = n.still := by
  simp [answerPlaced]
@[simp] theorem returnEntry_still (i : NodeId) (n : Node) : (returnEntry i n).still = n.still := by
  simp [returnEntry]
@[simp] theorem lapseWaiting_still (i : NodeId) (n : Node) : (lapseWaiting i n).still = n.still := by
  unfold lapseWaiting; split <;> simp
@[simp] theorem removeEntry_still (i : NodeId) (n : Node) : (removeEntry i n).still = n.still := by
  unfold removeEntry; split <;> simp
@[simp] theorem lapseGrant_still (i : NodeId) (n : Node) : (lapseGrant i n).still = n.still := by
  simp [lapseGrant]
@[simp] theorem returnSurplus_still (i : NodeId) (n : Node) : (returnSurplus i n).still = n.still := by
  unfold returnSurplus; split <;> simp
@[simp] theorem updateBid_still (i : NodeId) (k : Nat) (c : BidClass) (n : Node) : (updateBid i k c n).still = n.still := by
  unfold updateBid; repeat' split
  all_goals rfl
@[simp] theorem dropIfFed_still (i : NodeId) (n : Node) : (dropIfFed i n).still = n.still := by
  unfold dropIfFed; repeat' split
  all_goals simp
@[simp] theorem rvaBid_still (a b : NodeId) (k : Nat) (c : BidClass) (n : Node) : (rvaBid a b k c n).still = n.still := by
  unfold rvaBid; repeat' split
  all_goals simp
@[simp] theorem rvaYield_still (a b : NodeId) (n : Node) : (rvaYield a b n).still = n.still := by
  unfold rvaYield; split <;> simp
@[simp] theorem rvaPeer_still (i : NodeId) (n : Node) : (rvaPeer i n).still = n.still := by
  unfold rvaPeer; dsimp only; repeat' split
  all_goals simp
@[simp] theorem seekSubstitute_still (c : ChanId) (ds : List ChanId) (f : Feed) (n : Node) :
    (seekSubstitute c ds f n).still = n.still := by
  induction ds generalizing f n with
  | nil => rfl
  | cons d ds ih =>
    unfold seekSubstitute
    split
    · rename_i m h; exact requestSubstitute_still d f.grantee n m h
    · exact ih _ n
@[simp] theorem placeReport_still (c : ChanId) (r : PulseResult) (n : Node) : (placeReport c r n).still = n.still := by
  unfold placeReport; repeat' split
  all_goals first | rfl | simp
@[simp] theorem requestPlaces_still (g : NodeId) (cs : List ChanId) (n : Node) :
    (requestPlaces g cs n).still = n.still := by
  induction cs generalizing n with
  | nil => rfl
  | cons c cs ih =>
    unfold requestPlaces
    split
    · rename_i m h; exact (ih m).trans (requestCommitted_still c g n m h)
    · exact (ih _).trans (placeReport_still c _ n)
@[simp] theorem startFeed_still (e : BidEntry) (k : Nat) (n : Node) : (startFeed e k n).still = n.still := by
  simp [startFeed]
@[simp] theorem feedEntry_still (f : Feed) (n : Node) : (feedEntry f n).still = n.still := by
  unfold feedEntry; repeat' split
  all_goals simp
@[simp] theorem endFeed_still (f : Feed) (n : Node) : (endFeed f n).still = n.still := by
  unfold endFeed; dsimp only; split <;> simp
@[simp] theorem takeWayopen_still (i : NodeId) (k : Nat) (n : Node) : (takeWayopen i k n).still = n.still := by
  unfold takeWayopen; repeat' split
  all_goals simp
@[simp] theorem feedRounds_still (k : Nat) (n : Node) : (feedRounds k n).still = n.still := by
  induction k generalizing n with
  | zero => rfl
  | succ k ih =>
    unfold feedRounds
    repeat' split
    all_goals simp [ih]
@[simp] theorem feedTest_still (n : Node) : (feedTest n).still = n.still := by
  simp [feedTest]
@[simp] theorem rvaWayopen_still (a b : NodeId) (k : Nat) (n : Node) : (rvaWayopen a b k n).still = n.still := by
  unfold rvaWayopen; repeat' split
  all_goals simp
@[simp] theorem returnCommitted_still (n : Node) : (returnCommitted n).still = n.still := by
  simp [returnCommitted]
theorem foldlNode_still {α : Type} (f : Node → α → Node) (h : ∀ n a, (f n a).still = n.still) (l : List α)
    (n : Node) : (l.foldl f n).still = n.still := by
  induction l generalizing n with
  | nil => rfl
  | cons a l ih => exact (ih (f n a)).trans (h n a)
@[simp] theorem rvaIsolate_still (n : Node) : (rvaIsolate n).still = n.still := by
  simp only [rvaIsolate, sendAnswer_still, still_rva]
  refine (foldlNode_still _ (fun m w => addAnswer_still _ m) _ _).trans ?_
  simp
@[simp] theorem rvaLost_still (n : Node) : (rvaLost n).still = n.still := by
  exact returnCommitted_still n
@[simp] theorem rvaRebuild_still (n : Node) : (rvaRebuild n).still = n.still := by
  unfold rvaRebuild; split <;> simp
@[simp] theorem rvaUncommitted_still (i : NodeId) (n : Node) : (rvaUncommitted i n).still = n.still := by
  simp [rvaUncommitted]

/-! ## Client -/

@[simp] theorem sendBid_still (n : Node) : (sendBid n).still = n.still := by
  unfold sendBid; split <;> simp
@[simp] theorem sendYield_still (n : Node) : (sendYield n).still = n.still := by
  unfold sendYield; split <;> simp
@[simp] theorem placeOrHold_still (n : Node) : (placeOrHold n).still = n.still := by
  unfold placeOrHold; split <;> simp
@[simp] theorem retryBid_still (n : Node) : (retryBid n).still = n.still := by
  unfold retryBid; split <;> simp
@[simp] theorem rclCountdown_still (n : Node) : (rclCountdown n).still = n.still := by
  unfold rclCountdown; dsimp only; repeat' split
  all_goals simp
@[simp] theorem rclNewCount_still (k : Nat) (n : Node) : (rclNewCount k n).still = n.still := by
  unfold rclNewCount; dsimp only; repeat' split
  all_goals simp
@[simp] theorem rclResolve_still (o : ReserveOutcome) (n : Node) : (rclResolve o n).still = n.still := by
  unfold rclResolve; dsimp only; split <;> rfl
@[simp] theorem dropBid_still (n : Node) : (dropBid n).still = n.still := by
  unfold dropBid; dsimp only; split <;> simp
@[simp] theorem closeAfterFlow_still (n : Node) : (closeAfterFlow n).still = n.still := by
  unfold closeAfterFlow; repeat' split
  all_goals simp
@[simp] theorem rclEnd_still (b : Bool) (n : Node) : (rclEnd b n).still = n.still := by
  simp [rclEnd]
@[simp] theorem sendWayopen_still (n : Node) : (sendWayopen n).still = n.still := by
  unfold sendWayopen; split <;> simp
@[simp] theorem rclAct_still (n : Node) : (rclAct n).still = n.still := by
  unfold rclAct; repeat' split
  all_goals simp
@[simp] theorem rclBegin_still (n : Node) : (rclBegin n).still = n.still := by
  simp [rclBegin]
@[simp] theorem rclOpened_still (n : Node) : (rclOpened n).still = n.still := by
  unfold rclOpened; repeat' split
  all_goals simp
@[simp] theorem rclJammed_still (n : Node) : (rclJammed n).still = n.still := by
  unfold rclJammed; repeat' split
  all_goals simp
@[simp] theorem rclHolder_still (h : NodeId) (n : Node) : (rclHolder h n).still = n.still := by
  unfold rclHolder; dsimp only; rw [rclAct_still, retryBid_still]; split <;> simp
@[simp] theorem reserveFlow_still (k : Nat) (n : Node) : (reserveFlow k n).still = n.still := by
  rfl
@[simp] theorem fedAnswer_still (o : FedOutcome) (n : Node) : (fedAnswer o n).still = n.still := by
  unfold fedAnswer; dsimp only; repeat' split
  all_goals simp
@[simp] theorem rclFed_still (k : Nat) (o : FedOutcome) (n : Node) : (rclFed k o n).still = n.still := by
  unfold rclFed; dsimp only; repeat' split
  all_goals simp
@[simp] theorem rclFeedLost_still (b : Bool) (n : Node) : (rclFeedLost b n).still = n.still := by
  simp [rclFeedLost]
@[simp] theorem rclLoss_still (b : Bool) (n : Node) : (rclLoss b n).still = n.still := by
  unfold rclLoss; dsimp only; repeat' split
  all_goals simp
@[simp] theorem rclGiveUp_still (n : Node) : (rclGiveUp n).still = n.still := by
  unfold rclGiveUp; dsimp only; repeat' split
  all_goals simp
@[simp] theorem bidPlaced_still (n : Node) : (bidPlaced n).still = n.still := by
  unfold bidPlaced; split <;> rfl

/-! ## Vent -/

@[simp] theorem ventReeval_still (n : Node) : (ventReeval n).1.still = n.still := by
  unfold ventReeval; dsimp only; split <;> rfl
@[simp] theorem ventAppend_still (i : NodeId) (n : Node) : (ventAppend i n).1.still = n.still := by
  unfold ventAppend; split
  · rfl
  · exact (ventReeval_still _).trans rfl
@[simp] theorem ventRemove_still (i : NodeId) (n : Node) : (ventRemove i n).1.still = n.still := by
  unfold ventRemove; split
  · exact (ventReeval_still _).trans rfl
  · rfl
@[simp] theorem vsuVent_still (i : NodeId) (g : Nat) (n : Node) : (vsuVent i g n).1.still = n.still := by
  unfold vsuVent; split <;> simp
@[simp] theorem vsuVentfree_still (i : NodeId) (g : Nat) (n : Node) : (vsuVentfree i g n).1.still = n.still := by
  unfold vsuVentfree; split <;> simp
@[simp] theorem vsuAbsent_still (i : NodeId) (n : Node) : (vsuAbsent i n).1.still = n.still := by
  unfold vsuAbsent; split <;> simp
@[simp] theorem vsuRepair_still (i : NodeId) (n : Node) : (vsuRepair i n).1.still = n.still := by
  unfold vsuRepair; dsimp only; repeat' split
  all_goals simp
@[simp] theorem vsuAsk_still (n : Node) : (vsuAsk n).1.still = n.still := by
  unfold vsuAsk; split <;> simp
@[simp] theorem vsuLeave_still (n : Node) : (vsuLeave n).still = n.still := by
  rfl
@[simp] theorem vsuIsolated_still (n : Node) : (vsuIsolated n).still = n.still := by
  unfold vsuIsolated; split <;> rfl
@[simp] theorem vsuWithdraw_still (n : Node) : (vsuWithdraw n).still = n.still := by
  unfold vsuWithdraw; dsimp only; split <;> simp
@[simp] theorem ventPlaced_still (n : Node) : (ventPlaced n).1.still = n.still := by
  unfold ventPlaced; split <;> simp
@[simp] theorem vsuLost_still (n : Node) : (vsuLost n).still = n.still := by
  rfl
@[simp] theorem vsuJoined_still (n : Node) : (vsuJoined n).1.still = n.still := by
  unfold vsuJoined; dsimp only; repeat' split
  all_goals simp
@[simp] theorem vsuWaitOver_still (n : Node) : (vsuWaitOver n).1.still = n.still := by
  rfl

/-! ## Sequencer -/

@[simp] theorem markOwn_still (c : ChanId) (a : FireStatus) (n : Node) : (markOwn c a n).still = n.still := by
  rfl
@[simp] theorem seekOwn_still (ds : List ChanId) (n : Node) : (seekOwn ds n).still = n.still := by
  induction ds generalizing n with
  | nil => rfl
  | cons d ds ih =>
    unfold seekOwn
    split
    · rename_i m h; exact requestHall_still d n m h
    · exact (ih _).trans rfl
@[simp] theorem ownFailed_still (c : ChanId) (n : Node) : (ownFailed c n).still = n.still := by
  simp [ownFailed]
@[simp] theorem requestOwn_still (cs : List ChanId) (n : Node) : (requestOwn cs n).still = n.still := by
  induction cs generalizing n with
  | nil => rfl
  | cons c cs ih =>
    unfold requestOwn
    split
    · rename_i m h; exact (ih m).trans (requestHall_still c n m h)
    · exact (ih _).trans (ownFailed_still c n)
@[simp] theorem fireOwn_still (cs : List ChanId) (n : Node) : (fireOwn cs n).still = n.still := by
  exact (requestOwn_still cs _).trans rfl
@[simp] theorem startDuration_still (n : Node) : (startDuration n).still = n.still := by
  rfl
@[simp] theorem toDischarging_still (n : Node) : (toDischarging n).still = n.still := by
  rfl
@[simp] theorem openReserve_still (n : Node) : (openReserve n).still = n.still := by
  unfold openReserve; split
  · exact (rclBegin_still _).trans rfl
  · rfl
@[simp] theorem enterDischarging_still (n : Node) : (enterDischarging n).still = n.still := by
  simp [enterDischarging]
@[simp] theorem enterFallback_still (n : Node) : (enterFallback n).still = n.still := by
  unfold enterFallback; dsimp only
  rw [Node.setFlag_still, startDuration_still]
  refine (still_hsq (fireOwn _ _) _ rfl).trans ?_
  rw [fireOwn_still, releaseWrite_still, toDischarging_still]
@[simp] theorem isolatedRelease_still (n : Node) : (isolatedRelease n).still = n.still := by
  simp [isolatedRelease]
@[simp] theorem enterSoak_still (n : Node) : (enterSoak n).still = n.still := by
  unfold enterSoak; dsimp only
  refine Eq.trans (b := Node.still (if _ then _ else _)) rfl ?_
  split
  · simp only [vsuWithdraw_still, aplEvaluate_still]; rfl
  · rfl
@[simp] theorem soakTest_still (n : Node) : (soakTest n).still = n.still := by
  unfold soakTest; split <;> simp
@[simp] theorem ownReport_still (c : ChanId) (r : PulseResult) (n : Node) : (ownReport c r n).still = n.still := by
  unfold ownReport; repeat' split
  all_goals simp
@[simp] theorem slotHeld_still (n : Node) : (slotHeld n).still = n.still := by
  unfold slotHeld; split <;> simp
@[simp] theorem takeSlot_still (r : Node × Bool) : (takeSlot r).still = r.1.still := by
  unfold takeSlot; split <;> simp
@[simp] theorem slotForced_still (n : Node) : (slotForced n).still = n.still := by
  unfold slotForced; split <;> simp
@[simp] theorem epoTest_still (n : Node) : (epoTest n).still = n.still := by
  unfold epoTest; split <;> rfl
@[simp] theorem epoAtExpiry_still (n : Node) : (epoAtExpiry n).still = n.still := by
  unfold epoAtExpiry; split <;> rfl
@[simp] theorem expire_still (n : Node) : (expire n).still = n.still := by
  have h : (epoAtExpiry (rclNewCount (aplReplan n).apl.nRes (aplReplan n))).still = n.still := by simp
  unfold expire; dsimp only; repeat' split
  · simp only [isolatedRelease_still]; exact h
  · simp only [takeSlot_still, vsuAsk_still]; exact h
  · simp
@[simp] theorem expireIfDone_still (n : Node) : (expireIfDone n).still = n.still := by
  unfold expireIfDone; split <;> simp
@[simp] theorem holdOperated_still (n : Node) : (holdOperated n).still = n.still := by
  unfold holdOperated; repeat' split
  all_goals rfl
@[simp] theorem resume_still (k : Nat) (n : Node) : (resume k n).still = n.still := by
  simp only [resume, expireIfDone_still, epoTest_still]; rfl
@[simp] theorem holdReleased_still (n : Node) : (holdReleased n).still = n.still := by
  unfold holdReleased; split <;> simp
@[simp] theorem startCountdown_still (c : Cause) (k : Nat) (n : Node) : (startCountdown c k n).still = n.still := by
  rfl
@[simp] theorem enterCountdown_still (c : Cause) (k : Nat) (n : Node) : (enterCountdown c k n).still = n.still := by
  unfold enterCountdown; dsimp only; rw [expireIfDone_still]; repeat' split
  all_goals simp
@[simp] theorem rest_still (n : Node) : (rest n).still = n.still := by
  unfold rest; dsimp only; split <;> rfl
@[simp] theorem reeval_still (n : Node) : (reeval n).still = n.still := by
  unfold reeval; repeat' split
  all_goals simp
/-- The zone copies follow FIU; the rest stays. -/
theorem refreshZones_still (n : Node) :
    (refreshZones n).still = Node.still { n with hsq := { n.hsq with
      latchedA := n.fiu.zoneA.latched, latchedB := n.fiu.zoneB.latched,
      faultA := n.fiu.zoneA.fault, faultB := n.fiu.zoneB.fault } } :=
  reeval_still _
@[simp] theorem refreshAdjacent_still (n : Node) : (refreshAdjacent n).still = n.still := by
  exact (reeval_still _).trans rfl
@[simp] theorem enterQuiet_still (n : Node) : (enterQuiet n).still = n.still := by
  exact (reeval_still _).trans rfl
@[simp] theorem enterLockout_still (n : Node) : (enterLockout n).still = n.still := by
  unfold enterLockout; dsimp only; split
  · rfl
  · exact (enterQuiet_still _).trans rfl
@[simp] theorem manualRelease_still (n : Node) : (manualRelease n).still = n.still := by
  unfold manualRelease; dsimp only; split <;> first | rfl | (rw [resume_still]; rfl) | simp
theorem foldlCancel_still (l : List (ChanId × FireStatus)) (n : Node) :
    (l.foldl (fun m e => match cancelHall e.1 m with | some m' => markOwn e.1 .failed m' | none => m) n).still
      = n.still :=
  foldlNode_still _ (fun m e => by
    split
    · rename_i m' h; exact cancelHall_still e.1 m m' h
    · rfl) l n
@[simp] theorem cancelOwn_still (n : Node) : (cancelOwn n).still = n.still := by
  exact foldlCancel_still _ n
@[simp] theorem hsqIsolate_still (n : Node) : (hsqIsolate n).still = n.still := by
  unfold hsqIsolate; dsimp only; repeat' split
  all_goals simp
@[simp] theorem hsqNormal_still (n : Node) : (hsqNormal n).still = n.still := by
  unfold hsqNormal; split <;> simp
@[simp] theorem rowErased_still (n : Node) : (rowErased n).still = n.still := by
  unfold rowErased; split <;> simp
@[simp] theorem hsqLost_still (n : Node) : (hsqLost n).still = n.still := by
  unfold hsqLost; dsimp only; split <;> simp
@[simp] theorem degradedExpiry_still (n : Node) : (degradedExpiry n).still = n.still := by
  unfold degradedExpiry; repeat' split
  all_goals first | rfl | simp
@[simp] theorem epoPoint_still (n : Node) : (epoPoint n).still = n.still := by
  simp [epoPoint]
@[simp] theorem countdownOver_still (n : Node) : (countdownOver n).still = n.still := by
  unfold countdownOver; repeat' split
  all_goals simp
@[simp] theorem durationOver_still (n : Node) : (durationOver n).still = n.still := by
  unfold durationOver; dsimp only; repeat' split
  all_goals first | rfl | (rw [soakTest_still]; rfl)
@[simp] theorem soakOver_still (n : Node) : (soakOver n).still = n.still := by
  unfold soakOver; dsimp only; repeat' split
  all_goals rfl

/-! ## Reports -/

@[simp] theorem deliver_still (rs : List VReport) (n : Node) : (deliver rs n).still = n.still := by
  induction rs generalizing n with
  | nil => rfl
  | cons r rs ih =>
    cases r with
    | own c r => unfold deliver; rw [ih, ownReport_still]; split <;> simp
    | feed c r => unfold deliver; rw [ih, placeReport_still]
    | uncommitted i => unfold deliver; rw [ih, rvaUncommitted_still]
    | ready => unfold deliver; rw [ih, grantWalk_still]
@[simp] theorem takeReports_still (r : Node × List VReport) : (takeReports r).still = r.1.still := by
  unfold takeReports; split <;> simp
@[simp] theorem afterReports_still (r : Node × List VReport) : (afterReports r).still = r.1.still := by
  unfold afterReports; split <;> simp
@[simp] theorem selReport_still (r : SelReport) (n : Node) : (selReport r n).still = n.still := by
  unfold selReport; split <;> simp
@[simp] theorem selReports_still (rs : List SelReport) (n : Node) : (selReports rs n).still = n.still :=
  foldlNode_still _ (fun m r => selReport_still r m) rs n
@[simp] theorem deferOver_still (n : Node) : (deferOver n).still = n.still := by
  unfold deferOver; dsimp only; repeat' split
  all_goals rfl
@[simp] theorem arbiterStart_still (n : Node) : (arbiterStart n).still = n.still := by
  unfold arbiterStart; split <;> simp
@[simp] theorem pulseOver_still (n : Node) : (pulseOver n).still = n.still := by
  unfold pulseOver; split <;> simp
@[simp] theorem windowOver_still (c : ChanId) (n : Node) : (windowOver c n).still = n.still := by
  unfold windowOver; split <;> simp
@[simp] theorem staggerOver_still (n : Node) : (staggerOver n).still = n.still := by
  unfold staggerOver; split <;> rfl
@[simp] theorem monitorCut_still (c : ChanId) (n : Node) : (monitorCut c n).still = n.still := by
  unfold monitorCut; split <;> simp
@[simp] theorem travelOver_still (n : Node) : (travelOver n).still = n.still := by
  unfold travelOver; repeat' split
  all_goals simp
@[simp] theorem limitRead_still (a b : Bool) (n : Node) : (limitRead a b n).still = n.still := by
  simp [limitRead]

/-! ## Timers of the reserve and the slot -/

@[simp] theorem grantOver_still (i : NodeId) (n : Node) : (grantOver i n).still = n.still := by
  unfold grantOver; repeat' split
  all_goals simp
@[simp] theorem waitOver_still (n : Node) : (waitOver n).still = n.still := by
  unfold waitOver; dsimp only; repeat' split
  all_goals simp
@[simp] theorem feedOver_still (n : Node) : (feedOver n).still = n.still := by
  unfold feedOver; repeat' split
  all_goals simp
@[simp] theorem flowOver_still (n : Node) : (flowOver n).still = n.still := by
  unfold flowOver; dsimp only; repeat' split
  all_goals simp
@[simp] theorem slotOver_still (n : Node) : (slotOver n).still = n.still := by
  unfold slotOver; dsimp only; repeat' split
  all_goals simp

/-! ## The end of an event -/

/-- Nodes that agree outside the blanks of `still` agree outside those of `frame`. -/
theorem frame_of_still {a b : Node} (h : a.still = b.still) : a.frame = b.frame := by
  have e : ∀ n : Node, n.frame = { n.still with pou := .start 0, lkc := { n.still.lkc with placement := none } } :=
    fun _ => rfl
  rw [e, e, h]
@[simp] theorem pouEval_frame (n : Node) : (pouEval n).frame = n.frame := rfl
@[simp] theorem announce_frame (b n : Node) : (announce b n).frame = n.frame := by
  unfold announce; split
  · rfl
  · exact frame_of_still (queueStanding_still n)
@[simp] theorem placementTest_frame (n : Node) : (placementTest n).frame = n.frame := by
  unfold placementTest; split <;> rfl
/-- The end of an event writes the outputs, the outbox and the placement timer alone. -/
@[simp] theorem finish_frame (b n : Node) : (finish b n).frame = n.frame := by
  unfold finish; split
  · simp
  · rfl

end Sys2Proof.Machine
end

