-- ==== Sys2Proof/Laws/Ends.lean ====
section
/-! SUPPORT. Ends: what the end of an event leaves, and how a command is shown to end in a node. -/

namespace Sys2Proof.Machine

/-- A STANDING handed over writes its place in the outbox alone. -/
@[simp] theorem queueStanding_bare (n : Node) : (queueStanding n).bare = n.bare := by
  unfold queueStanding; split <;> rfl

/-- Driving the outputs writes the plant record alone. -/
@[simp] theorem pouEval_bare (n : Node) : (pouEval n).bare = n.bare := rfl

@[simp] theorem announce_bare (b n : Node) : (announce b n).bare = n.bare := by
  unfold announce; split
  · rfl
  · exact queueStanding_bare n

@[simp] theorem placementTest_bare (n : Node) : (placementTest n).bare = n.bare := by
  unfold placementTest; split <;> rfl

/-- The end of an event writes the outputs, the waiting STANDING and the placement timer alone. -/
@[simp] theorem finish_bare (b n : Node) : (finish b n).bare = n.bare := by
  unfold finish; split
  · simp
  · rfl

/-- An event in RUN ends as its effect on the node. -/
theorem endsAs_inRun {c : Instr} {s : State} {n : Node} (f : Node → Node)
    (hc : exec c s = inRun f s) (hr : s.node.running = true) (h : (f s.node).bare = n.bare) :
    endsAs c s n := by
  refine ⟨_, hc.trans (if_pos hr), rfl, rfl, ?_⟩
  exact (finish_bare _ _).trans h

/-- An event in RUN ends in a node that its effect gives. -/
theorem endsIn_inRun {c : Instr} {s : State} {n : Node} {p : Node → Prop} (f : Node → Node)
    (hc : exec c s = inRun f s) (hr : s.node.running = true) (h : (f s.node).frame = n.frame)
    (hp : p (finish s.node (f s.node))) : endsIn c s n p :=
  ⟨_, hc.trans (if_pos hr), rfl, rfl, (finish_frame _ _).trans h, hp⟩

/-! ## Fields of the node at the end of an event -/

@[simp] theorem finish_now (b n : Node) : (finish b n).now = n.now :=
  congrArg (fun m => m.now) (finish_bare b n)
@[simp] theorem finish_free (b n : Node) : (finish b n).free = n.free :=
  congrArg (fun m => m.free) (finish_bare b n)
@[simp] theorem finish_held (b n : Node) : (finish b n).held = n.held :=
  congrArg (fun m => m.held) (finish_bare b n)
@[simp] theorem finish_supplyLow (b n : Node) : (finish b n).supplyLow = n.supplyLow :=
  congrArg (fun m => m.supplyLow) (finish_bare b n)
@[simp] theorem finish_lineHeld (b n : Node) : (finish b n).lineHeld = n.lineHeld :=
  congrArg (fun m => m.lineHeld) (finish_bare b n)
@[simp] theorem finish_fiu (b n : Node) : (finish b n).fiu = n.fiu :=
  congrArg (fun m => m.fiu) (finish_bare b n)
@[simp] theorem finish_hsq (b n : Node) : (finish b n).hsq = n.hsq :=
  congrArg (fun m => m.hsq) (finish_bare b n)
@[simp] theorem finish_apl (b n : Node) : (finish b n).apl = n.apl :=
  congrArg (fun m => m.apl) (finish_bare b n)
@[simp] theorem finish_vcu (b n : Node) : (finish b n).vcu = n.vcu :=
  congrArg (fun m => m.vcu) (finish_bare b n)
@[simp] theorem finish_rva (b n : Node) : (finish b n).rva = n.rva :=
  congrArg (fun m => m.rva) (finish_bare b n)
@[simp] theorem finish_rcl (b n : Node) : (finish b n).rcl = n.rcl :=
  congrArg (fun m => m.rcl) (finish_bare b n)
@[simp] theorem finish_vsu (b n : Node) : (finish b n).vsu = n.vsu :=
  congrArg (fun m => m.vsu) (finish_bare b n)
@[simp] theorem finish_cfs (b n : Node) : (finish b n).cfs = n.cfs :=
  congrArg (fun m => m.cfs) (finish_bare b n)
@[simp] theorem finish_svp (b n : Node) : (finish b n).svp = n.svp :=
  congrArg (fun m => m.svp) (finish_bare b n)
@[simp] theorem finish_link (b n : Node) : (finish b n).lkc.link = n.lkc.link :=
  congrArg (fun m => m.lkc.link) (finish_bare b n)
@[simp] theorem finish_listen (b n : Node) : (finish b n).lkc.listen = n.lkc.listen :=
  congrArg (fun m => m.lkc.listen) (finish_bare b n)
@[simp] theorem finish_silence (b n : Node) : (finish b n).lkc.silence = n.lkc.silence :=
  congrArg (fun m => m.lkc.silence) (finish_bare b n)
@[simp] theorem finish_status (b n : Node) : (finish b n).lkc.status = n.lkc.status :=
  congrArg (fun m => m.lkc.status) (finish_bare b n)
@[simp] theorem finish_clash (b n : Node) : (finish b n).lkc.clash = n.lkc.clash :=
  congrArg (fun m => m.lkc.clash) (finish_bare b n)
@[simp] theorem finish_badFrames (b n : Node) : (finish b n).lkc.badFrames = n.lkc.badFrames :=
  congrArg (fun m => m.lkc.badFrames) (finish_bare b n)
@[simp] theorem finish_inFlight (b n : Node) : (finish b n).lkc.inFlight = n.lkc.inFlight :=
  congrArg (fun m => m.lkc.inFlight) (finish_bare b n)
@[simp] theorem finish_dropped (b n : Node) : (finish b n).lkc.dropped = n.lkc.dropped :=
  congrArg (fun m => m.lkc.dropped) (finish_bare b n)
@[simp] theorem finish_peers (b n : Node) : (finish b n).lkc.peers = n.lkc.peers :=
  congrArg (fun m => m.lkc.peers) (finish_bare b n)
@[simp] theorem finish_fed (b n : Node) : (finish b n).lkc.outbox.fed = n.lkc.outbox.fed :=
  congrArg (fun m => m.lkc.outbox.fed) (finish_bare b n)
@[simp] theorem finish_wayopen (b n : Node) : (finish b n).lkc.outbox.wayopen = n.lkc.outbox.wayopen :=
  congrArg (fun m => m.lkc.outbox.wayopen) (finish_bare b n)
@[simp] theorem finish_yieldTo (b n : Node) : (finish b n).lkc.outbox.yieldTo = n.lkc.outbox.yieldTo :=
  congrArg (fun m => m.lkc.outbox.yieldTo) (finish_bare b n)
@[simp] theorem finish_ventfree (b n : Node) : (finish b n).lkc.outbox.ventfree = n.lkc.outbox.ventfree :=
  congrArg (fun m => m.lkc.outbox.ventfree) (finish_bare b n)
@[simp] theorem finish_bid (b n : Node) : (finish b n).lkc.outbox.bid = n.lkc.outbox.bid :=
  congrArg (fun m => m.lkc.outbox.bid) (finish_bare b n)
@[simp] theorem finish_vent (b n : Node) : (finish b n).lkc.outbox.vent = n.lkc.outbox.vent :=
  congrArg (fun m => m.lkc.outbox.vent) (finish_bare b n)

end Sys2Proof.Machine
end

