-- ==== Sys2Proof/Laws/State.lean ====
section
/-! SUPPORT. State: what each named update of a node leaves and what it writes. -/

namespace Sys2Proof.Machine

@[simp] theorem Node.setFlag_now (n : Node) (f : Flag) : (n.setFlag f).now = n.now := rfl
@[simp] theorem Node.setFlag_free (n : Node) (f : Flag) : (n.setFlag f).free = n.free := rfl
@[simp] theorem Node.setFlag_held (n : Node) (f : Flag) : (n.setFlag f).held = n.held := rfl
@[simp] theorem Node.setFlag_supplyLow (n : Node) (f : Flag) : (n.setFlag f).supplyLow = n.supplyLow := rfl
@[simp] theorem Node.setFlag_lineHeld (n : Node) (f : Flag) : (n.setFlag f).lineHeld = n.lineHeld := rfl
@[simp] theorem Node.setFlag_fiu (n : Node) (f : Flag) : (n.setFlag f).fiu = n.fiu := rfl
@[simp] theorem Node.setFlag_hsq (n : Node) (f : Flag) : (n.setFlag f).hsq = n.hsq := rfl
@[simp] theorem Node.setFlag_apl (n : Node) (f : Flag) : (n.setFlag f).apl = n.apl := rfl
@[simp] theorem Node.setFlag_vcu (n : Node) (f : Flag) : (n.setFlag f).vcu = n.vcu := rfl
@[simp] theorem Node.setFlag_lkc (n : Node) (f : Flag) : (n.setFlag f).lkc = n.lkc := rfl
@[simp] theorem Node.setFlag_rva (n : Node) (f : Flag) : (n.setFlag f).rva = n.rva := rfl
@[simp] theorem Node.setFlag_rcl (n : Node) (f : Flag) : (n.setFlag f).rcl = n.rcl := rfl
@[simp] theorem Node.setFlag_vsu (n : Node) (f : Flag) : (n.setFlag f).vsu = n.vsu := rfl
@[simp] theorem Node.setFlag_pou (n : Node) (f : Flag) : (n.setFlag f).pou = n.pou := rfl
@[simp] theorem Node.setFlag_cfs (n : Node) (f : Flag) : (n.setFlag f).cfs = n.cfs := rfl

@[simp] theorem Node.setChan_now (n : Node) (c : ChanId) (r : Channel) : (n.setChan c r).now = n.now := rfl
@[simp] theorem Node.setChan_free (n : Node) (c : ChanId) (r : Channel) : (n.setChan c r).free = n.free := rfl
@[simp] theorem Node.setChan_held (n : Node) (c : ChanId) (r : Channel) : (n.setChan c r).held = n.held := rfl
@[simp] theorem Node.setChan_supplyLow (n : Node) (c : ChanId) (r : Channel) : (n.setChan c r).supplyLow = n.supplyLow := rfl
@[simp] theorem Node.setChan_lineHeld (n : Node) (c : ChanId) (r : Channel) : (n.setChan c r).lineHeld = n.lineHeld := rfl
@[simp] theorem Node.setChan_fiu (n : Node) (c : ChanId) (r : Channel) : (n.setChan c r).fiu = n.fiu := rfl
@[simp] theorem Node.setChan_hsq (n : Node) (c : ChanId) (r : Channel) : (n.setChan c r).hsq = n.hsq := rfl
@[simp] theorem Node.setChan_apl (n : Node) (c : ChanId) (r : Channel) : (n.setChan c r).apl = n.apl := rfl
@[simp] theorem Node.setChan_lkc (n : Node) (c : ChanId) (r : Channel) : (n.setChan c r).lkc = n.lkc := rfl
@[simp] theorem Node.setChan_rva (n : Node) (c : ChanId) (r : Channel) : (n.setChan c r).rva = n.rva := rfl
@[simp] theorem Node.setChan_rcl (n : Node) (c : ChanId) (r : Channel) : (n.setChan c r).rcl = n.rcl := rfl
@[simp] theorem Node.setChan_vsu (n : Node) (c : ChanId) (r : Channel) : (n.setChan c r).vsu = n.vsu := rfl
@[simp] theorem Node.setChan_pou (n : Node) (c : ChanId) (r : Channel) : (n.setChan c r).pou = n.pou := rfl
@[simp] theorem Node.setChan_cfs (n : Node) (c : ChanId) (r : Channel) : (n.setChan c r).cfs = n.cfs := rfl
@[simp] theorem Node.setChan_svp (n : Node) (c : ChanId) (r : Channel) : (n.setChan c r).svp = n.svp := rfl

@[simp] theorem Node.modChan_now (n : Node) (c : ChanId) (f : Channel → Channel) : (n.modChan c f).now = n.now := rfl
@[simp] theorem Node.modChan_free (n : Node) (c : ChanId) (f : Channel → Channel) : (n.modChan c f).free = n.free := rfl
@[simp] theorem Node.modChan_held (n : Node) (c : ChanId) (f : Channel → Channel) : (n.modChan c f).held = n.held := rfl
@[simp] theorem Node.modChan_supplyLow (n : Node) (c : ChanId) (f : Channel → Channel) : (n.modChan c f).supplyLow = n.supplyLow := rfl
@[simp] theorem Node.modChan_lineHeld (n : Node) (c : ChanId) (f : Channel → Channel) : (n.modChan c f).lineHeld = n.lineHeld := rfl
@[simp] theorem Node.modChan_fiu (n : Node) (c : ChanId) (f : Channel → Channel) : (n.modChan c f).fiu = n.fiu := rfl
@[simp] theorem Node.modChan_hsq (n : Node) (c : ChanId) (f : Channel → Channel) : (n.modChan c f).hsq = n.hsq := rfl
@[simp] theorem Node.modChan_apl (n : Node) (c : ChanId) (f : Channel → Channel) : (n.modChan c f).apl = n.apl := rfl
@[simp] theorem Node.modChan_lkc (n : Node) (c : ChanId) (f : Channel → Channel) : (n.modChan c f).lkc = n.lkc := rfl
@[simp] theorem Node.modChan_rva (n : Node) (c : ChanId) (f : Channel → Channel) : (n.modChan c f).rva = n.rva := rfl
@[simp] theorem Node.modChan_rcl (n : Node) (c : ChanId) (f : Channel → Channel) : (n.modChan c f).rcl = n.rcl := rfl
@[simp] theorem Node.modChan_vsu (n : Node) (c : ChanId) (f : Channel → Channel) : (n.modChan c f).vsu = n.vsu := rfl
@[simp] theorem Node.modChan_pou (n : Node) (c : ChanId) (f : Channel → Channel) : (n.modChan c f).pou = n.pou := rfl
@[simp] theorem Node.modChan_cfs (n : Node) (c : ChanId) (f : Channel → Channel) : (n.modChan c f).cfs = n.cfs := rfl
@[simp] theorem Node.modChan_svp (n : Node) (c : ChanId) (f : Channel → Channel) : (n.modChan c f).svp = n.svp := rfl

@[simp] theorem Node.setPeer_now (n : Node) (i : NodeId) (p : Peer) : (n.setPeer i p).now = n.now := rfl
@[simp] theorem Node.setPeer_free (n : Node) (i : NodeId) (p : Peer) : (n.setPeer i p).free = n.free := rfl
@[simp] theorem Node.setPeer_held (n : Node) (i : NodeId) (p : Peer) : (n.setPeer i p).held = n.held := rfl
@[simp] theorem Node.setPeer_supplyLow (n : Node) (i : NodeId) (p : Peer) : (n.setPeer i p).supplyLow = n.supplyLow := rfl
@[simp] theorem Node.setPeer_lineHeld (n : Node) (i : NodeId) (p : Peer) : (n.setPeer i p).lineHeld = n.lineHeld := rfl
@[simp] theorem Node.setPeer_fiu (n : Node) (i : NodeId) (p : Peer) : (n.setPeer i p).fiu = n.fiu := rfl
@[simp] theorem Node.setPeer_hsq (n : Node) (i : NodeId) (p : Peer) : (n.setPeer i p).hsq = n.hsq := rfl
@[simp] theorem Node.setPeer_apl (n : Node) (i : NodeId) (p : Peer) : (n.setPeer i p).apl = n.apl := rfl
@[simp] theorem Node.setPeer_vcu (n : Node) (i : NodeId) (p : Peer) : (n.setPeer i p).vcu = n.vcu := rfl
@[simp] theorem Node.setPeer_rva (n : Node) (i : NodeId) (p : Peer) : (n.setPeer i p).rva = n.rva := rfl
@[simp] theorem Node.setPeer_rcl (n : Node) (i : NodeId) (p : Peer) : (n.setPeer i p).rcl = n.rcl := rfl
@[simp] theorem Node.setPeer_vsu (n : Node) (i : NodeId) (p : Peer) : (n.setPeer i p).vsu = n.vsu := rfl
@[simp] theorem Node.setPeer_pou (n : Node) (i : NodeId) (p : Peer) : (n.setPeer i p).pou = n.pou := rfl
@[simp] theorem Node.setPeer_cfs (n : Node) (i : NodeId) (p : Peer) : (n.setPeer i p).cfs = n.cfs := rfl
@[simp] theorem Node.setPeer_svp (n : Node) (i : NodeId) (p : Peer) : (n.setPeer i p).svp = n.svp := rfl

@[simp] theorem Node.setRow_now (n : Node) (i : RowId) (r : Row) : (n.setRow i r).now = n.now := rfl
@[simp] theorem Node.setRow_free (n : Node) (i : RowId) (r : Row) : (n.setRow i r).free = n.free := rfl
@[simp] theorem Node.setRow_held (n : Node) (i : RowId) (r : Row) : (n.setRow i r).held = n.held := rfl
@[simp] theorem Node.setRow_supplyLow (n : Node) (i : RowId) (r : Row) : (n.setRow i r).supplyLow = n.supplyLow := rfl
@[simp] theorem Node.setRow_lineHeld (n : Node) (i : RowId) (r : Row) : (n.setRow i r).lineHeld = n.lineHeld := rfl
@[simp] theorem Node.setRow_fiu (n : Node) (i : RowId) (r : Row) : (n.setRow i r).fiu = n.fiu := rfl
@[simp] theorem Node.setRow_hsq (n : Node) (i : RowId) (r : Row) : (n.setRow i r).hsq = n.hsq := rfl
@[simp] theorem Node.setRow_apl (n : Node) (i : RowId) (r : Row) : (n.setRow i r).apl = n.apl := rfl
@[simp] theorem Node.setRow_vcu (n : Node) (i : RowId) (r : Row) : (n.setRow i r).vcu = n.vcu := rfl
@[simp] theorem Node.setRow_lkc (n : Node) (i : RowId) (r : Row) : (n.setRow i r).lkc = n.lkc := rfl
@[simp] theorem Node.setRow_rva (n : Node) (i : RowId) (r : Row) : (n.setRow i r).rva = n.rva := rfl
@[simp] theorem Node.setRow_rcl (n : Node) (i : RowId) (r : Row) : (n.setRow i r).rcl = n.rcl := rfl
@[simp] theorem Node.setRow_vsu (n : Node) (i : RowId) (r : Row) : (n.setRow i r).vsu = n.vsu := rfl
@[simp] theorem Node.setRow_pou (n : Node) (i : RowId) (r : Row) : (n.setRow i r).pou = n.pou := rfl
@[simp] theorem Node.setRow_svp (n : Node) (i : RowId) (r : Row) : (n.setRow i r).svp = n.svp := rfl

@[simp] theorem Node.modOutbox_now (n : Node) (f : Outbox → Outbox) : (n.modOutbox f).now = n.now := rfl
@[simp] theorem Node.modOutbox_free (n : Node) (f : Outbox → Outbox) : (n.modOutbox f).free = n.free := rfl
@[simp] theorem Node.modOutbox_held (n : Node) (f : Outbox → Outbox) : (n.modOutbox f).held = n.held := rfl
@[simp] theorem Node.modOutbox_supplyLow (n : Node) (f : Outbox → Outbox) : (n.modOutbox f).supplyLow = n.supplyLow := rfl
@[simp] theorem Node.modOutbox_lineHeld (n : Node) (f : Outbox → Outbox) : (n.modOutbox f).lineHeld = n.lineHeld := rfl
@[simp] theorem Node.modOutbox_fiu (n : Node) (f : Outbox → Outbox) : (n.modOutbox f).fiu = n.fiu := rfl
@[simp] theorem Node.modOutbox_hsq (n : Node) (f : Outbox → Outbox) : (n.modOutbox f).hsq = n.hsq := rfl
@[simp] theorem Node.modOutbox_apl (n : Node) (f : Outbox → Outbox) : (n.modOutbox f).apl = n.apl := rfl
@[simp] theorem Node.modOutbox_vcu (n : Node) (f : Outbox → Outbox) : (n.modOutbox f).vcu = n.vcu := rfl
@[simp] theorem Node.modOutbox_rva (n : Node) (f : Outbox → Outbox) : (n.modOutbox f).rva = n.rva := rfl
@[simp] theorem Node.modOutbox_rcl (n : Node) (f : Outbox → Outbox) : (n.modOutbox f).rcl = n.rcl := rfl
@[simp] theorem Node.modOutbox_vsu (n : Node) (f : Outbox → Outbox) : (n.modOutbox f).vsu = n.vsu := rfl
@[simp] theorem Node.modOutbox_pou (n : Node) (f : Outbox → Outbox) : (n.modOutbox f).pou = n.pou := rfl
@[simp] theorem Node.modOutbox_cfs (n : Node) (f : Outbox → Outbox) : (n.modOutbox f).cfs = n.cfs := rfl
@[simp] theorem Node.modOutbox_svp (n : Node) (f : Outbox → Outbox) : (n.modOutbox f).svp = n.svp := rfl

@[simp] theorem Node.modSvp_now (n : Node) (f : Svp → Svp) : (n.modSvp f).now = n.now := rfl
@[simp] theorem Node.modSvp_free (n : Node) (f : Svp → Svp) : (n.modSvp f).free = n.free := rfl
@[simp] theorem Node.modSvp_held (n : Node) (f : Svp → Svp) : (n.modSvp f).held = n.held := rfl
@[simp] theorem Node.modSvp_supplyLow (n : Node) (f : Svp → Svp) : (n.modSvp f).supplyLow = n.supplyLow := rfl
@[simp] theorem Node.modSvp_lineHeld (n : Node) (f : Svp → Svp) : (n.modSvp f).lineHeld = n.lineHeld := rfl
@[simp] theorem Node.modSvp_fiu (n : Node) (f : Svp → Svp) : (n.modSvp f).fiu = n.fiu := rfl
@[simp] theorem Node.modSvp_hsq (n : Node) (f : Svp → Svp) : (n.modSvp f).hsq = n.hsq := rfl
@[simp] theorem Node.modSvp_apl (n : Node) (f : Svp → Svp) : (n.modSvp f).apl = n.apl := rfl
@[simp] theorem Node.modSvp_vcu (n : Node) (f : Svp → Svp) : (n.modSvp f).vcu = n.vcu := rfl
@[simp] theorem Node.modSvp_lkc (n : Node) (f : Svp → Svp) : (n.modSvp f).lkc = n.lkc := rfl
@[simp] theorem Node.modSvp_rva (n : Node) (f : Svp → Svp) : (n.modSvp f).rva = n.rva := rfl
@[simp] theorem Node.modSvp_rcl (n : Node) (f : Svp → Svp) : (n.modSvp f).rcl = n.rcl := rfl
@[simp] theorem Node.modSvp_vsu (n : Node) (f : Svp → Svp) : (n.modSvp f).vsu = n.vsu := rfl
@[simp] theorem Node.modSvp_pou (n : Node) (f : Svp → Svp) : (n.modSvp f).pou = n.pou := rfl
@[simp] theorem Node.modSvp_cfs (n : Node) (f : Svp → Svp) : (n.modSvp f).cfs = n.cfs := rfl

@[simp] theorem Node.setFlagIf_now (n : Node) (b : Bool) (f : Flag) : (n.setFlagIf b f).now = n.now := by cases b <;> rfl
@[simp] theorem Node.setFlagIf_free (n : Node) (b : Bool) (f : Flag) : (n.setFlagIf b f).free = n.free := by cases b <;> rfl
@[simp] theorem Node.setFlagIf_held (n : Node) (b : Bool) (f : Flag) : (n.setFlagIf b f).held = n.held := by cases b <;> rfl
@[simp] theorem Node.setFlagIf_supplyLow (n : Node) (b : Bool) (f : Flag) : (n.setFlagIf b f).supplyLow = n.supplyLow := by cases b <;> rfl
@[simp] theorem Node.setFlagIf_lineHeld (n : Node) (b : Bool) (f : Flag) : (n.setFlagIf b f).lineHeld = n.lineHeld := by cases b <;> rfl
@[simp] theorem Node.setFlagIf_fiu (n : Node) (b : Bool) (f : Flag) : (n.setFlagIf b f).fiu = n.fiu := by cases b <;> rfl
@[simp] theorem Node.setFlagIf_hsq (n : Node) (b : Bool) (f : Flag) : (n.setFlagIf b f).hsq = n.hsq := by cases b <;> rfl
@[simp] theorem Node.setFlagIf_apl (n : Node) (b : Bool) (f : Flag) : (n.setFlagIf b f).apl = n.apl := by cases b <;> rfl
@[simp] theorem Node.setFlagIf_vcu (n : Node) (b : Bool) (f : Flag) : (n.setFlagIf b f).vcu = n.vcu := by cases b <;> rfl
@[simp] theorem Node.setFlagIf_lkc (n : Node) (b : Bool) (f : Flag) : (n.setFlagIf b f).lkc = n.lkc := by cases b <;> rfl
@[simp] theorem Node.setFlagIf_rva (n : Node) (b : Bool) (f : Flag) : (n.setFlagIf b f).rva = n.rva := by cases b <;> rfl
@[simp] theorem Node.setFlagIf_rcl (n : Node) (b : Bool) (f : Flag) : (n.setFlagIf b f).rcl = n.rcl := by cases b <;> rfl
@[simp] theorem Node.setFlagIf_vsu (n : Node) (b : Bool) (f : Flag) : (n.setFlagIf b f).vsu = n.vsu := by cases b <;> rfl
@[simp] theorem Node.setFlagIf_pou (n : Node) (b : Bool) (f : Flag) : (n.setFlagIf b f).pou = n.pou := by cases b <;> rfl
@[simp] theorem Node.setFlagIf_cfs (n : Node) (b : Bool) (f : Flag) : (n.setFlagIf b f).cfs = n.cfs := by cases b <;> rfl

/-! ## What the updates write -/

/-- Reading a vector at a bounded index is reading it at the index's value. -/
theorem vget {α : Type} {k : Nat} (v : Vector α k) (i : Fin k) : v.get i = v[i.val] := rfl


@[simp] theorem Node.setChan_channels (n : Node) (c : ChanId) (r : Channel) :
    (n.setChan c r).vcu.channels = n.vcu.channels.set c r := rfl
@[simp] theorem Node.setChan_queue (n : Node) (c : ChanId) (r : Channel) :
    (n.setChan c r).vcu.queue = n.vcu.queue := rfl
@[simp] theorem Node.setChan_outputOn (n : Node) (c : ChanId) (r : Channel) :
    (n.setChan c r).vcu.outputOn = n.vcu.outputOn := rfl
@[simp] theorem Node.setChan_selector (n : Node) (c : ChanId) (r : Channel) :
    (n.setChan c r).vcu.selector = n.vcu.selector := rfl
@[simp] theorem Node.setPeer_peers (n : Node) (i : NodeId) (p : Peer) :
    (n.setPeer i p).lkc.peers = n.lkc.peers.set i p := rfl
@[simp] theorem Node.setRow_rows (n : Node) (i : RowId) (r : Row) :
    (n.setRow i r).cfs.rows = n.cfs.rows.set i r := rfl
@[simp] theorem Node.modSvp_svp (n : Node) (f : Svp → Svp) : (n.modSvp f).svp = f n.svp := rfl
@[simp] theorem Node.modOutbox_outbox (n : Node) (f : Outbox → Outbox) :
    (n.modOutbox f).lkc.outbox = f n.lkc.outbox := rfl

/-- Reading the channel just written. -/
@[simp] theorem Node.chan_setChan_same (n : Node) (c : ChanId) (r : Channel) :
    (n.setChan c r).chan c = r := by
  simp [Node.chan, Node.setChan, vget]

/-- Reading another channel. -/
theorem Node.chan_setChan_other (n : Node) (c d : ChanId) (r : Channel) (h : d ≠ c) :
    (n.setChan c r).chan d = n.chan d := by
  have : c.val ≠ d.val := fun e => h (Fin.ext e.symm)
  simp [Node.chan, Node.setChan, vget, this]

/-- Reading the peer-table entry just written. -/
@[simp] theorem Node.peer_setPeer_same (n : Node) (i : NodeId) (p : Peer) :
    (n.setPeer i p).peer i = p := by
  simp [Node.peer, Node.setPeer, vget]

/-- Reading another peer-table entry. -/
theorem Node.peer_setPeer_other (n : Node) (i j : NodeId) (p : Peer) (h : j ≠ i) :
    (n.setPeer i p).peer j = n.peer j := by
  have : i.val ≠ j.val := fun e => h (Fin.ext e.symm)
  simp [Node.peer, Node.setPeer, vget, this]

/-- Reading the row just written. -/
@[simp] theorem Node.row_setRow_same (n : Node) (i : RowId) (r : Row) : (n.setRow i r).row i = r := by
  simp [Node.row, Node.setRow, vget]

/-- Reading another row. -/
theorem Node.row_setRow_other (n : Node) (i j : RowId) (r : Row) (h : j ≠ i) :
    (n.setRow i r).row j = n.row j := by
  have : i.val ≠ j.val := fun e => h (Fin.ext e.symm)
  simp [Node.row, Node.setRow, vget, this]

/-- Reading an element of a mapped vector. -/
@[simp] theorem mapVec_get {α : Type} {k : Nat} (f : α → α) (v : Vector α k) (i : Fin k) :
    (mapVec f v).get i = f (v.get i) := by
  simp [mapVec, vget]

/-! ## Sticky flags -/

/-- A flag just set is set. -/
@[simp] theorem Node.flag_setFlag_same (n : Node) (f : Flag) : (n.setFlag f).flag f = true := by
  simp [Node.flag, Node.setFlag, BitVec.getLsb_eq_getElem, BitVec.getElem_or, BitVec.getElem_twoPow]

/-- Setting a flag leaves every flag that was set. -/
theorem Node.flag_setFlag_mono (n : Node) (f g : Flag) (h : n.flag g = true) :
    (n.setFlag f).flag g = true := by
  simp [Node.flag, Node.setFlag, BitVec.getLsb_eq_getElem, BitVec.getElem_or] at *
  exact Or.inl h

/-- Setting a flag leaves every other flag. -/
theorem Node.flag_setFlag_other (n : Node) (f g : Flag) (h : g ≠ f) :
    (n.setFlag f).flag g = n.flag g := by
  have hb : ¬ f.bit.val = g.bit.val := by
    revert h; cases f <;> cases g <;> decide
  simp [Node.flag, Node.setFlag, BitVec.getLsb_eq_getElem, BitVec.getElem_or, BitVec.getElem_twoPow]
  intro e; exact absurd e.symm hb

/-- Setting a flag under a condition leaves every flag that was set. -/
theorem Node.flag_setFlagIf_mono (n : Node) (b : Bool) (f g : Flag) (h : n.flag g = true) :
    (n.setFlagIf b f).flag g = true := by
  cases b
  · exact h
  · exact n.flag_setFlag_mono f g h

end Sys2Proof.Machine
end

