-- ==== Sys2Proof/Tests/Slice0.lean ====
section
/-! SUPPORT. Slice0: the model's own tests. Ill-formed frames, the spec's worked figures, small single
steps, and states that meet the hypotheses of the statements. -/

set_option maxRecDepth 100000
set_option maxHeartbeats 4000000

namespace Sys2Proof.Tests

open Sys2Proof Sys2Proof.Machine

/-! ## Small states -/

/-- A node in RUN with the key delivered NORMAL, at 10 000 ms, everything else at its reset value. -/
def base : Node :=
  { State.reset.node with now := 10000, cfs.phase := .run, fiu.key.delivered := .normal }

/-- The same with the key delivered ISOLATE. -/
def locked : Node := { base with fiu.key.delivered := .isolate }

/-- A node in a hall state. -/
def hallIs (h : HallState) (n : Node) : Node := { n with hsq.hall := h }

/-- A node in a link state. -/
def linkIs (l : LinkState) (n : Node) : Node := { n with lkc.link := l }

/-- A node with a channel of a role in a state. -/
def chanIs (c : ChanId) (r : Role) (st : ChanState) (n : Node) : Node :=
  n.modChan c (fun x => { x with role := r, state := st })

/-- The state of a node whose queue is empty. -/
def st (n : Node) : State := { node := n, snapshot := n, pending := [] }

/-- The node that a command leaves. -/
def after (c : Instr) (n : Node) : Option Node :=
  match exec c (st n) with
  | .next t => some t.node
  | .fault _ => none
  | .refused _ => none

/-- What a command leaves meets a condition. -/
def leaves (c : Instr) (n : Node) (p : Node → Bool) : Bool := (after c n).any p

/-- A STANDING of a hall at rest. -/
def atRest : Standing :=
  { hall := .quiet, mode := .normal, lockout := false, short := false, low := false, trouble := false,
    ventGroup := 0, ventStatus := .none, bidHolder := 0, wanted := 0, cls := .ordinary,
    holderPart := none }

/-- The same with a holder part. -/
def withPart (p : HolderPart) : Standing := { atRest with holderPart := some p }

/-- An entry of a node with a granted count. -/
def granted (i : NodeId) (k : Nat) : BidEntry := { freshEntry i k .ordinary .no with granted := k }

/-- A holder with one READY reserve channel, JOINED. -/
def holder : Node := linkIs .joined (chanIs 3 .reserve .ready base)

/-- Readings of an ordinary entry to RUN. -/
def ordinary : LoadInputs :=
  { upTo := 14, zoneA := 60, zoneB := 60, manual := 60, hold := 60, keyNormal := true, keyIsolate := false,
    temperature := some 200, pressure := 0, cylinders := .replicate 12 100, selectorOpen := false,
    selectorClosed := true, flips := [] }

/-- A channel committed to a node. -/
def committed (c : ChanId) (i : NodeId) (n : Node) : Node :=
  n.modChan c (fun x => { x with role := .reserve, state := .committed, committedTo := some i })

/-- A holder whose feed for node 7 runs; the pulse of its one place fires channel 3. -/
def feeding : Node :=
  { (chanIs 3 .reserve .firing holder).modChan 3 (fun x =>
      { x with requester := .rva, committedTo := some 7, feedGrantee := some 7 }) with
    rva.feed := some { grantee := 7, places := [⟨3, .pending⟩], confirmed := 0, failed := 0,
                       cancelledSeen := false, orphaned := false, used := [3] },
    rva.bids := [{ freshEntry 7 1 .ordinary .running with inFeed := 1 }] }

/-- A port that takes a data byte at an index. -/
def writing (i : Nat) (n : Node) : Node :=
  { n with svp.transaction := .addressedWrite, svp.index := i }

/-! ## Well-formedness refuses each range (R83, R84) -/

theorem test_wellFormed_accepts :
    Instr.wellFormed (.standingReceived 2 (withPart ⟨8, true, [⟨1, 8⟩, ⟨2, 1⟩]⟩)) = true ∧
    Instr.wellFormed (.bidReceived 1 2 8 .elevated) = true ∧
    Instr.wellFormed (.fedReceived 1 2 8 0 .part) = true ∧
    Instr.wellFormed (.ventReceived 1 15) = true ∧ Instr.wellFormed .snap = true := by decide
theorem test_wellFormed_grantCount :
    Instr.wellFormed (.standingReceived 2 (withPart ⟨0, true, [⟨1, 0⟩]⟩)) = false ∧
    Instr.wellFormed (.standingReceived 2 (withPart ⟨0, true, [⟨1, 9⟩]⟩)) = false := by decide
theorem test_wellFormed_readyCount :
    Instr.wellFormed (.standingReceived 2 (withPart ⟨9, true, []⟩)) = false := by decide
theorem test_wellFormed_grantEntries :
    Instr.wellFormed (.standingReceived 2 (withPart ⟨0, true,
      [⟨0, 1⟩, ⟨1, 1⟩, ⟨2, 1⟩, ⟨3, 1⟩, ⟨4, 1⟩, ⟨5, 1⟩, ⟨6, 1⟩, ⟨7, 1⟩, ⟨8, 1⟩]⟩)) = false := by decide
theorem test_wellFormed_granteeTwice :
    Instr.wellFormed (.standingReceived 2 (withPart ⟨0, true, [⟨1, 1⟩, ⟨1, 2⟩]⟩)) = false := by decide
theorem test_wellFormed_ventGroup :
    Instr.wellFormed (.standingReceived 2 { atRest with ventGroup := 16 }) = false ∧
    Instr.wellFormed (.ventReceived 2 0) = false ∧ Instr.wellFormed (.ventReceived 2 16) = false ∧
    Instr.wellFormed (.ventfreeReceived 2 0) = false ∧
    Instr.wellFormed (.ventfreeReceived 2 16) = false := by decide
theorem test_wellFormed_wanted :
    Instr.wellFormed (.standingReceived 2 { atRest with wanted := 9 }) = false ∧
    Instr.wellFormed (.bidReceived 1 2 0 .ordinary) = false ∧
    Instr.wellFormed (.bidReceived 1 2 9 .ordinary) = false := by decide
theorem test_wellFormed_wayopenCount :
    Instr.wellFormed (.wayopenReceived 1 2 0) = false ∧
    Instr.wellFormed (.wayopenReceived 1 2 9) = false := by decide
theorem test_wellFormed_fedCounts :
    Instr.wellFormed (.fedReceived 1 2 9 0 .part) = false ∧
    Instr.wellFormed (.fedReceived 1 2 0 9 .part) = false := by decide

/-! ## The spec's worked figures -/

/-- The worked plan of section 3.5 and its clamped and default rows. -/
theorem test_plan_figures :
    (specificVolume 12000 4800 225, baseMass 1200 700 13080000, designMass 6906 110) =
      (13080000, 6906, 7597) ∧
    (ownGroups 4 7597 1800, reserveGroups 7597 4 1800 1500 (some 0)) = (4, (1, false)) ∧
    (specificVolume 12000 4800 350, baseMass 1200 700 13680000, designMass 6603 110) =
      (13680000, 6603, 7264) ∧
    (specificVolume 12000 4800 100, baseMass 1200 700 12480000, designMass 7238 110) =
      (12480000, 7238, 7962) := by decide
/-- The achieved concentration of section 3.8. -/
theorem test_achieved_figures :
    [1800, 3600, 5400, 7200, 8700].map (fun m => achieved m 13080000 1200) =
      [192, 377, 555, 727, 866] := by decide
/-- The digest that a shipped row 11 holds is that of the shipped rows (R159). -/
theorem test_shipped_digest :
    digest (Vector.ofFn (fun r => some (shippedRows.get r).data)) =
      le2 (shippedRows.get 11).data 2 := by decide
/-- The boundaries of the zone, station and hold classes (R31, R36, R38). -/
theorem test_class_boundaries :
    [19, 20, 119, 120, 399, 400].map zoneClass =
      [.openLoop, .normal, .normal, .alarm, .alarm, .shortLoop] ∧
    [19, 20, 119, 120, 399, 400].map stationClass =
      [.fault, .normal, .normal, .operated, .operated, .fault] ∧
    [19, 20, 119, 120, 399, 400].map holdClass =
      [.fault, .released, .released, .operated, .operated, .fault] ∧
    [-401, -400, 850, 851].map (fun t => tempStatus (some t)) =
      [.outOfRange, .ok, .ok, .outOfRange] ∧
    [-501, -500, 3000, 3001].map pressStatus = [.fault, .ok, .ok, .fault] := by decide
/-- The check code of the nine bytes of the usual check sequence. -/
theorem test_crc_check :
    crc [0x31, 0x32, 0x33, 0x34, 0x35, 0x36, 0x37, 0x38, 0x39] = 0x29B1#16 := by decide
/-- A VENTFREE's bytes, by R182: kind 4, source 3, length 7, group, check code, end mark. -/
theorem test_frame_bytes :
    (encode (.ventfree 3 5)).take 4 = [4, 3, 7, 5] ∧ (encode (.ventfree 3 5)).getLast? = some 0x7E ∧
    parse (encode (.ventfree 3 5)) = some (.ventfree 3 5) ∧
    parse ((encode (.ventfree 3 5)).set 3 6) = none := by decide
/-- A shipped part loads into FALLBACK with NOT_COMMISSIONED alone (section 9.8). -/
theorem test_load_shipped :
    leaves (.load ordinary) State.reset.node
      (fun n => n.running && n.cfs.findings == [(.notCommissioned, 11)] &&
        n.hsq.mode == .fallback && n.hsq.hall == .quiet && n.flag .configInvalid) = true := by decide

/-- With all rows read VALIDATE stands. -/
theorem test_load_upTo :
    leaves (.load { ordinary with upTo := 13 }) State.reset.node (fun n => n.cfs.phase == .validate && !n.running) =
      true := by decide
/-- A wrong format marker is a finding of FORMAT and of FIELD_RANGE. -/
theorem test_load_marker :
    leaves (.load ordinary)
      { State.reset.node with
        cfs.rows := shippedRows.set 0 (.sound #v[0, 0, 0, 0, 0xE8, 3, 0, 0, 0, 0, 0, 0, 0, 0]) }
      (fun n => n.cfs.findings.contains (.format, 0) && n.cfs.findings.contains (.fieldRange, 0)) =
      true := by decide
/-- The reset line let go at last begins LOAD with the cause that began the reset. -/
theorem test_resetLine_keepsTheCause :
    leaves (.resetLine 100 (some 5)) { base with lineHeld := true, cfs.cause := .power }
      (fun n => n.cfs.cause == .power && n.cfs.phase == .load && n.id == 5 && !n.held) = true := by
  decide

/-! ## Single steps -/

/-- A zone alarm run of the verify time latches the zone and sounds stage 1. -/
theorem test_zoneSample :
    leaves (.zoneSample .a 200) { base with fiu.zoneA.alarmRun := some ⟨8000, false⟩ }
      (fun n => n.fiu.zoneA.latched && n.hsq.hall == .alert && n.pou.stage == .stage1) = true := by decide
theorem test_manualStationSample :
    leaves (.manualStationSample 200) { base with fiu.station.opRun := some ⟨9500, false⟩ }
      (fun n => n.hsq.hall == .countdown && n.remaining == 30000 && n.pou.hvac) = true := by decide
theorem test_holdSwitchSample :
    leaves (.holdSwitchSample 200) { hallIs .countdown base with
      hsq.countdown := .running 14000, fiu.hold.changeRun := some 9800 }
      (fun n => n.hsq.hall == .hold && n.remaining == 4000) = true := by decide
theorem test_keySample :
    leaves (.keySample false true) { hallIs .discharging (chanIs 1 .hall .ready base) with
      vcu.outputOn := some 0, fiu.key.changeRun := some 9900 }
      (fun n => n.hsq.hall == .soak && n.vcu.outputOn == none && (n.chan 1).state == .isolated) = true :=
  by decide
theorem test_countdownExpiry :
    leaves .countdownExpiry { hallIs .countdown (chanIs 2 .hall .ready base) with
      hsq.countdown := .running 10000, hsq.mode := .fallback }
      (fun n => n.hsq.hall == .discharging && n.vcu.queue == [2] && (n.row 12).void && n.pou.sign) =
      true := by decide
theorem test_pulseStart :
    leaves .pulseStart { hallIs .discharging (chanIs 2 .hall .queued base) with vcu.queue := [2] }
      (fun n => n.vcu.outputOn == some 2 && n.vcu.stagger == some 12000 && n.vcu.queue == []) = true := by
  decide
theorem test_cylinderPressureRead :
    leaves (.cylinderPressureRead 2 20) (chanIs 2 .hall .ready base)
      (fun n => (n.chan 2).state == .low && n.flag .cylLow && !n.pou.troubleClosed) = true := by decide
/-- The confirmed place ends the feed: its FED goes to the outbox, and the entry is fed and gone. -/
theorem test_pulseLengthExpiry_feed :
    leaves .pulseLengthExpiry { feeding.modChan 3 (fun x => { x with flowSeen := true }) with
      vcu.outputOn := some 3, vcu.pulseEnd := some 10000 }
      (fun n => n.rva.feed == none && n.lkc.outbox.fed.any (fun a => a.outcome == .complete) &&
        n.entry 7 == none && (n.chan 3).state == .spent) = true := by decide
theorem test_selectorLimitRead :
    leaves (.selectorLimitRead true true) base
      (fun n => n.vcu.selector.state == .jammed && n.flag .selectorJam) = true := by decide
theorem test_bidReceived :
    leaves (.bidReceived 7 0 2 .ordinary) holder
      (fun n => (n.entry 7).any (fun e => e.granted == 1) && (n.chan 3).state == .committed) = true := by
  decide
/-- An entry created anew while the node's WAYOPEN still waits has no hold running. -/
theorem test_bidReceived_wayopenWaits :
    leaves (.bidReceived 8 0 2 .ordinary) { feeding with rva.feedQueue := [(8, 1)] }
      (fun n => (n.entry 8).any (fun e => e.taken == .waiting && e.hold == none)) = true := by decide
theorem test_wayopenReceived :
    leaves (.wayopenReceived 7 0 2) { committed 3 7 holder with rva.bids := [granted 7 1] }
      (fun n => n.vcu.queue == [3] && n.rva.feed.any (fun f => f.grantee == 7)) = true := by decide
theorem test_frameOffer :
    leaves (.frameOffer none) { linkIs .joined base with lkc.outbox.yieldTo := some 4 }
      (fun n => n.lkc.inFlight == some (.yield 0 4) && n.lkc.outbox.yieldTo == none) = true := by decide
/-- The late echo of a STANDING dropped in flight at the entry to LOST is heard: no clash. -/
theorem test_standingReceived_lateEcho :
    leaves (.standingReceived 0 atRest)
      { linkIs .lost base with lkc.dropped := some (.standing 0 atRest) }
      (fun n => n.lkc.link == .listen && !n.lkc.clash) = true := by decide
theorem test_badFrame :
    leaves (.badFrame [1, 2, 3]) base (fun n => n.lkc.badFrames == 1) = true := by decide
theorem test_silenceTimerExpiry :
    leaves .silenceTimerExpiry { base with lkc.silence := some 10000 }
      (fun n => n.lkc.link == .lost && n.flag .linkLost && !n.pou.troubleClosed) = true := by decide
theorem test_slotWaitExpiry :
    leaves .slotWaitExpiry { hallIs .awaitSlot base with vsu.sought := true, vsu.slotWait := some 10000 }
      (fun n => n.hsq.hall == .discharging && n.flag .ventForced) = true := by decide
/-- A VENTFREE of a node that is not in the vent queue gives no slot. -/
theorem test_ventfreeReceived_notQueued :
    leaves (.ventfreeReceived 3 5) { hallIs .awaitSlot (linkIs .joined base) with
      cfs.cfg.ventGroup := 5, cfs.cfg.ventCapacity := 1, vsu.sought := true, vsu.own := .queued,
      vsu.queue := [0] }
      (fun n => n.hsq.hall == .awaitSlot) = true := by decide
theorem test_supervisionRead :
    leaves (.supervisionRead .sign .openLine) { base with
      pou.sup := base.pou.sup.set 2 { base.pou.sup.get 2 with faultRun := some 9000 } }
      (fun n => n.flag .outputFault && (n.pou.sup.get 2).kind == some .openLoop) = true := by decide
theorem test_storeWriteRow :
    leaves (.storeWriteRow 0x0E) (writing 0xBA { locked with svp.rowNumber := 5 })
      (fun n => (n.row 5).void && n.svp.result == .accepted && n.cfs.configPending &&
        n.cfs.busy.any (fun w => w.ends == 10006)) = true := by decide
theorem test_clearRelease :
    leaves .clearRelease (writing 0xB5 (hallIs .spent locked))
      (fun n => n.svp.result == .accepted && n.cfs.busy.any (fun w => w.kind == .erase)) = true := by
  decide
theorem test_stickyFlagClear :
    leaves (.stickyFlagClear 0x01) (writing 0x1F (base.setFlag .confirmed))
      (fun n => !n.flag .confirmed && !n.pou.attn && n.svp.index == 0x20) = true := by decide
theorem test_windowRecordRead :
    leaves .windowRecordRead { base with svp.transaction := .addressedRead, svp.index := 0xF8 }
      (fun n => n.svp.index == 0xF8 && n.svp.pointers.get 6 == 1 && n.svp.out == [0, 0]) = true := by
  decide
theorem test_badFrameCounterRead :
    leaves .badFrameCounterRead
      { base with svp.transaction := .addressedRead, svp.index := 0x70, lkc.badFrames := 300 }
      (fun n => n.lkc.badFrames == 0 && n.svp.out == [44, 1] && n.svp.counterTaken) = true := by decide
/-- A command's code is shown at its index. -/
theorem test_snap_code :
    leaves .snap (writing 0xB5 base) (fun n => viewByte n n.svp.pointers 0xB5 == 1) = true := by decide
theorem test_startCondition :
    leaves (.startCondition 0x60 false) base
      (fun n => n.svp.transaction == .addressedWrite && n.svp.expectIndex) = true ∧
    leaves (.startCondition 0x61 false) base (fun n => n.svp.transaction == .idle) = true := by decide

/-! ## States that meet the statements' hypotheses -/

/-- A running countdown that ends at a moment. -/
def counting (ends : Time) (n : Node) : Node := { hallIs .countdown n with hsq.countdown := .running ends }

/-- A channel whose output draws current since a moment. -/
def drawing (c : ChanId) (since : Time) (n : Node) : Node :=
  n.modChan c (fun x => { x with currentSince := some since })

/-- A claimant of holder 4, JOINED and DISCHARGING, with its reserve wait running. -/
def claimant (p : FeedPhase) : Node :=
  { linkIs .joined (hallIs .discharging base) with
    cfs.cfg.holder := some 4, rcl.phase := p, rcl.wait := .running 10000, rcl.bid := .placed,
    rcl.n := 2, hsq.reservePhase := .opened }

/-- A member of vent group 5, JOINED, in AWAIT_SLOT with a slot sought. -/
def waiting : Node :=
  { linkIs .joined (hallIs .awaitSlot base) with
    cfs.cfg.ventGroup := 5, cfs.cfg.ventCapacity := 1, vsu.sought := true, vsu.own := .placed,
    vsu.queue := [3, 0], vsu.slotWait := some 10000 }

/-! ## What the sequencer, the reserve client and the others do with it -/

/-- Without a confirmation the hall follows the causes: ALERT ends without one, and one latched zone beside
one in fault runs the degraded confirm timer. -/
theorem test_zoneSample_causes :
    leaves (.zoneSample .a 60) (hallIs .alert base) (fun n => n.hsq.hall == .quiet) = true ∧
    leaves (.zoneSample .b 410)
      { base with
        hsq.latchedA := true, fiu.zoneA.latched := true, fiu.zoneB.faultRun := some 9000,
        cfs.cfg.degradedDelay := 30 }
      (fun n => n.hsq.hall == .alert && n.hsq.degraded == some 40000) = true := by decide

/-- A node whose bid can be placed: JOINED, its holder 4 PRESENT with a holder part. -/
def bidder : Node :=
  (linkIs .joined { base with cfs.cfg.holder := some 4 }).setPeer 4
    { Peer.start with present := true, holderPart := some ⟨0, false, []⟩ }

/-- The same with the sensor, the coefficients and the demand of section 3.5, no own groups, and both zones
about to be latched. -/
def confirming (n : Node) : Node :=
  { n with
    fiu.temp.status := .ok, fiu.temp.value := some 225, fiu.zoneB.latched := true,
    hsq.latchedB := true, fiu.zoneA.alarmRun := some ⟨8000, false⟩, cfs.cfg.countdown := 1,
    cfs.cfg.volume := 1200, cfs.cfg.concentration := 700, cfs.cfg.factor := 110, cfs.cfg.k1 := 12000,
    cfs.cfg.k2 := 4800, cfs.cfg.tmin := 100, cfs.cfg.tmax := 350, cfs.cfg.mh := 1800,
    cfs.cfg.mr := 1500 }

/-- The entry to COUNTDOWN bids for the plan's n_res groups, or holds the bid where it cannot be placed. -/
theorem test_zoneSample_bids :
    leaves (.zoneSample .a 200) (confirming bidder) (fun n => n.apl.nRes == 6 &&
      n.rcl == { Rcl.start with n := 6, bid := .queued } &&
      n.lkc.outbox.bid == some ⟨4, 6, .ordinary⟩) = true ∧
    leaves (.zoneSample .a 200) (confirming (linkIs .listen bidder)) (fun n =>
      n.rcl == { Rcl.start with n := 6, bid := .held } && n.lkc.outbox.bid == none) = true := by
  decide +kernel

/-- A countdown about to expire with a reserve plan of 2 groups, or of none. -/
def replanning (wd : Nat) (n : Node) : Node :=
  { counting 10000 n with apl.wd := wd, cfs.cfg.mh := 50, cfs.cfg.mr := 50 }

/-- The re-plan brings the bid to the new count: placed anew, left as it is, or given up with a YIELD. -/
theorem test_countdownExpiry_bids :
    leaves .countdownExpiry (replanning 100 bidder)
      (fun n => n.rcl.bid == .queued && n.lkc.outbox.bid == some ⟨4, 2, .ordinary⟩) = true ∧
    leaves .countdownExpiry { replanning 100 bidder with rcl.bid := .placed, rcl.n := 2 }
      (fun n => n.rcl.bid == .placed && n.lkc.outbox.bid == none) = true ∧
    leaves .countdownExpiry { replanning 0 bidder with rcl.bid := .placed, rcl.n := 2 }
      (fun n => n.rcl.bid == .none && n.lkc.outbox.yieldTo == some 4) = true := by decide

/-- The holder's STANDING with a grant opens the selector, or sends the WAYOPEN where it is OPEN. -/
theorem test_standingReceived_grant :
    leaves (.standingReceived 4 (withPart ⟨0, false, [⟨0, 1⟩]⟩)) (claimant .waitingGrant)
      (fun n => n.rcl.phase == .opening && n.vcu.selector.drive == .driveOpen) = true ∧
    leaves (.standingReceived 4 (withPart ⟨0, false, [⟨0, 1⟩]⟩))
      { claimant .waitingGrant with vcu.selector.state := .opened }
      (fun n => n.rcl.phase == .requested && n.lkc.outbox.wayopen == some (4, 1)) = true := by decide

/-- A loss of the holder in DISCHARGING with a grant heard ends the phase IDLE too (R128; log 37). -/
theorem test_presenceTimerExpiry_idle :
    leaves (.presenceTimerExpiry 4)
      ({ claimant .idle with rcl.grantHeard := 1, hsq.reservePhase := .resolved }.setPeer 4
        { Peer.start with present := true, presence := some 10000 })
      (fun n => n.rcl.phase == .done && n.rcl.outcome == .lost && n.flag .holderLost) = true := by decide

/-- LOAD's reading of a void row 12 shows the record, the flag, the trouble and the hall (R164; log 51). -/
theorem test_load_upTo_voidRow :
    leaves (.load { ordinary with upTo := 13 }) (voidRow 12 State.reset.node)
      (fun n => n.cfs.phase == .validate && n.cfs.release.state == .unreadable && n.cfs.releaseTrouble &&
        n.flag .releaseRowLost && n.hsq.hall == .spent) = true := by decide

/-! ## The statements' hypotheses, one theorem for each statement -/

theorem test_meets_EmptyQueueLetsOneMillisecondPass :
    (st base).pending = [] ∧ State.reset.node.running = false ∧ (∀ o ∈ dueList base, o = none) ∧
    dueCommand { base with hsq.soak := some 10000 } = some .soakExpiry := by decide
theorem test_meets_EventsOutsideRunChangeNothing :
    State.reset.node.running = false ∧ { base with supplyLow := true }.running = false := by decide
theorem test_meets_ZoneSampleClassifiesLatchesAndFaults :
    base.running = true ∧ 8000 + base.cfg.verifyA ≤ base.now ∧ 9000 + 1000 ≤ base.now ∧
    ({ base with fiu.zoneB.isolated := true }.fiu.zoneB.isolated = true) ∧
    { base with cfs.cfg.verifyA := 0 }.cfg.verifyA = 0 ∧
    { base with fiu.zoneA.fault := true, fiu.zoneA.normalRun := some 9001 }.fiu.zoneA.fault = true := by
  decide
theorem test_meets_SecondZoneLatchConfirms :
    let n := { base with
      cfs.cfg.countdown := 1, fiu.zoneB.latched := true, fiu.zoneA.alarmRun := some ⟨8000, false⟩ }
    n.running = true ∧ n.hsq.mode = .normal ∧ (n.hsq.hall = .quiet ∨ n.hsq.hall = .alert) ∧
    n.hsq.manualOverride = false ∧ n.fiu.key.delivered = .normal ∧ 0 < n.cfg.countdown ∧
    n.fiu.zoneA.latched = false ∧ n.fiu.zoneA.alarmRun = some ⟨8000, false⟩ ∧
    8000 + n.cfg.verifyA ≤ n.now ∧ n.fiu.zoneB.latched = true := by decide
theorem test_meets_InputSamplesWithoutEvent :
    base.running = true ∧ base.now < 9501 + 500 ∧ base.now < 9801 + 200 ∧ base.now < 9901 + 100 ∧
    base.fiu.station.opRun = none ∧ base.fiu.hold.changeRun = none ∧
    base.fiu.key.changeRun = none := by decide
theorem test_meets_ManualReleaseByHallState :
    9500 + 500 ≤ base.now ∧ 0 < 1000 * base.cfg.manualCountdown ∧
    0 < min (counting 10001 base).remaining (1000 * base.cfg.manualCountdown) ∧
    (hallIs .soak base).hsq.hall = .soak ∧ (hallIs .awaitSlot base).hsq.hall = .awaitSlot := by decide
theorem test_meets_HoldSwitchHoldsAndResumes :
    let pressed := { counting 14000 base with fiu.hold.changeRun := some 9800 }
    let freed := { hallIs .hold base with
      fiu.hold.changeRun := some 9800, fiu.hold.delivered := .operated, hsq.countdown := .held 1 }
    pressed.running = true ∧ pressed.fiu.hold.changeRun = some 9800 ∧ 9800 + 200 ≤ pressed.now ∧
    pressed.fiu.hold.delivered = .released ∧ pressed.hsq.manualOverride = false ∧
    freed.fiu.hold.delivered = .operated ∧ freed.hsq.hall = .hold ∧
    0 < max freed.remaining (1000 * freed.cfg.holdRestart) := by decide
theorem test_meets_KeyToIsolateLocksOut :
    let n := { hallIs .discharging base with fiu.key.changeRun := some 9900 }
    let m := { chanIs 3 .reserve .queued feeding with vcu.queue := [3], fiu.key.changeRun := some 9900 }
    n.running = true ∧ ¬ (false = true ∧ true = false) ∧ n.fiu.key.delivered = .normal ∧
    n.fiu.key.changeRun = some 9900 ∧ 9900 + 100 ≤ n.now ∧ n.hsq.hall = .discharging ∧
    m.rva.feed.any (fun f => !f.orphaned && f.places == [⟨3, .pending⟩]) = true ∧
    3 ∈ m.vcu.queue ∧ (m.chan 3).state = .queued ∧ (m.chan 3).requester = .rva ∧
    m.rva.feedQueue = [] ∧ m.rva.answers = [] ∧ m.lkc.outbox.fed = none ∧ m.lkc.inFlight = none ∧
    m.lkc.link ≠ .lost := by decide
theorem test_meets_KeyToNormalLeavesLockout :
    let n := { hallIs .lockout locked with
      fiu.key.changeRun := some 9900, hsq.latchedA := true, hsq.latchedB := true,
      cfs.cfg.countdown := 1 }
    n.running = true ∧ n.fiu.key.delivered = .isolate ∧ n.fiu.key.changeRun = some 9900 ∧
    9900 + 100 ≤ n.now ∧ n.hsq.hall = .lockout ∧ n.hsq.latchedA = true ∧ n.hsq.latchedB = true ∧
    n.hsq.mode = .normal ∧ 0 < n.cfg.countdown := by decide
theorem test_meets_TemperatureAndHallPressureReads :
    let n := hallIs .discharging base
    n.running = true ∧ n.vcu.deferral = .inactive ∧ (n.cfg.pressureLimit : Int) ≤ 400 ∧
    (399 : Int) < (n.cfg.pressureLimit : Int) ∧ (249 : Int) < (n.cfg.resumeThreshold : Int) ∧
    (n.cfg.resumeThreshold : Int) ≤ 250 ∧
    { n with vcu.deferral := .waived }.vcu.deferral = .waived := by decide
theorem test_meets_DegradedExpiryConfirmsAndEpoPointIsMarked :
    let n := { base with hsq.degraded := some 10000, cfs.cfg.countdown := 1 }
    let m := { counting 20000 base with cfs.cfg.epoEnable := true, cfs.cfg.epoLead := 10 }
    n.running = true ∧ n.hsq.mode = .normal ∧ n.hsq.degraded = some 10000 ∧ 10000 ≤ n.now ∧
    n.hsq.hall = .quiet ∧ n.hsq.manualOverride = false ∧ 0 < n.cfg.countdown ∧
    m.hsq.hall = .countdown ∧ m.cfg.epoEnable = true ∧ 0 < m.cfg.epoLead ∧
    m.remaining ≤ 1000 * m.cfg.epoLead := by decide
theorem test_meets_CountdownExpiryByModeAndLink :
    let n := { counting 10000 (linkIs .joined base) with cfs.cfg.ventGroup := 1 }
    n.running = true ∧ n.hsq.hall = .countdown ∧ n.hsq.countdown = .running 10000 ∧
    10000 ≤ n.now ∧ n.hsq.mode = .normal ∧ n.lkc.link ≠ .lost ∧ 0 < n.cfg.ventGroup ∧
    (counting 10000 base).cfg.ventGroup = 0 ∧ (linkIs .lost (counting 10000 base)).lkc.link = .lost := by
  decide
theorem test_meets_DischargeEntryRequestsTheOwnGroups :
    let n := { counting 10000 base with
      apl.wd := 100, cfs.cfg.mh := 50, cfs.cfg.mr := 50, cfs.cfg.holder := some 4 }
    n.hsq.mode = .normal ∧ n.cfg.ventGroup = 0 ∧ n.vcu.selector.state ≠ .jammed ∧
    leaves .countdownExpiry n (fun m => m.apl.nRes == 2 && m.hsq.reservePhase == .opened) = true := by
  decide
theorem test_meets_DurationAndSoakExpiryEndTheDischarge :
    let n := { hallIs .discharging base with
      hsq.duration := some 10000, hsq.reservePhase := .resolved, hsq.firing := [(1, .confirmed)] }
    n.running = true ∧ n.hsq.duration = some 10000 ∧ 10000 ≤ n.now ∧
    (∀ e ∈ n.hsq.firing, e.2 ≠ .pending) ∧ n.hsq.reservePhase = .resolved ∧
    { hallIs .soak base with hsq.soak := some 10000 }.hsq.soak = some 10000 := by decide
theorem test_meets_CylinderReadMovesTheChannel :
    base.running = true ∧ base.cfg.fullThreshold ≤ min 90 150 ∧ ¬ base.cfg.fullThreshold ≤ min 89 150 ∧
    ((chanIs 1 .reserve .low base).chan 1).state = .low ∧
    ((committed 1 4 base).chan 1).state = .committed ∧ ((chanIs 1 .hall .queued base).chan 1).role = .hall ∧
    (let n := { chanIs 1 .hall .firing base with vcu.outputOn := some 1 }
     (n.chan 1).state = .firing ∧ (n.chan 1).driveCut = false ∧ n.vcu.outputOn = some 1) ∧
    (feeding.chan 3).state = .firing ∧ feeding.vcu.outputOn ≠ some 3 ∧
    (feeding.chan 3).currentSince = none ∧ (feeding.chan 3).requester = .rva ∧ min 49 150 < 50 ∧
    feeding.rva.feed.any (fun f => f.places == [⟨3, .pending⟩]) = true := by decide
theorem test_meets_ArbiterStartsTheOldestEligibleEntry :
    let n := { hallIs .discharging (chanIs 1 .unused .queued (chanIs 2 .hall .queued base)) with
      vcu.queue := [1, 2] }
    n.running = true ∧ n.vcu.outputOn = none ∧ (∀ c, (n.chan c).currentSince = none) ∧
    n.vcu.stagger = none ∧ n.fiu.key.delivered = .normal ∧ n.vcu.queue = [1] ++ 2 :: [] ∧
    (n.chan 1).role = .unused ∧ (n.chan 2).role = .hall ∧ n.vcu.deferral ≠ .active ∧
    n.hsq.hall = .discharging := by decide
theorem test_meets_PulseEndConfirmsAnOwnGroup :
    let n := { hallIs .discharging (drawing 1 9000 (chanIs 1 .hall .firing base)) with
      vcu.pulseEnd := some 10000, vcu.outputOn := some 1, apl.stage := .replanned }
    let m := n.modChan 1 (fun x => { x with flowSeen := true, requester := .hsq })
    n.running = true ∧ n.vcu.pulseEnd = some 10000 ∧ 10000 ≤ n.now ∧ n.vcu.outputOn = some 1 ∧
    (n.chan 1).state = .firing ∧ (n.chan 1).driveCut = false ∧ (n.chan 1).selfDriven = false ∧
    (n.chan 1).flowSeen = false ∧ (m.chan 1).flowSeen = true ∧ (m.chan 1).requester = .hsq ∧
    m.hsq.hall = .discharging ∧ m.apl.stage ≠ .none ∧
    ((n.modChan 1 (fun x => { x with window := some 12000 })).chan 1).window.isSome = true ∧
    (n.chan 1).window = none ∧ { m with vcu.outputOn := some 1 }.hsq.hall = .discharging := by decide
/-- The feed's clauses of a confirmed and of a failed place: the only place resolved, and its substitute. -/
theorem test_meets_feedFollows :
    let n := chanIs 4 .reserve .ready feeding
    n.rva.feed.any (fun f => f.grantee == 7 && !f.orphaned && f.used == [3]) = true ∧
    n.freeReserve.filter (fun d => d ∉ [3]) = [4] ∧ feeding.freeReserve = [] ∧
    n.rva.feedQueue = [] ∧ n.rva.answers = [] ∧ n.lkc.outbox.fed = none ∧ n.lkc.inFlight = none ∧
    n.lkc.link ≠ .lost ∧
    n.rva.bids.filter (fun y => y.node = 7) = [{ freshEntry 7 1 .ordinary .running with inFeed := 1 }] ∧
    1 ≤ 0 + 1 := by decide
theorem test_meets_WindowEndFailsAGroupAndSubstitutes :
    let n := { hallIs .discharging (chanIs 2 .hall .ready (chanIs 1 .hall .firing base)) with
      hsq.firing := [(1, .pending)] }
    let m := n.modChan 1 (fun x => { x with window := some 10000, requester := .hsq })
    m.running = true ∧ (m.chan 1).window = some 10000 ∧ 10000 ≤ m.now ∧ (m.chan 1).state = .firing ∧
    (m.chan 1).driveCut = false ∧ m.vcu.outputOn ≠ some 1 ∧ (m.chan 1).currentSince = none ∧
    (m.chan 1).flowSeen = false ∧ (m.chan 1).requester = .hsq ∧ m.hsq.hall = .discharging ∧
    m.readyHall.filter (fun d => d ∉ m.hsq.firing.map Prod.fst) = [2] ∧
    { m with hsq.firing := [(1, .pending), (2, .confirmed)] }.readyHall.filter
      (fun d => d ∉ [1, 2]) = [] ∧ m.hsq.elapsed = false ∧
    (let f := feeding.modChan 3 (fun x => { x with window := some 10000 })
     (f.chan 3).window = some 10000 ∧ (f.chan 3).requester = .rva ∧ (f.chan 3).state = .firing ∧
     (f.chan 3).flowSeen = false ∧ f.vcu.outputOn ≠ some 3) := by decide
theorem test_meets_StaggerAndDeferTimersExpire :
    let n := { base with vcu.stagger := some 10000, vcu.deferTimer := some 10000, vcu.deferral := .active }
    n.running = true ∧ n.vcu.stagger = some 10000 ∧ n.vcu.deferTimer = some 10000 ∧ 10000 ≤ n.now ∧
    n.vcu.deferral = .active := by decide
theorem test_meets_DriveMonitorTimesAndCutsTheCurrent :
    let n := drawing 1 7000 (chanIs 1 .hall .queued base)
    n.running = true ∧ (n.chan 1).currentSince = some 7000 ∧ 7000 + 3000 ≤ n.now ∧
    n.now < 7001 + 3000 ∧ (n.chan 1).driveCut = false ∧ (n.chan 1).role ≠ .unused ∧
    (n.chan 1).state = .queued ∧ ((drawing 1 7000 base).chan 1).role = .unused ∧
    ((drawing 1 7000 base).chan 1).state = .isolated := by decide
theorem test_meets_SelectorFollowsItsReadingsAndTravelTimer :
    let n := { claimant .opening with
      vcu.selector.state := .opening, rcl.grantHeard := 1, vcu.selector.travel := some 10000 }
    n.running = true ∧ n.vcu.selector.state = .opening ∧ n.rcl.phase = .opening ∧
    0 < n.rcl.grantHeard ∧ n.cfg.holder.isSome = true ∧ n.lkc.link ≠ .lost ∧
    n.vcu.selector.travel = some 10000 ∧ 10000 ≤ n.now ∧ n.vcu.selector.state ≠ .jammed ∧
    (selReading true false, selReading false true, selReading false false, selReading true true) =
      (.opened, .closed, .moving, .fault) := by decide
theorem test_meets_StatusExpiryQueuesAStanding :
    let n := { base with lkc.status := some 10000 }
    n.running = true ∧ n.lkc.status = some 10000 ∧ 10000 ≤ n.now := by decide
theorem test_meets_ListenExpiryJoinsAndRebuilds :
    let n := { chanIs 3 .reserve .ready base with
      lkc.listen := some 10000, cfs.cfg.ventGroup := 5, vsu.own := .held, rcl.bid := .held,
      cfs.cfg.holder := some 4 }
    let m := n.setPeer 4 { Peer.start with present := true, holderPart := some ⟨0, false, []⟩ }
    m.running = true ∧ m.lkc.listen = some 10000 ∧ 10000 ≤ m.now ∧ m.lkc.link = .listen ∧
    m.rvaActive = true ∧ m.vsuActive = true ∧ m.vsu.own = .held ∧ m.rcl.bid = .held ∧
    m.cfg.holder = some 4 ∧ (m.peer 4).present = true ∧ (m.peer 4).holderPart.isSome = true ∧
    m.vcu.selector.state ≠ .jammed := by decide
theorem test_meets_SilenceOrPlacementExpiryLosesTheLink :
    let n := { hallIs .awaitSlot base with lkc.silence := some 10000, lkc.placement := some 10000 }
    n.running = true ∧ n.lkc.link ≠ .lost ∧ n.lkc.silence = some 10000 ∧
    n.lkc.placement = some 10000 ∧ 10000 ≤ n.now ∧ n.hsq.hall = .awaitSlot := by decide
theorem test_meets_PresenceExpiryMakesThePeerAbsent :
    let n := { waiting.setPeer 3 { Peer.start with present := true, presence := some 10000 } with
      cfs.cfg.holder := some 3, rcl.grantHeard := 1 }
    n.running = true ∧ (n.peer 3).presence = some 10000 ∧ 10000 ≤ n.now ∧ n.lkc.link = .joined ∧
    n.vsuTakes = true ∧ 3 ≠ n.id ∧ n.cfg.holder = some 3 ∧ 0 < n.rcl.grantHeard ∧
    n.hsq.hall ≠ .quiet ∧ n.hsq.hall ≠ .alert := by decide
theorem test_meets_StandingReceivedFillsThePeerTable :
    let n := { linkIs .lost base with cfs.cfg.holder := some 2, lkc.dropped := some (.standing 0 atRest) }
    let m := { linkIs .joined base with lkc.inFlight := some (.standing 0 atRest) }
    let inGroup := { atRest with ventGroup := 5, ventStatus := .waiting }
    n.running = true ∧ n.lkc.clash = false ∧ 2 ≠ n.id ∧ (withPart ⟨1, false, []⟩).valid = true ∧
    (n.peer 2).present = false ∧ n.cfg.holder = some 2 ∧
    (n.peer 2).holderPart ≠ (withPart ⟨1, false, []⟩).holderPart ∧ n.lkc.link = .lost ∧
    n.lkc.dropped = some (.standing n.id atRest) ∧ atRest.valid = true ∧
    m.lkc.inFlight = some (.standing m.id atRest) ∧
    waiting.vsuTakes = true ∧ (waiting.peer 3).present = false ∧ inGroup.valid = true ∧
    inGroup.ventGroup = waiting.cfg.ventGroup ∧ 3 ∈ waiting.vsu.queue ∧ 4 ∉ waiting.vsu.queue ∧
    atRest.ventGroup ≠ waiting.cfg.ventGroup ∧ feeding.entry 7 ≠ none ∧ feeding.lkc.link = .joined ∧
    ¬ 0 < atRest.wanted := by decide
theorem test_meets_OwnIdStandingIsAClash :
    base.running = true ∧ base.lkc.clash = false ∧ atRest.valid = true ∧
    base.lkc.inFlight ≠ some (.standing base.id atRest) ∧ base.lkc.link ≠ .lost ∧
    (linkIs .lost base).lkc.dropped ≠ some (.standing base.id atRest) := by decide
theorem test_meets_BadFrameIsOnlyCounted :
    base.running = true ∧ parse [1, 2, 3] = none ∧ (Frame.vent 2 16).valid = false ∧
    (Frame.vent 2 1).valid = true ∧ { base with lkc.clash := true }.lkc.clash = true ∧
    parse (encode (.vent 2 1)) = some (.vent 2 1) := by decide
theorem test_meets_OtherKindsWaitForTheJoin :
    base.running = true ∧ (Instr.ventReceived 2 1).frame? = some (.vent 2 1) ∧
    (Frame.vent 2 1).valid = true ∧ base.lkc.clash = false ∧ base.lkc.inFlight = none ∧
    base.lkc.link ≠ .joined ∧ (linkIs .lost base).lkc.link = .lost := by decide
theorem test_meets_OfferTakesTheFirstKind :
    let n := { linkIs .joined base with lkc.outbox.standing := true }
    let m := { linkIs .listen base with lkc.outbox := { Outbox.empty with vent := some 5 } }
    n.running = true ∧ n.lkc.inFlight = none ∧ n.lkc.clash = false ∧ n.lkc.link = .joined ∧
    n.lkc.outbox.standing = true ∧ base.lkc.outbox = Outbox.empty ∧ base.lkc.link ≠ .joined ∧
    m.lkc.link ≠ .joined ∧ m.lkc.outbox.standing = false ∧ frameLength (.vent 0 5) * 8 = 56 := by
  decide
theorem test_meets_EchoPlacesTheBid :
    let n := { holder with lkc.inFlight := some (.bid 0 0 8 .ordinary), rcl.bid := .queued }
    let m := { waiting with vsu.own := .queued, lkc.inFlight := some (.vent 0 5) }
    n.running = true ∧ n.lkc.clash = false ∧ n.lkc.link = .joined ∧
    n.lkc.inFlight = some (.bid n.id 0 8 .ordinary) ∧ n.rcl.bid = .queued ∧
    n.lkc.outbox.bid = none ∧ n.rvaActive = true ∧ n.entry n.id = none ∧
    m.lkc.link = .joined ∧ m.vsuActive = true ∧ m.cfg.ventGroup = 5 ∧
    m.lkc.inFlight = some (.vent m.id 5) ∧ m.lkc.outbox.vent = none ∧ m.hsq.hall = .awaitSlot ∧
    m.vsu.sought = true ∧ ([3, 0] : List NodeId).findIdx (fun i => i = m.id) = 1 ∧
    (Instr.ventReceived 0 5).frame? = some (.vent 0 5) ∧ frameSource (.vent 0 5) = base.id ∧
    (Frame.vent 0 5).valid = true ∧ base.lkc.inFlight ≠ some (.vent 0 5) := by decide
theorem test_meets_BidCreatesAnEntryInItsPlace :
    let n := { committed 3 7 holder with rva.bids := [granted 7 1] }
    holder.running = true ∧ holder.lkc.clash = false ∧ holder.lkc.link = .joined ∧
    holder.lkc.inFlight = none ∧ 7 ≠ holder.id ∧ holder.rvaActive = true ∧ holder.entry 7 = none ∧
    holder.fiu.key.delivered = .normal ∧ (∀ x ∈ holder.rva.bids, x.outstanding = 0) ∧
    n.rva.bids.filter (fun y => y.node = 7) = [granted 7 1] ∧ (granted 7 1).fed < 1 ∧
    { granted 7 1 with fed := 1, granted := 0 }.inFeed = 0 ∧
    { granted 7 1 with fed := 1, granted := 0 }.fed = 1 ∧ 0 < (granted 7 2).granted - 1 := by decide
theorem test_meets_YieldAndGrantHoldExpiryRemoveTheEntry :
    let n := { committed 3 7 holder with rva.bids := [{ granted 7 1 with hold := some 10000 }] }
    n.running = true ∧ n.lkc.clash = false ∧ n.lkc.link = .joined ∧ n.lkc.inFlight = none ∧
    7 ≠ n.id ∧ n.rvaActive = true ∧ n.entry 7 = some { granted 7 1 with hold := some 10000 } ∧
    10000 ≤ n.now := by decide
theorem test_meets_WayopenIsAnsweredOrStartsAFeed :
    let n := { committed 3 7 holder with rva.bids := [granted 7 1] }
    n.running = true ∧ n.lkc.clash = false ∧ n.lkc.link = .joined ∧ n.lkc.inFlight = none ∧
    7 ≠ n.id ∧ n.rvaActive = true ∧ n.rva.feed = none ∧ n.rva.feedQueue = [] ∧
    n.fiu.key.delivered = .normal ∧ n.entry 7 = some (granted 7 1) ∧ 0 < (granted 7 1).granted ∧
    (n.committedTo 7).length = (granted 7 1).granted ∧ (n.chan 3).role = .reserve ∧
    n.entry 8 = none ∧ n.rva.answers = [] ∧ n.lkc.outbox.fed = none ∧ (granted 7 0).granted = 0 ∧
    { n with fiu.key.delivered := .isolate }.fiu.key.delivered = .isolate ∧
    (let m := { committed 4 8 feeding with rva.bids := feeding.rva.bids ++ [granted 8 1] }
     m.rva.feed.any (fun f => f.grantee == 7 && f.places == [⟨3, .pending⟩]) = true ∧
     m.rva.feedQueue = [] ∧ m.entry 8 = some (granted 8 1) ∧ 0 < (granted 8 1).granted ∧
     { m with rva.feedQueue := [(8, 1)] }.rva.feedQueue = [(8, 1)]) := by decide
theorem test_meets_FedAnswersTheWayopen :
    let n := claimant .requested
    n.running = true ∧ n.lkc.clash = false ∧ n.lkc.link = .joined ∧ n.lkc.inFlight = none ∧
    4 ≠ n.id ∧ n.cfg.holder = some 4 ∧ n.rcl.phase = .requested ∧ n.hsq.reservePhase = .opened ∧
    n.rcl.wait = .running 10000 ∧ n.hsq.hall = .discharging ∧ 0 < n.rcl.n - min 8 (n.rcl.fed + 1) ∧
    n.rcl.n - min 8 (n.rcl.fed + 2) = 0 ∧ n.cfg.holder ≠ some 5 ∧
    { n with rcl.wait := .expired }.rcl.wait = .expired := by decide
theorem test_meets_ReserveWaitExpiryEndsThePhase :
    let n := claimant .waitingGrant
    n.running = true ∧ n.rcl.wait = .running 10000 ∧ 10000 ≤ n.now ∧ n.rcl.phase ≠ .requested ∧
    n.hsq.reservePhase = .opened ∧ (claimant .requested).rcl.phase = .requested := by decide
theorem test_meets_FeedTimeoutAndFlowTimerExpire :
    let n := { claimant .requested with rcl.feedTimeout := some 10000 }
    let m := { claimant .done with
      rcl.flowTimer := some 10000, rcl.closePending := true, vcu.selector.state := .opened }
    n.running = true ∧ n.rcl.feedTimeout = some 10000 ∧ 10000 ≤ n.now ∧ n.rcl.phase = .requested ∧
    n.hsq.reservePhase = .opened ∧ m.rcl.flowTimer = some 10000 ∧ m.rcl.closePending = true ∧
    m.vcu.selector.state = .opened ∧ m.rcl.phase ≠ .requested := by decide
theorem test_meets_VentFramesAndSlotWait :
    waiting.running = true ∧ waiting.lkc.clash = false ∧ waiting.lkc.link = .joined ∧
    waiting.lkc.inFlight = none ∧ 3 ≠ waiting.id ∧ waiting.vsuActive = true ∧
    5 = waiting.cfg.ventGroup ∧ 4 ≠ waiting.cfg.ventGroup ∧ waiting.hsq.hall = .awaitSlot ∧
    waiting.vsu.sought = true ∧ waiting.id ∈ waiting.vsu.queue.filter (· ≠ 3) ∧
    waiting.vsu.slotWait = some 10000 ∧ 10000 ≤ waiting.now := by decide
theorem test_meets_DemandFiguresAreRoundedAsStated :
    10 ≤ 1200 ∧ 1200 ≤ 30000 ∧ 300 ≤ 700 ∧ 700 ≤ 2000 ∧ 100 ≤ 110 ∧ 110 ≤ 150 ∧ 100000 ≤ 13080000 ∧
    13080000 ≤ 67000000 ∧ designMass (baseMass 10 300 67000000) 100 = 5 := by decide
theorem test_meets_PlanAtConfirmation :
    let n := { base with
      fiu.station.opRun := some ⟨9500, false⟩, fiu.temp.status := .ok, fiu.temp.value := some 225,
      cfs.cfg.tmin := 100, cfs.cfg.tmax := 350 }
    n.running = true ∧ 9500 + 500 ≤ n.now ∧ n.hsq.hall = .quiet ∧ n.hsq.mode = .normal ∧
    0 < n.cfg.manualCountdown ∧ n.fiu.temp.status = .ok ∧ n.fiu.temp.value = some 225 ∧
    n.cfg.tmin ≤ 225 ∧ (225 : Int) ≤ n.cfg.tmax ∧ base.fiu.temp.status ≠ .ok := by decide
theorem test_meets_EveryStepDrivesTheOutputsByTheirInputs :
    outputLaw base ∧ ∃ t, step (st base) = .next t := by
  exact ⟨⟨by decide, by decide, fun _ => by decide, by decide, by decide, by decide⟩, _, rfl⟩
theorem test_meets_SupervisionReadCountsTheRuns :
    let r := { base.pou.sup.get 2 with faultRun := some 9000 }
    let q := { base.pou.sup.get 2 with recRun := some 9000, inFault := true }
    base.running = true ∧ r.settle = none ∧ r.inFault = false ∧ r.faultRun = some 9000 ∧
    9000 + 1000 ≤ base.now ∧ q.inFault = true ∧ q.recRun = some 9000 ∧ q.settle = none ∧
    base.cfg.epoEnable = false ∧ { r with settle := some 10100 }.settle ≠ none ∧ outputLaw base :=
  ⟨by decide, by decide, by decide, by decide, by decide, by decide, by decide, by decide, by decide,
   by decide, by decide, by decide, fun _ => by decide, by decide, by decide, by decide⟩
theorem test_meets_SettleAndSounderPhaseEnd :
    let n := { hallIs .alert base with
      pou.stage := .stage1, pou.patternOn := true, pou.patternEnd := some 10000,
      pou.sup := base.pou.sup.set 2 { base.pou.sup.get 2 with settle := some 10000 } }
    n.running = true ∧ 10000 ≤ n.now ∧ (n.pou.sup.get (supIdx .sign)).settle = some 10000 ∧
    n.pou.patternEnd = some 10000 ∧ outputLaw n :=
  ⟨by decide, by decide, by decide, by decide,
   by decide, by decide, fun _ => by decide, by decide, by decide, by decide⟩
theorem test_meets_ResetsStartEveryRecordAfresh :
    let n := writing 0xB5 base
    n.held = false ∧ n.running = true ∧ n.cfs.busy = none ∧ n.svp.transaction = .addressedWrite ∧
    n.svp.expectIndex = false ∧ n.svp.nacked = false ∧ n.svp.index = 0xB5 ∧ n.lineHeld = false ∧
    n.supplyLow = false ∧ { n with supplyLow := true }.held = true ∧
    { n with supplyLow := true }.lineHeld = false ∧ { n with lineHeld := true }.held = true ∧
    { n with supplyLow := true, lineHeld := true }.supplyLow = true := by decide
theorem test_meets_LoadJudgesTheRowsAndEntersRun :
    State.reset.node = Node.start 0 0 shippedRows 0 .power ∧ 13 < ordinary.upTo ∧
    { ordinary with upTo := 13 }.upTo ≤ 13 ∧
    ¬ (120 ≤ ordinary.zoneA ∧ ordinary.zoneA < 400) ∧
    ¬ (120 ≤ ordinary.zoneB ∧ ordinary.zoneB < 400) :=
  ⟨rfl, by decide, by decide, by decide, by decide⟩
theorem test_meets_VoidReleaseRowRestartsSpent :
    ((voidRow 12 base).row 12).void = true ∧ (voidRow 12 base).lineHeld = false ∧
    13 < ordinary.upTo := by decide
theorem test_meets_RowWriteCompletes :
    let n := startWrite 12 .erase (releaseData 0 0 0 0 0) (hallIs .spent locked)
    let m := { n with now := 10006 }
    n.running = true ∧ n.cfs.busy.any (fun w => n.now < w.ends) = true ∧
    m.cfs.busy.any (fun w => w.ends ≤ m.now && w.kind == .erase) = true ∧
    m.cfs.releasePending = none ∧ m.hsq.hall = .spent ∧ m.fiu.key.delivered = .isolate ∧
    { m with cfs.releasePending := some (Vector.replicate 14 0) }.cfs.releasePending ≠ none := by decide
theorem test_meets_EveryStepKeepsTheReleaseRecord :
    releaseLaw base ∧ releaseLaw { hallIs .spent base with cfs.release.state := .released } := by
  refine ⟨⟨by decide, ?_⟩, ⟨by decide, ?_⟩⟩ <;> intro w hw <;> cases hw
theorem test_meets_EveryStepKeepsTheKeyLaw :
    keyLaw locked ∧ driveLaw locked ∧ quietLaw locked := by
  unfold keyLaw driveLaw quietLaw
  decide
theorem test_meets_EveryStepKeepsThePortInRange :
    portLaw base ∧ portLaw { base with svp.index := 0xFC, svp.count := 255 } := by
  unfold portLaw
  decide
theorem test_meets_AwaitSlotEndsWithASlotOrAFlag :
    waiting.running = true ∧ waiting.hsq.hall = .awaitSlot ∧
    leaves (.ventfreeReceived 3 5) waiting
      (fun n => n.hsq.hall == .discharging && n.holdsSlot && !n.flag .ventForced) = true := by decide
theorem test_meets_FrameBytesReadBackAsTheFrame :
    (Frame.standing 15 (withPart ⟨8, true, [⟨15, 8⟩]⟩)).valid = true ∧
    (Frame.fed 1 2 8 8 .refused).valid = true := by decide
theorem test_meets_PortTakesAddressAndIndex :
    let n := { writing 0 base with svp.expectIndex := true }
    n.held = false ∧ n.svp.transaction = .addressedWrite ∧ n.svp.expectIndex = true ∧
    n.svp.nacked = false ∧ (0xFC : Byte).toNat ≤ 0xFC ∧ 0xFC < (0xFD : Byte).toNat ∧
    (0x61 : BitVec 7) ≠ BitVec.ofNat 7 (0x60 + n.id.val) ∧
    { n with svp.autoSnap := false }.svp.autoSnap = false := by decide
theorem test_meets_PortReadsTheSnapshot :
    let n := { base with svp.transaction := .addressedRead, svp.index := 0xFC }
    n.held = false ∧ n.svp.transaction = .addressedRead ∧ n.svp.index = windowLast 7 ∧
    windowBase 7 < n.svp.index ∧ base.svp.transaction ≠ .addressedRead ∧
    { n with svp.index := 0x71 }.svp.index = 0x71 := by decide
theorem test_meets_PortTakesDataBytes :
    let n := writing 0xBA base
    n.held = false ∧ n.svp.transaction = .addressedWrite ∧ n.svp.expectIndex = false ∧
    n.svp.nacked = false ∧ (1 : Byte).getLsbD 3 = false ∧ (1 : Byte).toNat % 4 = 1 ∧
    (12 : Byte).toNat < windowCap 1 ∧ windowCap 0 ≤ (12 : Byte).toNat ∧ 4 < (5 : Byte).toNat ∧
    (∀ w, (0xB6 : Nat) ≠ windowBase w) := by decide
theorem test_meets_PortCommandsAreJudged :
    let n := writing 0xB5 (hallIs .spent locked)
    n.held = false ∧ n.svp.transaction = .addressedWrite ∧ n.svp.expectIndex = false ∧
    n.svp.nacked = false ∧ n.svp.index = 0xB5 ∧ n.running = true ∧ n.fiu.key.delivered = .isolate ∧
    n.hsq.hall = .spent ∧ n.cfs.busy = none ∧ n.svp.param.toNat = 0 ∧
    { n with svp.param := 3 }.svp.param.toNat ≤ 3 ∧ { n with cfs.phase := .load }.running = false := by
  decide
theorem test_meets_PortStoreCommandsAreJudged :
    let n := writing 0xBA { locked with svp.rowNumber := 11 }
    n.held = false ∧ n.svp.transaction = .addressedWrite ∧ n.svp.index = 0xBA ∧ n.running = true ∧
    (0x0E : Byte).getLsbD 3 = true ∧ (0x0E : Byte).toNat % 4 = 2 ∧ (0x0E : Byte).getLsbD 2 = true ∧
    (0x09 : Byte).toNat % 4 = 1 ∧ (0x0A : Byte).getLsbD 2 = false ∧ n.svp.rowNumber.toNat < 12 ∧
    n.fiu.key.delivered = .isolate ∧ n.cfs.busy = none ∧ (n.row 11).void = false ∧
    (n.row 11).flips = [] := by decide

/-! ## Hypotheses of the statements' clauses on the other blocks -/

theorem test_meets_followsCauses :
    let timed := { base.hsq with latchedA := true, faultB := true }
    let cause := { base.hsq with hall := .alert, adjacent := true }
    let quiet := { base.hsq with hall := .alert }
    let both := { base.hsq with latchedA := true, latchedB := true }
    ¬ crossZone timed ∧ ¬ crossZone cause ∧ ¬ crossZone quiet ∧ crossZone both ∧
    (timed.hall = .quiet ∧ timed.mode = .normal ∧ timed.latchedB = false) ∧
    (cause.latchedA = false ∧ cause.latchedB = false) ∧ quiet.adjacent = false ∧
    base.hsq.manualOverride = false ∧ base.hsq.epoReached = false := by
  unfold crossZone
  decide
theorem test_meets_adjacentStands :
    let n := { base with cfs.cfg.neighbours := 8 }.setPeer 3
      { Peer.start with present := true, hall := some .hold }
    (3 : NodeId) ≠ n.id ∧ n.cfg.neighbours.testBit 3 = true ∧ (n.peer 3).present = true ∧
    (n.peer 3).hall = some .hold := by decide
theorem test_meets_reserveStartsAfresh :
    bidCanBePlaced bidder ∧ ¬ bidCanBePlaced base ∧ bidder.cfg.holder = some 4 ∧
    { bidder with rcl.closePending := true, vcu.selector.state := .opened }.rcl.closePending = true :=
  ⟨⟨by decide, by decide, 4, by decide, by decide, by decide⟩,
   fun h => absurd h.1 (by decide), by decide, by decide⟩
theorem test_meets_CountdownExpiry_bid :
    let n := replanning 100 bidder
    n.running = true ∧ n.hsq.mode = .normal ∧ n.vcu.selector.state ≠ .jammed ∧ n.rcl.bid = .none ∧
    { n with rcl.bid := .held, rcl.n := 1 }.rcl.bid = .held ∧
    { n with rcl.bid := .placed, rcl.n := 1 }.rcl.n ≠ 2 ∧ n.lkc.link ≠ .lost ∧
    n.lkc.outbox.bid = none ∧ n.lkc.inFlight = none ∧
    { n with cfs.cfg.epoEnable := true }.cfg.epoLead = 0 ∧
    (replanning 0 bidder).apl.wd = 0 := by decide
theorem test_meets_KeyToIsolate_giveUp :
    let turned := fun n : Node => { n with fiu.key.changeRun := some 9900 }
    let n := turned (claimant .waitingGrant)
    let h := turned { holder with
      rva.bids := [{ granted 8 1 with taken := .waiting }], rva.feedQueue := [(8, 1)] }
    n.running = true ∧ n.fiu.key.delivered = .normal ∧ n.hsq.hall = .discharging ∧
    n.hsq.reservePhase = .opened ∧ n.rcl.bid = .placed ∧ n.lkc.link ≠ .lost ∧
    n.lkc.outbox.bid = none ∧ n.cfg.holder = some 4 ∧
    (turned (counting 20000 bidder)).hsq.hall = .countdown ∧
    (let w := turned waiting
     w.hsq.hall = .awaitSlot ∧ w.vsu.own = .placed ∧ w.lkc.outbox.vent = none ∧
     w.hsq.mode = .normal) ∧
    h.rvaActive = true ∧ h.rva.feedQueue = [(8, 1)] ∧ h.rva.feed = none ∧ h.rva.answers = [] ∧
    h.lkc.outbox.fed = none ∧ h.lkc.inFlight = none ∧ h.lkc.link ≠ .lost := by decide
theorem test_meets_DurationExpiry_settled :
    let n := { hallIs .discharging waiting with
      hsq.duration := some 10000, hsq.reservePhase := .resolved }
    n.running = true ∧ n.hsq.mode = .normal ∧ n.hsq.firing = [] ∧ n.apl.evaluated = false ∧
    { n with apl.evaluated := true }.apl.evaluated = true ∧ n.vsu.own = .placed ∧
    n.lkc.outbox.vent = none ∧ { n with lkc.outbox.vent := some 5 }.lkc.inFlight = none ∧
    { n with hsq.mode := .fallback }.hsq.mode = .fallback := by decide
theorem test_meets_HolderLoss :
    let n := { claimant .idle with rcl.grantHeard := 1, lkc.silence := some 10000 }
    let m := n.setPeer 4 { Peer.start with present := true, presence := some 10000 }
    n.running = true ∧ n.lkc.link ≠ .lost ∧ n.lkc.silence = some 10000 ∧ 10000 ≤ n.now ∧
    n.hsq.hall = .discharging ∧ 0 < n.rcl.grantHeard ∧ n.rcl.phase ≠ .done ∧
    (counting 20000 n).hsq.hall = .countdown ∧ n.rcl.bid = .placed ∧
    (m.peer 4).presence = some 10000 ∧ m.cfg.holder = some 4 ∧ m.hsq.reservePhase = .opened ∧
    ¬ crossZone m.hsq ∧ (claimant .requested).rcl.phase = .requested := by
  unfold crossZone
  decide
theorem test_meets_Standing_grant :
    let n := claimant .waitingGrant
    let c := withPart ⟨0, false, [⟨0, 1⟩]⟩
    let sel := fun x : SelState => { n with vcu.selector.state := x }
    let gone := { claimant .idle with rcl.grantHeard := 1 }
    n.running = true ∧ n.lkc.clash = false ∧ c.valid = true ∧ 4 ≠ n.id ∧ n.cfg.holder = some 4 ∧
    (n.peer 4).present = false ∧ c.holderPart = some ⟨0, false, [⟨n.id, 1⟩]⟩ ∧
    n.hsq.hall = .discharging ∧ n.fiu.key.delivered = .normal ∧ n.rcl.phase = .waitingGrant ∧
    0 < n.rcl.n - n.rcl.fed ∧ n.vcu.selector.state = .closed ∧
    (sel .opening).vcu.selector.state = .opening ∧ (sel .opened).vcu.selector.state = .opened ∧
    (sel .jammed).vcu.selector.state = .jammed ∧ gone.rcl.bid = .placed ∧
    0 < gone.rcl.grantHeard ∧ gone.rcl.phase ≠ .requested ∧
    { bidder with rcl.bid := .held, rcl.n := 2 }.rcl.bid = .held ∧ bidder.lkc.link = .joined ∧
    { gone with rcl.rebid := true }.rcl.rebid = true ∧ gone.rcl.rebid = false ∧
    ¬ crossZone gone.hsq := by
  unfold crossZone
  decide
theorem test_meets_Offer_holderPart :
    let n := { committed 4 7 holder with lkc.outbox.standing := true, rva.bids := [granted 7 1] }
    n.running = true ∧ n.lkc.inFlight = none ∧ n.lkc.clash = false ∧ n.lkc.link = .joined ∧
    n.lkc.outbox.standing = true ∧ (n.chan 3).role = .reserve ∧ (n.chan 3).state = .ready ∧
    n.rva.bids.filter (fun e => 0 < e.granted) = [granted 7 1] ∧ n.hsq.mode = .normal ∧
    { n with hsq.mode := .fallback }.hsq.mode = .fallback ∧
    allChans.all (fun d => decide ((base.chan d).role ≠ .reserve)) = true := by decide
theorem test_meets_Echoes :
    let fed := { holder with
      lkc.inFlight := some (.fed 0 7 1 0 .complete), rva.answers := [⟨7, 1, 0, .complete⟩, ⟨8, 0, 0, .lapsed⟩] }
    let flies := fun (f : Frame) (n : Node) => { n with lkc.inFlight := some f }
    fed.running = true ∧ fed.lkc.clash = false ∧ fed.lkc.link = .joined ∧
    fed.lkc.inFlight = some (.fed fed.id 7 1 0 .complete) ∧ fed.lkc.outbox.fed = none ∧
    (7 : NodeId) ≠ fed.id ∧ holder.rvaActive = true ∧ base.rvaActive = false ∧
    heardOrEchoed (.yield 0 0) (flies (.yield 0 0) holder) ∧
    heardOrEchoed (.wayopen 0 0 1) (flies (.wayopen 0 0 1) holder) ∧
    heardOrEchoed (.bid 0 0 2 .ordinary) (flies (.bid 0 0 2 .ordinary) holder) ∧
    heardOrEchoed (.yield 7 0) holder ∧ (flies (.yield 0 4) bidder).lkc.inFlight = some (.yield 0 4) ∧
    (flies (.ventfree 0 5) waiting).lkc.inFlight = some (.ventfree waiting.id 5) ∧
    waiting.cfg.ventGroup = 5 ∧ waiting.vsuActive = true ∧ waiting.id ∈ waiting.vsu.queue ∧
    4 ≠ waiting.cfg.ventGroup := by
  unfold heardOrEchoed
  decide
theorem test_meets_Fed_otherPhases :
    (∀ p ∈ [FeedPhase.waitingGrant, .opening, .idle, .done],
      let n := claimant p
      n.running = true ∧ n.lkc.link = .joined ∧ n.lkc.inFlight = none ∧ n.cfg.holder = some 4 ∧
      n.rcl.phase ≠ .requested ∧ n.hsq.reservePhase ≠ .resolved ∧ n.rcl.n - 1 ≠ 0 ∧
      n.rcl.n - 2 = 0 ∧ n.lkc.clash = false) ∧
    (let m := hallIs .soak (claimant .done)
     { m with hsq.reservePhase := .resolved, apl.stage := .replanned }.apl.stage ≠ .none ∧
     m.hsq.hall = .soak) := by decide
theorem test_meets_Load_rowTwelve :
    let lost := (voidRow 12 State.reset.node).cfs.rows
    ((lost.get 12).read).2 = none ∧ ((shippedRows.get 12).read).2 ≠ none ∧
    { ordinary with upTo := 13 }.upTo = 13 ∧ { ordinary with upTo := 12 }.upTo < 13 := by decide
theorem test_meets_Port_windows :
    let n := { feeding with
      rva.feedQueue := [(8, 1)], rva.answers := [⟨7, 1, 0, .complete⟩], vcu.queue := [3],
      vsu.queue := [2] }
    let p : Vector Nat 8 := .replicate 8 0
    n.rva.bids[p.get 2]? ≠ none ∧ n.rva.feedQueue[p.get 3]? = some (8, 1) ∧
    (n.rva.feed.elim [] Feed.places)[p.get 4]? = some ⟨3, .pending⟩ ∧ n.rva.answers[p.get 5]? ≠ none ∧
    n.vcu.queue[p.get 6]? = some 3 ∧ n.vsu.queue[p.get 7]? = some 2 ∧
    p.get 0 = (0 : ChanId).val ∧ p.get 1 = (0 : NodeId).val ∧ base.rva.bids[p.get 2]? = none := by
  decide

end Sys2Proof.Tests
end

/-! # What each block may write

One blank form of the node for each block (`sansBank` for RVA, `sansClient` for RCL, `sansVent` for VSU,
`sansFire` for the sequencer's requests, `sansValve` for VCU, `sansPlan` for APL), and for each operation of
the block one lemma: the node agrees with the one before outside the block's blanks. `calm` blanks them all
and keeps what the hall state and the release record are read from. -/

namespace Sys2Proof.Machine

/-- The node with blanks where the Reserve Arbiter may write: its record, the channels and the pulse queue,
and the waiting FED. -/
def Node.sansBank (n : Node) : Node :=
  { n with vcu.channels := .replicate 12 (.start 0), vcu.queue := [], rva := .start,
           lkc.outbox.fed := none }

/-- The node with blanks where the Reserve Client may write: its record, the selector, its frames in the
outbox, and what the sequencer takes of the reserve phase. -/
def Node.sansClient (n : Node) : Node :=
  { n with vcu.selector := (Vcu.start 0).selector, rcl := .start, lkc.outbox.bid := none,
           lkc.outbox.yieldTo := none, lkc.outbox.wayopen := none, hsq.reservePhase := .none,
           hsq.reserveOutcome := .none }

/-- As `sansClient`, with a blank too for the flags that the loss of the holder sets. -/
def Node.sansLoss (n : Node) : Node := { n.sansClient with svp.flags := 0 }

/-- The node with blanks where the Vent Slot Unit may write: its record and its frames in the outbox. -/
def Node.sansVent (n : Node) : Node :=
  { n with vsu := .start, lkc.outbox.vent := none, lkc.outbox.ventfree := none }

/-- The node with blanks where the sequencer's pulse requests may write: the channels, the pulse queue and
the own firing list. -/
def Node.sansFire (n : Node) : Node :=
  { n with vcu.channels := .replicate 12 (.start 0), vcu.queue := [], hsq.firing := [] }

/-- The node with blanks where the Valve Channel Unit may write: its record and the sticky flags. -/
def Node.sansValve (n : Node) : Node := { n with vcu := .start 0, svp.flags := 0 }

/-- The node with blanks where the Agent Planner may write: its record and the sticky flags. -/
def Node.sansPlan (n : Node) : Node := { n with apl := .start, svp.flags := 0 }

/-- The sequencer's record without the own firing list, the reserve phase and the discharge duration. -/
def Hsq.calm (h : Hsq) : Hsq :=
  { h with firing := [], reservePhase := .none, reserveOutcome := .none, duration := none,
           elapsed := false }

/-- The node with blanks wherever a report between the blocks may write that leaves the hall state. -/
def Node.calm (n : Node) : Node :=
  { n with free := 0, hsq := n.hsq.calm, apl := .start, vcu := .start 0, lkc.outbox := .empty,
           rva := .start, rcl := .start, vsu := .start, svp.flags := 0 }

theorem calm_of_sansBank {a b : Node} (h : a.sansBank = b.sansBank) : a.calm = b.calm := by
  change a.sansBank.calm = b.sansBank.calm; rw [h]
theorem calm_of_sansClient {a b : Node} (h : a.sansClient = b.sansClient) : a.calm = b.calm := by
  change a.sansClient.calm = b.sansClient.calm; rw [h]
theorem sansLoss_of_sansClient {a b : Node} (h : a.sansClient = b.sansClient) :
    a.sansLoss = b.sansLoss := by
  unfold Node.sansLoss; rw [h]
theorem calm_of_sansLoss {a b : Node} (h : a.sansLoss = b.sansLoss) : a.calm = b.calm := by
  change a.sansLoss.calm = b.sansLoss.calm; rw [h]
theorem calm_of_sansVent {a b : Node} (h : a.sansVent = b.sansVent) : a.calm = b.calm := by
  change a.sansVent.calm = b.sansVent.calm; rw [h]
theorem calm_of_sansFire {a b : Node} (h : a.sansFire = b.sansFire) : a.calm = b.calm := by
  change a.sansFire.calm = b.sansFire.calm; rw [h]
theorem calm_of_sansValve {a b : Node} (h : a.sansValve = b.sansValve) : a.calm = b.calm := by
  change a.sansValve.calm = b.sansValve.calm; rw [h]
theorem calm_of_sansPlan {a b : Node} (h : a.sansPlan = b.sansPlan) : a.calm = b.calm := by
  change a.sansPlan.calm = b.sansPlan.calm; rw [h]

/-! ## The Reserve Arbiter -/

@[simp] theorem Node.setChan_sansBank (n : Node) (c : ChanId) (r : Channel) :
    (n.setChan c r).sansBank = n.sansBank := rfl
@[simp] theorem sansBank_rva (n : Node) (x : Rva) : Node.sansBank { n with rva := x } = n.sansBank := rfl
@[simp] theorem modEntry_sansBank (i : NodeId) (f : BidEntry → BidEntry) (n : Node) :
    (modEntry i f n).sansBank = n.sansBank := rfl
@[simp] theorem dropEntry_sansBank (i : NodeId) (n : Node) : (dropEntry i n).sansBank = n.sansBank := rfl
@[simp] theorem enqueue_sansBank (c : ChanId) (r : Channel) (n : Node) :
    (enqueue c r n).sansBank = n.sansBank := rfl

theorem commit_sansBank {c : ChanId} {g : NodeId} {n m : Node} (h : commit c g n = some m) :
    m.sansBank = n.sansBank := by
  revert h; unfold commit; dsimp only; split <;> rintro ⟨⟩; rfl
theorem requestCommitted_sansBank {c : ChanId} {g : NodeId} {n m : Node}
    (h : requestCommitted c g n = some m) : m.sansBank = n.sansBank := by
  revert h; unfold requestCommitted; dsimp only; split <;> rintro ⟨⟩; rfl
theorem requestSubstitute_sansBank {c : ChanId} {g : NodeId} {n m : Node}
    (h : requestSubstitute c g n = some m) : m.sansBank = n.sansBank := by
  revert h; unfold requestSubstitute; dsimp only; split <;> rintro ⟨⟩; rfl

@[simp] theorem uncommit_sansBank (c : ChanId) (n : Node) : (uncommit c n).sansBank = n.sansBank := by
  unfold uncommit; dsimp only; split <;> rfl
@[simp] theorem uncommitAll_sansBank (cs : List ChanId) (n : Node) :
    (uncommitAll cs n).sansBank = n.sansBank := by
  induction cs generalizing n with
  | nil => rfl
  | cons c cs ih => exact (ih (uncommit c n)).trans (uncommit_sansBank c n)

theorem commitAll_sansBank (i : NodeId) (cs : List ChanId) (k : Nat) (n : Node) :
    (commitAll i cs (k, n)).2.sansBank = n.sansBank := by
  induction cs generalizing k n with
  | nil => rfl
  | cons c cs ih =>
    unfold commitAll
    split
    next m h => exact (ih _ m).trans (commit_sansBank h)
    next => exact ih _ n
@[simp] theorem walkEntry_sansBank (e : BidEntry) (n : Node) :
    (walkEntry e n).2.sansBank = n.sansBank := commitAll_sansBank _ _ _ _
@[simp] theorem walkList_sansBank (es : List BidEntry) (n : Node) :
    (walkList es n).2.sansBank = n.sansBank := by
  induction es generalizing n with
  | nil => rfl
  | cons e es ih => exact (ih _).trans (walkEntry_sansBank e n)
@[simp] theorem grantWalk_sansBank (n : Node) : (grantWalk n).sansBank = n.sansBank := by
  unfold grantWalk; split
  · rfl
  · exact walkList_sansBank n.rva.bids n

@[simp] theorem queueFed_sansBank (a : Answer) (n : Node) : (queueFed a n).sansBank = n.sansBank := by
  unfold queueFed; split <;> rfl
@[simp] theorem addAnswer_sansBank (a : Answer) (n : Node) : (addAnswer a n).sansBank = n.sansBank := by
  unfold addAnswer; split <;> rfl
@[simp] theorem sendAnswer_sansBank (n : Node) : (sendAnswer n).sansBank = n.sansBank := by
  unfold sendAnswer; repeat' split
  all_goals simp
@[simp] theorem answerPlaced_sansBank (n : Node) : (answerPlaced n).sansBank = n.sansBank := by
  simp [answerPlaced]
@[simp] theorem returnEntry_sansBank (i : NodeId) (n : Node) :
    (returnEntry i n).sansBank = n.sansBank := by simp [returnEntry]
@[simp] theorem lapseWaiting_sansBank (i : NodeId) (n : Node) :
    (lapseWaiting i n).sansBank = n.sansBank := by
  unfold lapseWaiting; split <;> simp
@[simp] theorem removeEntry_sansBank (i : NodeId) (n : Node) :
    (removeEntry i n).sansBank = n.sansBank := by
  unfold removeEntry; split <;> simp
@[simp] theorem lapseGrant_sansBank (i : NodeId) (n : Node) : (lapseGrant i n).sansBank = n.sansBank := by
  simp [lapseGrant]
@[simp] theorem returnSurplus_sansBank (i : NodeId) (n : Node) :
    (returnSurplus i n).sansBank = n.sansBank := by
  unfold returnSurplus; split <;> simp
@[simp] theorem updateBid_sansBank (i : NodeId) (k : Nat) (c : BidClass) (n : Node) :
    (updateBid i k c n).sansBank = n.sansBank := by
  unfold updateBid; repeat' split
  all_goals rfl
@[simp] theorem dropIfFed_sansBank (i : NodeId) (n : Node) : (dropIfFed i n).sansBank = n.sansBank := by
  unfold dropIfFed; repeat' split
  all_goals simp
@[simp] theorem rvaBid_sansBank (a b : NodeId) (k : Nat) (c : BidClass) (n : Node) :
    (rvaBid a b k c n).sansBank = n.sansBank := by
  unfold rvaBid; repeat' split
  all_goals simp
@[simp] theorem rvaYield_sansBank (a b : NodeId) (n : Node) : (rvaYield a b n).sansBank = n.sansBank := by
  unfold rvaYield; split <;> simp
@[simp] theorem rvaPeer_sansBank (i : NodeId) (n : Node) : (rvaPeer i n).sansBank = n.sansBank := by
  unfold rvaPeer; dsimp only; repeat' split
  all_goals simp
@[simp] theorem seekSubstitute_sansBank (c : ChanId) (ds : List ChanId) (f : Feed) (n : Node) :
    (seekSubstitute c ds f n).sansBank = n.sansBank := by
  induction ds generalizing f n with
  | nil => rfl
  | cons d ds ih =>
    unfold seekSubstitute
    split
    next m h => exact (requestSubstitute_sansBank h :)
    next => exact ih _ n
@[simp] theorem placeReport_sansBank (c : ChanId) (r : PulseResult) (n : Node) :
    (placeReport c r n).sansBank = n.sansBank := by
  unfold placeReport
  split
  · rfl
  · split
    · cases r
      · rfl
      · exact seekSubstitute_sansBank ..
      · rfl
    · rfl
@[simp] theorem requestPlaces_sansBank (g : NodeId) (cs : List ChanId) (n : Node) :
    (requestPlaces g cs n).sansBank = n.sansBank := by
  induction cs generalizing n with
  | nil => rfl
  | cons c cs ih =>
    unfold requestPlaces
    split
    next m h => exact (ih m).trans (requestCommitted_sansBank h)
    next => exact (ih _).trans (placeReport_sansBank c _ n)
@[simp] theorem startFeed_sansBank (e : BidEntry) (k : Nat) (n : Node) :
    (startFeed e k n).sansBank = n.sansBank := by simp [startFeed]
@[simp] theorem feedEntry_sansBank (f : Feed) (n : Node) : (feedEntry f n).sansBank = n.sansBank := by
  unfold feedEntry; repeat' split
  all_goals simp
@[simp] theorem endFeed_sansBank (f : Feed) (n : Node) : (endFeed f n).sansBank = n.sansBank := by
  unfold endFeed; dsimp only; split <;> simp
@[simp] theorem takeWayopen_sansBank (i : NodeId) (k : Nat) (n : Node) :
    (takeWayopen i k n).sansBank = n.sansBank := by
  unfold takeWayopen; repeat' split
  all_goals simp
@[simp] theorem feedRounds_sansBank (k : Nat) (n : Node) : (feedRounds k n).sansBank = n.sansBank := by
  induction k generalizing n with
  | zero => rfl
  | succ k ih =>
    unfold feedRounds
    repeat' split
    all_goals simp [ih]
@[simp] theorem feedTest_sansBank (n : Node) : (feedTest n).sansBank = n.sansBank := by simp [feedTest]
@[simp] theorem rvaWayopen_sansBank (a b : NodeId) (k : Nat) (n : Node) :
    (rvaWayopen a b k n).sansBank = n.sansBank := by
  unfold rvaWayopen; repeat' split
  all_goals simp
@[simp] theorem returnCommitted_sansBank (n : Node) : (returnCommitted n).sansBank = n.sansBank := by
  simp [returnCommitted]
theorem foldlNode_sansBank {α : Type} (f : Node → α → Node)
    (h : ∀ n a, (f n a).sansBank = n.sansBank) (l : List α) (n : Node) :
    (l.foldl f n).sansBank = n.sansBank := by
  induction l generalizing n with
  | nil => rfl
  | cons a l ih => exact (ih (f n a)).trans (h n a)
@[simp] theorem rvaIsolate_sansBank (n : Node) : (rvaIsolate n).sansBank = n.sansBank := by
  simp only [rvaIsolate, sendAnswer_sansBank, sansBank_rva]
  refine (foldlNode_sansBank _ (fun m w => addAnswer_sansBank _ m) _ _).trans ?_
  simp
@[simp] theorem rvaLost_sansBank (n : Node) : (rvaLost n).sansBank = n.sansBank :=
  returnCommitted_sansBank n
@[simp] theorem rvaRebuild_sansBank (n : Node) : (rvaRebuild n).sansBank = n.sansBank := by
  unfold rvaRebuild; split <;> simp
@[simp] theorem rvaUncommitted_sansBank (i : NodeId) (n : Node) :
    (rvaUncommitted i n).sansBank = n.sansBank := by simp [rvaUncommitted]
@[simp] theorem grantOver_sansBank (i : NodeId) (n : Node) : (grantOver i n).sansBank = n.sansBank := by
  unfold grantOver; repeat' split
  all_goals simp

/-! ## The Reserve Client -/

@[simp] theorem sansClient_rcl (n : Node) (x : Rcl) :
    Node.sansClient { n with rcl := x } = n.sansClient := rfl
@[simp] theorem queueBid_sansClient (b : BidContent) (n : Node) :
    (queueBid b n).sansClient = n.sansClient := by
  unfold queueBid; split <;> rfl
@[simp] theorem queueWayopen_sansClient (h : NodeId) (k : Nat) (n : Node) :
    (queueWayopen h k n).sansClient = n.sansClient := by
  unfold queueWayopen; split <;> rfl
@[simp] theorem queueYield_sansClient (h : NodeId) (n : Node) :
    (queueYield h n).sansClient = n.sansClient := by
  unfold queueYield; repeat' split
  all_goals rfl
@[simp] theorem selOpen_sansClient (n : Node) : (selOpen n).sansClient = n.sansClient := by
  unfold selOpen; repeat' split
  all_goals rfl
@[simp] theorem selClose_sansClient (n : Node) : (selClose n).sansClient = n.sansClient := by
  unfold selClose; split <;> rfl
@[simp] theorem sendBid_sansClient (n : Node) : (sendBid n).sansClient = n.sansClient := by
  unfold sendBid; split <;> simp
@[simp] theorem sendYield_sansClient (n : Node) : (sendYield n).sansClient = n.sansClient := by
  unfold sendYield; split <;> simp
@[simp] theorem placeOrHold_sansClient (n : Node) : (placeOrHold n).sansClient = n.sansClient := by
  unfold placeOrHold; split <;> simp
@[simp] theorem retryBid_sansClient (n : Node) : (retryBid n).sansClient = n.sansClient := by
  unfold retryBid; split <;> simp
@[simp] theorem rclCountdown_sansClient (n : Node) : (rclCountdown n).sansClient = n.sansClient := by
  unfold rclCountdown; dsimp only; repeat' split
  all_goals simp
@[simp] theorem rclNewCount_sansClient (k : Nat) (n : Node) :
    (rclNewCount k n).sansClient = n.sansClient := by
  unfold rclNewCount; dsimp only; repeat' split
  all_goals simp
@[simp] theorem rclResolve_sansClient (o : ReserveOutcome) (n : Node) :
    (rclResolve o n).sansClient = n.sansClient := by
  unfold rclResolve; dsimp only; split <;> rfl
@[simp] theorem dropBid_sansClient (n : Node) : (dropBid n).sansClient = n.sansClient := by
  unfold dropBid; dsimp only; split <;> simp
@[simp] theorem closeAfterFlow_sansClient (n : Node) : (closeAfterFlow n).sansClient = n.sansClient := by
  unfold closeAfterFlow; repeat' split
  all_goals simp
@[simp] theorem rclEnd_sansClient (b : Bool) (n : Node) : (rclEnd b n).sansClient = n.sansClient := by
  simp [rclEnd]
@[simp] theorem sendWayopen_sansClient (n : Node) : (sendWayopen n).sansClient = n.sansClient := by
  unfold sendWayopen; split <;> simp
@[simp] theorem rclAct_sansClient (n : Node) : (rclAct n).sansClient = n.sansClient := by
  unfold rclAct; repeat' split
  all_goals simp
@[simp] theorem rclBegin_sansClient (n : Node) : (rclBegin n).sansClient = n.sansClient := by
  simp [rclBegin]
@[simp] theorem rclOpened_sansClient (n : Node) : (rclOpened n).sansClient = n.sansClient := by
  unfold rclOpened; repeat' split
  all_goals simp
@[simp] theorem rclJammed_sansClient (n : Node) : (rclJammed n).sansClient = n.sansClient := by
  unfold rclJammed; repeat' split
  all_goals simp
@[simp] theorem rclHolder_sansClient (h : NodeId) (n : Node) :
    (rclHolder h n).sansClient = n.sansClient := by
  unfold rclHolder; dsimp only; rw [rclAct_sansClient, retryBid_sansClient]; split <;> simp
@[simp] theorem fedAnswer_sansClient (o : FedOutcome) (n : Node) :
    (fedAnswer o n).sansClient = n.sansClient := by
  unfold fedAnswer; dsimp only; repeat' split
  all_goals simp
@[simp] theorem rclGiveUp_sansClient (n : Node) : (rclGiveUp n).sansClient = n.sansClient := by
  unfold rclGiveUp; dsimp only; repeat' split
  all_goals simp
@[simp] theorem bidPlaced_sansClient (n : Node) : (bidPlaced n).sansClient = n.sansClient := by
  unfold bidPlaced; split <;> rfl
@[simp] theorem openReserve_sansClient (n : Node) : (openReserve n).sansClient = n.sansClient := by
  unfold openReserve; split
  · exact rclBegin_sansClient _
  · rfl
@[simp] theorem flowOver_sansClient (n : Node) : (flowOver n).sansClient = n.sansClient := by
  unfold flowOver; dsimp only; repeat' split
  all_goals simp

@[simp] theorem rclFeedLost_sansLoss (b : Bool) (n : Node) : (rclFeedLost b n).sansLoss = n.sansLoss := by
  refine (sansLoss_of_sansClient ((rclEnd_sansClient _ _).trans (selClose_sansClient _))).trans ?_
  rfl

/-- A grant stood or a feed was asked for (R128). -/
def Node.hadGrant (n : Node) : Bool :=
  decide (0 < n.rcl.grantHeard) || decide (n.rcl.phase = .requested)

/-- What a loss of the holder marks in every hall state: no grant, HOLDER_LOST, and with the link LOST a bid
held (R128). -/
def lossMarked (link : Bool) (n : Node) : Node :=
  let m := { n with rcl.grantHeard := 0 }.setFlagIf n.hadGrant .holderLost
  if link && m.rcl.claims then { m with rcl.bid := .held } else m

@[simp] theorem lossMarked_sansLoss (b : Bool) (n : Node) : (lossMarked b n).sansLoss = n.sansLoss := by
  have h : (Node.setFlagIf { n with rcl.grantHeard := 0 } n.hadGrant .holderLost).sansLoss
      = n.sansLoss := by cases n.hadGrant <;> rfl
  unfold lossMarked; dsimp only; split <;> exact h

/-- All a loss of the holder can do: the marks, the bid to be placed again, or the end of the phase. -/
theorem rclLoss_cases (b : Bool) (n : Node) :
    (∃ r, rclLoss b n = { lossMarked b n with rcl.rebid := r }) ∨
    (n.hsq.hall = .discharging ∧ n.hadGrant = true ∧
      (((lossMarked b n).rcl.phase = .requested ∧ rclLoss b n = rclFeedLost true (lossMarked b n)) ∨
        rclLoss b n = rclEnd true (lossMarked b n))) := by
  have keep : ∃ r, lossMarked b n = { lossMarked b n with rcl.rebid := r } := ⟨_, rfl⟩
  have hhall : (lossMarked b n).hsq.hall = n.hsq.hall :=
    congrArg (fun m => m.hsq.hall) (lossMarked_sansLoss b n)
  by_cases hg : n.hadGrant = true
  · have e : rclLoss b n = _ := if_neg (c := (!n.hadGrant) = true) (by simp [hg])
    rw [e]
    split
    case h_4 hh =>
      split
      case h_1 hp => exact .inr ⟨hhall ▸ hh, hg, .inl ⟨hp, rfl⟩⟩
      case h_5 => exact .inl keep
      all_goals exact .inr ⟨hhall ▸ hh, hg, .inr rfl⟩
    all_goals exact .inl ⟨_, rfl⟩
  · have e : rclLoss b n = lossMarked b n := if_pos (c := (!n.hadGrant) = true) (by simp [hg])
    exact .inl (e ▸ keep)

@[simp] theorem rclLoss_sansLoss (b : Bool) (n : Node) : (rclLoss b n).sansLoss = n.sansLoss := by
  obtain ⟨r, e⟩ | ⟨_, _, ⟨_, e⟩ | e⟩ := rclLoss_cases b n
  · rw [e]; exact lossMarked_sansLoss b n
  · rw [e, rclFeedLost_sansLoss, lossMarked_sansLoss]
  · rw [e, sansLoss_of_sansClient (rclEnd_sansClient _ _), lossMarked_sansLoss]

/-! ## The Vent Slot Unit -/

@[simp] theorem sansVent_vsu (n : Node) (x : Vsu) : Node.sansVent { n with vsu := x } = n.sansVent := rfl
@[simp] theorem queueVent_sansVent (g : Nat) (n : Node) : (queueVent g n).sansVent = n.sansVent := by
  unfold queueVent; split <;> rfl
@[simp] theorem queueVentfree_sansVent (g : Nat) (n : Node) :
    (queueVentfree g n).sansVent = n.sansVent := by
  unfold queueVentfree; repeat' split
  all_goals rfl
@[simp] theorem ventReeval_sansVent (n : Node) : (ventReeval n).1.sansVent = n.sansVent := by
  unfold ventReeval; dsimp only; split <;> rfl
@[simp] theorem ventAppend_sansVent (i : NodeId) (n : Node) :
    (ventAppend i n).1.sansVent = n.sansVent := by
  unfold ventAppend; split
  · rfl
  · exact ventReeval_sansVent _
@[simp] theorem ventRemove_sansVent (i : NodeId) (n : Node) :
    (ventRemove i n).1.sansVent = n.sansVent := by
  unfold ventRemove; split
  · exact ventReeval_sansVent _
  · rfl
@[simp] theorem vsuVent_sansVent (i : NodeId) (g : Nat) (n : Node) :
    (vsuVent i g n).1.sansVent = n.sansVent := by
  unfold vsuVent; split <;> simp
@[simp] theorem vsuVentfree_sansVent (i : NodeId) (g : Nat) (n : Node) :
    (vsuVentfree i g n).1.sansVent = n.sansVent := by
  unfold vsuVentfree; split <;> simp
@[simp] theorem vsuAbsent_sansVent (i : NodeId) (n : Node) :
    (vsuAbsent i n).1.sansVent = n.sansVent := by
  unfold vsuAbsent; split <;> simp
@[simp] theorem vsuRepair_sansVent (i : NodeId) (n : Node) :
    (vsuRepair i n).1.sansVent = n.sansVent := by
  unfold vsuRepair; dsimp only; repeat' split
  all_goals simp
@[simp] theorem vsuAsk_sansVent (n : Node) : (vsuAsk n).1.sansVent = n.sansVent := by
  unfold vsuAsk; split <;> simp
@[simp] theorem vsuLeave_sansVent (n : Node) : (vsuLeave n).sansVent = n.sansVent := rfl
@[simp] theorem vsuIsolated_sansVent (n : Node) : (vsuIsolated n).sansVent = n.sansVent := by
  unfold vsuIsolated; split <;> rfl
@[simp] theorem vsuWithdraw_sansVent (n : Node) : (vsuWithdraw n).sansVent = n.sansVent := by
  unfold vsuWithdraw; dsimp only; split <;> simp
@[simp] theorem ventPlaced_sansVent (n : Node) : (ventPlaced n).1.sansVent = n.sansVent := by
  unfold ventPlaced; split <;> simp
@[simp] theorem vsuLost_sansVent (n : Node) : (vsuLost n).sansVent = n.sansVent := rfl
@[simp] theorem vsuJoined_sansVent (n : Node) : (vsuJoined n).1.sansVent = n.sansVent := by
  unfold vsuJoined; dsimp only; repeat' split
  all_goals simp
@[simp] theorem vsuWaitOver_sansVent (n : Node) : (vsuWaitOver n).1.sansVent = n.sansVent := rfl

/-! ## The sequencer's pulse requests -/

@[simp] theorem Node.setChan_sansFire (n : Node) (c : ChanId) (r : Channel) :
    (n.setChan c r).sansFire = n.sansFire := rfl
@[simp] theorem markOwn_sansFire (c : ChanId) (a : FireStatus) (n : Node) :
    (markOwn c a n).sansFire = n.sansFire := rfl
theorem requestHall_sansFire {c : ChanId} {n m : Node} (h : requestHall c n = some m) :
    m.sansFire = n.sansFire := by
  revert h; unfold requestHall; dsimp only; split <;> rintro ⟨⟩; rfl
theorem cancelHall_sansFire {c : ChanId} {n m : Node} (h : cancelHall c n = some m) :
    m.sansFire = n.sansFire := by
  revert h; unfold cancelHall; dsimp only; split <;> rintro ⟨⟩; rfl
@[simp] theorem seekOwn_sansFire (ds : List ChanId) (n : Node) :
    (seekOwn ds n).sansFire = n.sansFire := by
  induction ds generalizing n with
  | nil => rfl
  | cons d ds ih =>
    unfold seekOwn
    split
    next m h => exact (requestHall_sansFire h :)
    next => exact ih _
@[simp] theorem ownFailed_sansFire (c : ChanId) (n : Node) : (ownFailed c n).sansFire = n.sansFire := by
  simp [ownFailed]
@[simp] theorem requestOwn_sansFire (cs : List ChanId) (n : Node) :
    (requestOwn cs n).sansFire = n.sansFire := by
  induction cs generalizing n with
  | nil => rfl
  | cons c cs ih =>
    unfold requestOwn
    split
    next m h => exact (ih m).trans (requestHall_sansFire h)
    next => exact (ih _).trans (ownFailed_sansFire c n)
@[simp] theorem fireOwn_sansFire (cs : List ChanId) (n : Node) : (fireOwn cs n).sansFire = n.sansFire :=
  requestOwn_sansFire cs _

/-- Cancel one own pulse, as `cancelOwn` does for each entry. -/
def cancelEntry (m : Node) (e : ChanId × FireStatus) : Node :=
  match cancelHall e.1 m with
  | some m' => markOwn e.1 .failed m'
  | none => m

theorem cancelOwn_eq (n : Node) : cancelOwn n = n.hsq.firing.foldl cancelEntry n := rfl

@[simp] theorem cancelEntry_sansFire (n : Node) (e : ChanId × FireStatus) :
    (cancelEntry n e).sansFire = n.sansFire := by
  unfold cancelEntry; split
  next m h => exact (cancelHall_sansFire h :)
  next => rfl
theorem foldlCancel_sansFire (l : List (ChanId × FireStatus)) (n : Node) :
    (l.foldl cancelEntry n).sansFire = n.sansFire := by
  induction l generalizing n with
  | nil => rfl
  | cons e l ih => exact (ih _).trans (cancelEntry_sansFire n e)
@[simp] theorem cancelOwn_sansFire (n : Node) : (cancelOwn n).sansFire = n.sansFire :=
  foldlCancel_sansFire _ n

/-! ## The Valve Channel Unit -/

@[simp] theorem Node.setFlag_sansValve (n : Node) (f : Flag) : (n.setFlag f).sansValve = n.sansValve := rfl
@[simp] theorem sansValve_vcu (n : Node) (x : Vcu) : Node.sansValve { n with vcu := x } = n.sansValve := rfl
@[simp] theorem Node.setChan_sansValve (n : Node) (c : ChanId) (r : Channel) :
    (n.setChan c r).sansValve = n.sansValve := rfl
@[simp] theorem Node.modChan_sansValve (n : Node) (c : ChanId) (f : Channel → Channel) :
    (n.modChan c f).sansValve = n.sansValve := rfl
@[simp] theorem dequeue_sansValve (c : ChanId) (n : Node) : (dequeue c n).sansValve = n.sansValve := rfl
@[simp] theorem resolveFiring_sansValve (c : ChanId) (n : Node) :
    (resolveFiring c n).1.sansValve = n.sansValve := by
  unfold resolveFiring; dsimp only; repeat' split
  all_goals rfl
@[simp] theorem classifyRead_sansValve (c : ChanId) (k : PressureClass) (n : Node) :
    (classifyRead c k n).1.sansValve = n.sansValve := by
  unfold classifyRead; dsimp only; split
  all_goals simp
@[simp] theorem cylinderRead_sansValve (c : ChanId) (k : Nat) (n : Node) :
    (cylinderRead c k n).1.sansValve = n.sansValve := by
  unfold cylinderRead; dsimp only; split
  all_goals simp
@[simp] theorem startPulse_sansValve (c : ChanId) (n : Node) :
    (startPulse c n).sansValve = n.sansValve := rfl
@[simp] theorem outputOff_sansValve (n : Node) : (outputOff n).sansValve = n.sansValve := by
  unfold outputOff; split <;> rfl
@[simp] theorem endPulse_sansValve (n : Node) : (endPulse n).1.sansValve = n.sansValve := by
  unfold endPulse; split <;> simp
@[simp] theorem endWindow_sansValve (c : ChanId) (n : Node) :
    (endWindow c n).1.sansValve = n.sansValve := by simp [endWindow]
@[simp] theorem cutDrive_sansValve (c : ChanId) (n : Node) :
    (cutDrive c n).1.sansValve = n.sansValve := by
  unfold cutDrive; dsimp only
  split
  · refine (resolveFiring_sansValve c _).trans ?_
    split <;> rfl
  all_goals (repeat' split)
  all_goals rfl
@[simp] theorem selfDrive_sansValve (c : ChanId) (b : Bool) (n : Node) :
    (selfDrive c b n).1.sansValve = n.sansValve := by
  unfold selfDrive; dsimp only; repeat' split
  all_goals simp
@[simp] theorem deferralRead_sansValve (k : PressStatus) (r : Int) (n : Node) :
    (deferralRead k r n).sansValve = n.sansValve := by
  unfold deferralRead; repeat' split
  all_goals rfl
@[simp] theorem selClose_sansValve (n : Node) : (selClose n).sansValve = n.sansValve := by
  unfold selClose; split <;> rfl
@[simp] theorem selJam_sansValve (n : Node) : (selJam n).sansValve = n.sansValve := rfl
@[simp] theorem selArrive_sansValve (a : SelState) (n : Node) :
    (selArrive a n).sansValve = n.sansValve := rfl
@[simp] theorem selWatch_sansValve (b : Bool) (n : Node) : (selWatch b n).sansValve = n.sansValve := by
  unfold selWatch; repeat' split
  all_goals rfl
@[simp] theorem selRead_sansValve (r : SelReading) (n : Node) :
    (selRead r n).1.sansValve = n.sansValve := by
  unfold selRead; dsimp only; split
  all_goals simp
@[simp] theorem vcuIsolate_sansValve (n : Node) : (vcuIsolate n).1.sansValve = n.sansValve := by
  simp [vcuIsolate]
@[simp] theorem vcuNormal_sansValve (n : Node) : (vcuNormal n).1.sansValve = n.sansValve := rfl
@[simp] theorem deferOver_sansValve (n : Node) : (deferOver n).sansValve = n.sansValve := by
  unfold deferOver; dsimp only; repeat' split
  all_goals rfl
@[simp] theorem arbiterStart_sansValve (n : Node) : (arbiterStart n).sansValve = n.sansValve := by
  unfold arbiterStart; split <;> simp
@[simp] theorem staggerOver_sansValve (n : Node) : (staggerOver n).sansValve = n.sansValve := by
  unfold staggerOver; split <;> rfl

/-! ## The Agent Planner -/

@[simp] theorem Node.setFlagIf_sansPlan (n : Node) (b : Bool) (f : Flag) :
    (n.setFlagIf b f).sansPlan = n.sansPlan := by cases b <;> rfl
@[simp] theorem aplPlan_sansPlan (n : Node) : (aplPlan n).sansPlan = n.sansPlan := by
  simp only [aplPlan, Node.setFlagIf_sansPlan]; rfl
@[simp] theorem aplReplan_sansPlan (n : Node) : (aplReplan n).sansPlan = n.sansPlan := rfl
@[simp] theorem aplOwnConfirmed_sansPlan (n : Node) : (aplOwnConfirmed n).sansPlan = n.sansPlan := by
  unfold aplOwnConfirmed; split <;> rfl
@[simp] theorem aplFed_sansPlan (k : Nat) (n : Node) : (aplFed k n).sansPlan = n.sansPlan := by
  unfold aplFed; split <;> rfl
@[simp] theorem aplEvaluate_sansPlan (n : Node) : (aplEvaluate n).sansPlan = n.sansPlan := by
  unfold aplEvaluate; split
  · rfl
  · simp only [Node.setFlagIf_sansPlan]; rfl

end Sys2Proof.Machine

namespace Sys2Proof.Machine

/-! ## Calm operations: those that leave the hall state and the store -/

/-- What `calm` keeps: the hall state. -/
theorem hall_of_calm {a b : Node} (h : a.calm = b.calm) : a.hsq.hall = b.hsq.hall :=
  congrArg (fun m => m.hsq.hall) h
/-- What `calm` keeps: the store. -/
theorem cfs_of_calm {a b : Node} (h : a.calm = b.calm) : a.cfs = b.cfs := congrArg (fun m => m.cfs) h

@[simp] theorem Node.setFlag_calm (n : Node) (f : Flag) : (n.setFlag f).calm = n.calm := rfl
@[simp] theorem Node.setFlagIf_calm (n : Node) (b : Bool) (f : Flag) : (n.setFlagIf b f).calm = n.calm := by
  cases b <;> rfl
@[simp] theorem calm_rcl (n : Node) (x : Rcl) : Node.calm { n with rcl := x } = n.calm := rfl
@[simp] theorem calm_rva (n : Node) (x : Rva) : Node.calm { n with rva := x } = n.calm := rfl
@[simp] theorem calm_vcu (n : Node) (x : Vcu) : Node.calm { n with vcu := x } = n.calm := rfl
@[simp] theorem calm_vsu (n : Node) (x : Vsu) : Node.calm { n with vsu := x } = n.calm := rfl
@[simp] theorem calm_apl (n : Node) (x : Apl) : Node.calm { n with apl := x } = n.calm := rfl
@[simp] theorem startDuration_calm (n : Node) : (startDuration n).calm = n.calm := rfl
@[simp] theorem reserveFlow_calm (k : Nat) (n : Node) : (reserveFlow k n).calm = n.calm := rfl

@[simp] theorem grantWalk_calm (n : Node) : (grantWalk n).calm = n.calm :=
  calm_of_sansBank (grantWalk_sansBank n)
@[simp] theorem feedTest_calm (n : Node) : (feedTest n).calm = n.calm :=
  calm_of_sansBank (feedTest_sansBank n)
@[simp] theorem placeReport_calm (c : ChanId) (r : PulseResult) (n : Node) :
    (placeReport c r n).calm = n.calm := calm_of_sansBank (placeReport_sansBank c r n)
@[simp] theorem rvaUncommitted_calm (i : NodeId) (n : Node) : (rvaUncommitted i n).calm = n.calm :=
  calm_of_sansBank (rvaUncommitted_sansBank i n)
@[simp] theorem rclEnd_calm (b : Bool) (n : Node) : (rclEnd b n).calm = n.calm :=
  calm_of_sansClient (rclEnd_sansClient b n)
@[simp] theorem selClose_calm (n : Node) : (selClose n).calm = n.calm :=
  calm_of_sansClient (selClose_sansClient n)
@[simp] theorem fedAnswer_calm (o : FedOutcome) (n : Node) : (fedAnswer o n).calm = n.calm :=
  calm_of_sansClient (fedAnswer_sansClient o n)
@[simp] theorem rclNewCount_calm (k : Nat) (n : Node) : (rclNewCount k n).calm = n.calm :=
  calm_of_sansClient (rclNewCount_sansClient k n)
@[simp] theorem rclGiveUp_calm (n : Node) : (rclGiveUp n).calm = n.calm :=
  calm_of_sansClient (rclGiveUp_sansClient n)
@[simp] theorem openReserve_calm (n : Node) : (openReserve n).calm = n.calm :=
  calm_of_sansClient (openReserve_sansClient n)
@[simp] theorem vsuWithdraw_calm (n : Node) : (vsuWithdraw n).calm = n.calm :=
  calm_of_sansVent (vsuWithdraw_sansVent n)
@[simp] theorem vsuIsolated_calm (n : Node) : (vsuIsolated n).calm = n.calm :=
  calm_of_sansVent (vsuIsolated_sansVent n)
@[simp] theorem markOwn_calm (c : ChanId) (a : FireStatus) (n : Node) : (markOwn c a n).calm = n.calm := rfl
@[simp] theorem ownFailed_calm (c : ChanId) (n : Node) : (ownFailed c n).calm = n.calm :=
  calm_of_sansFire (ownFailed_sansFire c n)
@[simp] theorem fireOwn_calm (cs : List ChanId) (n : Node) : (fireOwn cs n).calm = n.calm :=
  calm_of_sansFire (fireOwn_sansFire cs n)
@[simp] theorem cancelOwn_calm (n : Node) : (cancelOwn n).calm = n.calm :=
  calm_of_sansFire (cancelOwn_sansFire n)
@[simp] theorem resetDeferral_calm (n : Node) : (resetDeferral n).calm = n.calm := rfl
@[simp] theorem aplOwnConfirmed_calm (n : Node) : (aplOwnConfirmed n).calm = n.calm :=
  calm_of_sansPlan (aplOwnConfirmed_sansPlan n)
@[simp] theorem aplFed_calm (k : Nat) (n : Node) : (aplFed k n).calm = n.calm :=
  calm_of_sansPlan (aplFed_sansPlan k n)
@[simp] theorem aplEvaluate_calm (n : Node) : (aplEvaluate n).calm = n.calm :=
  calm_of_sansPlan (aplEvaluate_sansPlan n)
@[simp] theorem aplPlan_calm (n : Node) : (aplPlan n).calm = n.calm :=
  calm_of_sansPlan (aplPlan_sansPlan n)
@[simp] theorem rclCountdown_calm (n : Node) : (rclCountdown n).calm = n.calm :=
  calm_of_sansClient (rclCountdown_sansClient n)

@[simp] theorem rclFeedLost_calm (b : Bool) (n : Node) : (rclFeedLost b n).calm = n.calm :=
  calm_of_sansLoss (rclFeedLost_sansLoss b n)
@[simp] theorem rclLoss_calm (b : Bool) (n : Node) : (rclLoss b n).calm = n.calm :=
  calm_of_sansLoss (rclLoss_sansLoss b n)
@[simp] theorem rclFed_calm (k : Nat) (o : FedOutcome) (n : Node) : (rclFed k o n).calm = n.calm := by
  unfold rclFed; dsimp only; repeat' split
  all_goals simp
@[simp] theorem ownReport_calm (c : ChanId) (r : PulseResult) (n : Node) :
    (ownReport c r n).calm = n.calm := by
  unfold ownReport; repeat' split
  all_goals simp
@[simp] theorem deliver_calm (rs : List VReport) (n : Node) : (deliver rs n).calm = n.calm := by
  induction rs generalizing n with
  | nil => rfl
  | cons r rs ih =>
    cases r with
    | own c r => unfold deliver; rw [ih, ownReport_calm]; split <;> simp
    | feed c r => unfold deliver; rw [ih, placeReport_calm]
    | uncommitted i => unfold deliver; rw [ih, rvaUncommitted_calm]
    | ready => unfold deliver; rw [ih, grantWalk_calm]
@[simp] theorem takeReports_calm (r : Node × List VReport) : (takeReports r).calm = r.1.calm := by
  unfold takeReports; split <;> simp

/-! ## The release law -/

/-- No release stands in the record, and no erase of it is in flight. -/
def unreleased (n : Node) : Prop :=
  n.cfs.release.state = .clear ∧ ∀ w, n.cfs.busy = some w → w.kind ≠ .erase

theorem hallReleased_iff (h : HallState) :
    hallReleased h = true ↔ (h = .discharging ∨ h = .soak ∨ h = .spent) := by
  cases h <;> simp [hallReleased]

/-- The law is read from the hall state and the store alone. -/
theorem releaseLaw_congr {a b : Node} (hh : a.hsq.hall = b.hsq.hall) (hc : a.cfs = b.cfs) :
    releaseLaw a ↔ releaseLaw b := by
  simp only [releaseLaw, hh, hc]

theorem releaseLaw_of_calm {a b : Node} (h : a.calm = b.calm) (hb : releaseLaw b) : releaseLaw a :=
  (releaseLaw_congr (hall_of_calm h) (cfs_of_calm h)).2 hb

theorem unreleased_of_calm {a b : Node} (h : a.calm = b.calm) (hb : unreleased b) : unreleased a := by
  simpa only [unreleased, cfs_of_calm h] using hb

/-- Before a release, in a hall state that is none, the law holds. -/
theorem releaseLaw_of_unreleased {n : Node} (h : unreleased n) (hh : hallReleased n.hsq.hall = false) :
    releaseLaw n := by
  obtain ⟨hclear, herase⟩ := h
  refine ⟨?_, fun w hw hk => absurd hk (herase w hw)⟩
  rw [← hallReleased_iff, hclear, hh]; simp

theorem unreleased_of_law {n : Node} (h : releaseLaw n) (hh : hallReleased n.hsq.hall = false) :
    unreleased n := by
  obtain ⟨hstate, herase⟩ := h
  rw [← hallReleased_iff, hh] at hstate
  refine ⟨by simpa using hstate, fun w hw hk => ?_⟩
  rw [(herase w hw hk).1] at hh
  exact absurd hh (by decide)

/-- A discharge, a soak or a spent hall with its record set keeps the law when the hall moves on among them,
but not out of SPENT. -/
theorem releaseLaw_moved {n m : Node} (h : releaseLaw n) (hc : m.cfs = n.cfs)
    (hh : hallReleased m.hsq.hall = hallReleased n.hsq.hall) (hs : n.hsq.hall ≠ .spent) : releaseLaw m := by
  obtain ⟨hstate, herase⟩ := h
  refine ⟨?_, fun w hw hk => absurd (herase w (hc ▸ hw) hk).1 hs⟩
  rw [← hallReleased_iff] at hstate ⊢
  rw [hc, hh, hstate]

/-! ## Moves of the hall that keep the law -/

/-- The release write sets the record, and the write it starts or leaves is no erase. -/
theorem releaseWrite_law {n : Node} (a b c : Nat) (hh : n.hsq.hall = .discharging)
    (he : ∀ w, n.cfs.busy = some w → w.kind ≠ .erase) : releaseLaw (releaseWrite a b c n) := by
  have hhall : (releaseWrite a b c n).hsq.hall = .discharging := by
    unfold releaseWrite; dsimp only; split <;> exact hh
  have hrel : (releaseWrite a b c n).cfs.release.state = .released := by
    unfold releaseWrite; dsimp only; split <;> rfl
  have hbusy : ∀ w, (releaseWrite a b c n).cfs.busy = some w → w.kind ≠ .erase := by
    unfold releaseWrite; dsimp only; split
    · rintro w ⟨⟩; simp
    · exact he
  refine ⟨?_, fun w hw hk => absurd hk (hbusy w hw)⟩
  rw [hhall, hrel]; simp

theorem enterDischarging_calm (n : Node) : (enterDischarging n).calm
    = (releaseWrite n.apl.wd n.apl.nOwn n.apl.nRes (toDischarging n)).calm := by
  simp only [enterDischarging, Node.setFlag_calm, startDuration_calm, openReserve_calm, fireOwn_calm]
  rfl

theorem enterFallback_calm (n : Node) : (enterFallback n).calm
    = (releaseWrite 0 (toDischarging n).readyHall.length 0 (toDischarging n)).calm := by
  simp only [enterFallback, Node.setFlag_calm, startDuration_calm]
  exact fireOwn_calm _ _

theorem enterDischarging_law {n : Node} (h : unreleased n) : releaseLaw (enterDischarging n) :=
  releaseLaw_of_calm (enterDischarging_calm n) (releaseWrite_law _ _ _ rfl h.2)

theorem enterFallback_law {n : Node} (h : unreleased n) : releaseLaw (enterFallback n) :=
  releaseLaw_of_calm (enterFallback_calm n) (releaseWrite_law _ _ _ rfl h.2)

theorem isolatedRelease_law {n : Node} (h : unreleased n) : releaseLaw (isolatedRelease n) :=
  releaseLaw_of_calm (vsuIsolated_calm _) (enterDischarging_law h)

theorem enterSoak_hall (n : Node) : (enterSoak n).hsq.hall = .soak := by
  unfold enterSoak; dsimp only; split
  · exact (hall_of_calm ((vsuWithdraw_calm _).trans (aplEvaluate_calm _)) :)
  · rfl

theorem enterSoak_cfs (n : Node) : (enterSoak n).cfs = n.cfs := by
  unfold enterSoak; dsimp only; split
  · exact (cfs_of_calm ((vsuWithdraw_calm _).trans (aplEvaluate_calm _)) :)
  · rfl

theorem enterSoak_law {n : Node} (h : releaseLaw n) (hh : n.hsq.hall = .discharging) :
    releaseLaw (enterSoak n) :=
  releaseLaw_moved h (enterSoak_cfs n) (by rw [enterSoak_hall, hh]; rfl) (by simp [hh])

theorem Node.soakDue_hall {n : Node} (h : n.soakDue = true) : n.hsq.hall = .discharging := by
  simp only [Node.soakDue, Bool.and_eq_true, decide_eq_true_eq] at h
  exact h.1.1.1

theorem soakTest_law {n : Node} (h : releaseLaw n) : releaseLaw (soakTest n) := by
  unfold soakTest; split
  next hdue => exact enterSoak_law h (Node.soakDue_hall hdue)
  next => exact h

theorem slotHeld_law {n : Node} (h : releaseLaw n) : releaseLaw (slotHeld n) := by
  unfold slotHeld; split
  next hh => exact enterDischarging_law (unreleased_of_law h (by rw [hh]; rfl))
  next => exact h

theorem takeSlot_law {r : Node × Bool} (h : releaseLaw r.1) : releaseLaw (takeSlot r) := by
  unfold takeSlot; split
  · exact slotHeld_law h
  · exact h

/-- A report of VSU taken: the law holds where VSU's own step is calm. -/
theorem takeSlot_law_of_sansVent {r : Node × Bool} {n : Node} (hr : r.1.sansVent = n.sansVent)
    (h : releaseLaw n) : releaseLaw (takeSlot r) :=
  takeSlot_law (releaseLaw_of_calm (calm_of_sansVent hr) h)

theorem slotForced_law {n : Node} (h : releaseLaw n) : releaseLaw (slotForced n) := by
  unfold slotForced; split
  next hh => exact enterDischarging_law (n := n.setFlag _) (unreleased_of_law (n := n) h (by rw [hh]; rfl))
  next => exact h

theorem epoAtExpiry_cfs (n : Node) : (epoAtExpiry n).cfs = n.cfs := by
  unfold epoAtExpiry; split <;> rfl

theorem epoTest_cfs (n : Node) : (epoTest n).cfs = n.cfs := by
  unfold epoTest; split <;> rfl

theorem epoTest_hall (n : Node) : (epoTest n).hsq.hall = n.hsq.hall := by
  unfold epoTest; split <;> rfl

theorem expire_law {n : Node} (h : unreleased n) : releaseLaw (expire n) := by
  unfold expire; dsimp only; split
  · have hm : ∀ k, unreleased (epoAtExpiry (rclNewCount k (aplReplan n))) := fun k => by
      have : (epoAtExpiry (rclNewCount k (aplReplan n))).cfs = n.cfs :=
        (epoAtExpiry_cfs _).trans (cfs_of_calm (rclNewCount_calm k (aplReplan n)))
      simpa only [unreleased, this] using h
    split
    · exact isolatedRelease_law (hm _)
    · exact takeSlot_law_of_sansVent (vsuAsk_sansVent _) (releaseLaw_of_unreleased (hm _) rfl)
  · exact enterFallback_law h

theorem expireIfDone_law {n : Node} (h : unreleased n) (hh : hallReleased n.hsq.hall = false) :
    releaseLaw (expireIfDone n) := by
  unfold expireIfDone; split
  · exact expire_law h
  · exact releaseLaw_of_unreleased h hh

theorem resume_law {n : Node} (k : Nat) (h : unreleased n) : releaseLaw (resume k n) := by
  refine expireIfDone_law ?_ (by rw [epoTest_hall]; rfl)
  simpa only [unreleased, epoTest_cfs] using h

theorem holdOperated_cfs (n : Node) : (holdOperated n).cfs = n.cfs := by
  unfold holdOperated; repeat' split
  all_goals rfl

theorem holdOperated_released (n : Node) :
    hallReleased (holdOperated n).hsq.hall = hallReleased n.hsq.hall := by
  unfold holdOperated; split
  next hh =>
    split
    · rfl
    · rw [hh]; rfl
  all_goals rfl

theorem holdOperated_law {n : Node} (h : releaseLaw n) : releaseLaw (holdOperated n) := by
  by_cases hh : hallReleased n.hsq.hall = false
  · refine releaseLaw_of_unreleased ?_ ((holdOperated_released n).trans hh)
    simpa only [unreleased, holdOperated_cfs] using unreleased_of_law h hh
  · have : (holdOperated n).hsq.hall = n.hsq.hall := by
      unfold holdOperated; split
      next he => rw [he] at hh; exact absurd rfl hh
      all_goals rfl
    exact (releaseLaw_congr this (holdOperated_cfs n)).2 h

theorem holdReleased_law {n : Node} (h : releaseLaw n) : releaseLaw (holdReleased n) := by
  unfold holdReleased; split
  next hh => exact resume_law _ (unreleased_of_law h (by rw [hh]; rfl))
  next => exact h

theorem enterCountdown_law {n : Node} (cause : Cause) (k : Nat) (h : unreleased n) :
    releaseLaw (enterCountdown cause k n) := by
  -- up to the hold switch the hall stands in COUNTDOWN over the same store
  have key : ∀ m : Node, m.cfs = n.cfs → m.hsq.hall = .countdown →
      releaseLaw (expireIfDone (if (epoTest m).fiu.hold.delivered = .operated then
        holdOperated (epoTest m) else epoTest m)) := by
    intro m hc hh
    have he : (epoTest m).cfs = n.cfs := (epoTest_cfs m).trans hc
    have hf : hallReleased (epoTest m).hsq.hall = false := by rw [epoTest_hall, hh]; rfl
    split
    · refine expireIfDone_law ?_ ((holdOperated_released _).trans hf)
      simpa only [unreleased, holdOperated_cfs, he] using h
    · exact expireIfDone_law (by simpa only [unreleased, he] using h) hf
  unfold enterCountdown; dsimp only
  split
  · have hc := (rclCountdown_calm (aplPlan (startCountdown cause k n))).trans (aplPlan_calm _)
    exact key _ ((cfs_of_calm hc).trans rfl) ((hall_of_calm hc).trans rfl)
  · exact key _ rfl rfl

theorem rest_cfs (n : Node) : (rest n).cfs = n.cfs := by
  unfold rest; dsimp only; split <;> rfl

theorem rest_released (n : Node) : hallReleased (rest n).hsq.hall = false := by
  unfold rest; dsimp only; split <;> rfl

theorem reeval_law {n : Node} (h : releaseLaw n) : releaseLaw (reeval n) := by
  unfold reeval; split
  next hh =>
    have hu : unreleased n := unreleased_of_law h (by rcases hh with hh | hh <;> rw [hh] <;> rfl)
    split
    · exact enterCountdown_law _ _ hu
    · exact releaseLaw_of_unreleased (by simpa only [unreleased, rest_cfs] using hu) (rest_released n)
  next => exact h

theorem refreshZones_law {n : Node} (h : releaseLaw n) : releaseLaw (refreshZones n) := reeval_law h

theorem refreshAdjacent_law {n : Node} (h : releaseLaw n) : releaseLaw (refreshAdjacent n) := reeval_law h

theorem enterQuiet_law {n : Node} (h : unreleased n) : releaseLaw (enterQuiet n) :=
  reeval_law (releaseLaw_of_unreleased h rfl)

theorem enterLockout_law {n : Node} (h : unreleased n) : releaseLaw (enterLockout n) := by
  unfold enterLockout; dsimp only; split
  · exact releaseLaw_of_unreleased h rfl
  · exact enterQuiet_law h

theorem manualRelease_law {n : Node} (h : releaseLaw n) : releaseLaw (manualRelease n) := by
  have hu : hallReleased n.hsq.hall = false → unreleased n := unreleased_of_law h
  unfold manualRelease; dsimp only; split
  next hh => exact enterCountdown_law _ _ (hu (by rw [hh]; rfl))
  next hh => exact enterCountdown_law _ _ (hu (by rw [hh]; rfl))
  next hh => exact resume_law _ (hu (by rw [hh]; rfl))
  next hh => exact resume_law _ (hu (by rw [hh]; rfl))
  all_goals exact h

theorem hsqIsolate_law {n : Node} (h : releaseLaw n) : releaseLaw (hsqIsolate n) := by
  have hu : hallReleased n.hsq.hall = false → unreleased (rclGiveUp n) := fun hh =>
    unreleased_of_calm (rclGiveUp_calm n) (unreleased_of_law h hh)
  unfold hsqIsolate; dsimp only; split
  next hh => exact enterLockout_law (hu (by rw [hh]; rfl))
  next hh => exact enterLockout_law (hu (by rw [hh]; rfl))
  next hh => exact enterLockout_law (hu (by rw [hh]; rfl))
  next hh => exact enterLockout_law (hu (by rw [hh]; rfl))
  next hh =>
    exact enterLockout_law (unreleased_of_calm (vsuWithdraw_calm _) (hu (by rw [hh]; rfl)))
  next hh =>
    have hc : ∀ m, m = cancelOwn n ∨ m = rclGiveUp (cancelOwn n) → releaseLaw (enterSoak m) := by
      rintro m (rfl | rfl)
      · exact enterSoak_law (releaseLaw_of_calm (cancelOwn_calm n) h)
          ((hall_of_calm (cancelOwn_calm n)).trans hh)
      · have hm := (rclGiveUp_calm (cancelOwn n)).trans (cancelOwn_calm n)
        exact enterSoak_law (releaseLaw_of_calm hm h) ((hall_of_calm hm).trans hh)
    split
    · exact hc _ (.inr rfl)
    · exact hc _ (.inl rfl)
  all_goals exact h

theorem hsqNormal_law {n : Node} (h : releaseLaw n) : releaseLaw (hsqNormal n) := by
  unfold hsqNormal; split
  next hh => exact enterQuiet_law (unreleased_of_law h (by rw [hh]; rfl))
  next => exact h

theorem hsqLost_law {n : Node} (h : releaseLaw n) : releaseLaw (hsqLost n) := by
  have hm := refreshAdjacent_law h
  unfold hsqLost; dsimp only; split
  next hh => exact isolatedRelease_law (unreleased_of_law hm (by rw [hh]; rfl))
  next => exact hm

/-! ## The events of RUN keep the law -/

theorem zoneEvent_law (zone : Zone) (current : Nat) {n : Node} (h : releaseLaw n) :
    releaseLaw (zoneEvent zone current n) := by
  cases zone <;> exact refreshZones_law h

theorem stationEvent_law (current : Nat) {n : Node} (h : releaseLaw n) :
    releaseLaw (stationEvent current n) := by
  unfold stationEvent; dsimp only; split
  · exact manualRelease_law h
  · exact h

theorem holdEvent_law (first : Bool) (current : Nat) {n : Node} (h : releaseLaw n) :
    releaseLaw (holdEvent first current n) := by
  unfold holdEvent; dsimp only; split
  · split
    · exact holdOperated_law h
    · exact holdReleased_law h
  · exact h

theorem rvaIsolate_law {n : Node} (h : releaseLaw n) :
    releaseLaw (if n.rvaActive then rvaIsolate n else n) := by
  split
  · exact releaseLaw_of_calm (calm_of_sansBank (rvaIsolate_sansBank n)) h
  · exact h

theorem keyIsolate_law {n : Node} (h : releaseLaw n) : releaseLaw (keyIsolate n) :=
  hsqIsolate_law (rvaIsolate_law (releaseLaw_of_calm
    ((takeReports_calm _).trans (calm_of_sansValve (vcuIsolate_sansValve n))) h))

theorem keyNormal_law {n : Node} (h : releaseLaw n) : releaseLaw (keyNormal n) := by
  refine hsqNormal_law (releaseLaw_of_calm ((feedTest_calm _).trans ((takeReports_calm _).trans
    (calm_of_sansValve (vcuNormal_sansValve _)))) ?_)
  exact h

theorem keyEvent_law (first a b : Bool) {n : Node} (h : releaseLaw n) :
    releaseLaw (keyEvent first a b n) := by
  unfold keyEvent; dsimp only; split
  · split
    · exact keyIsolate_law h
    · exact keyNormal_law h
  · exact h

theorem degradedExpiry_law {n : Node} (h : releaseLaw n) : releaseLaw (degradedExpiry n) := by
  unfold degradedExpiry; split
  · split
    next hh =>
      have hu : unreleased n := unreleased_of_law h (by rcases hh with hh | hh <;> rw [hh] <;> rfl)
      exact releaseLaw_of_calm (Node.setFlag_calm _ _) (enterCountdown_law _ _ hu)
    next => exact h
  · exact h

theorem epoPoint_law {n : Node} (h : releaseLaw n) : releaseLaw (epoPoint n) :=
  (releaseLaw_congr (epoTest_hall n) (epoTest_cfs n)).2 h

theorem countdownOver_law {n : Node} (h : releaseLaw n) : releaseLaw (countdownOver n) := by
  unfold countdownOver; split
  · split
    next hh => exact expire_law (unreleased_of_law h (by rw [hh.1]; rfl))
    next => exact h
  all_goals exact h

theorem durationOver_law {n : Node} (h : releaseLaw n) : releaseLaw (durationOver n) := by
  unfold durationOver; dsimp only; split
  · split
    · exact soakTest_law h
    · exact h
  · exact h

theorem soakOver_law {n : Node} (h : releaseLaw n) : releaseLaw (soakOver n) := by
  unfold soakOver; dsimp only; split
  · split
    next hh =>
      replace hh : n.hsq.hall = .soak := hh
      exact releaseLaw_moved h rfl (by rw [hh]; rfl) (by simp [hh])
    next => exact h
  · exact h

theorem pressureEvent_law (reading : Int) {n : Node} (h : releaseLaw n) :
    releaseLaw (pressureEvent reading n) :=
  releaseLaw_of_calm (calm_of_sansValve (deferralRead_sansValve ..)) h

theorem afterReports_law {r : Node × List VReport} {n : Node} (hr : r.1.sansValve = n.sansValve)
    (h : releaseLaw n) : releaseLaw (afterReports r) := by
  have hm : releaseLaw r.1 := releaseLaw_of_calm (calm_of_sansValve hr) h
  unfold afterReports; split
  · exact hm
  · exact soakTest_law (releaseLaw_of_calm (takeReports_calm r) hm)

theorem pulseOver_law {n : Node} (h : releaseLaw n) : releaseLaw (pulseOver n) := by
  unfold pulseOver; split
  · exact afterReports_law (endPulse_sansValve n) h
  · exact h

theorem windowOver_law (c : ChanId) {n : Node} (h : releaseLaw n) : releaseLaw (windowOver c n) := by
  unfold windowOver; split
  · exact afterReports_law (endWindow_sansValve c n) h
  · exact h

theorem monitorCut_law (c : ChanId) {n : Node} (h : releaseLaw n) : releaseLaw (monitorCut c n) := by
  unfold monitorCut; split
  · exact afterReports_law (cutDrive_sansValve c n) h
  · exact h

theorem selReport_law (r : SelReport) {n : Node} (h : releaseLaw n) : releaseLaw (selReport r n) := by
  unfold selReport; split
  · exact soakTest_law (releaseLaw_of_calm (calm_of_sansClient (rclOpened_sansClient n)) h)
  · exact h
  · exact soakTest_law (releaseLaw_of_calm (calm_of_sansClient (rclJammed_sansClient n)) h)

theorem selReports_law (rs : List SelReport) {n : Node} (h : releaseLaw n) :
    releaseLaw (selReports rs n) := by
  induction rs generalizing n with
  | nil => exact h
  | cons r rs ih => exact ih (selReport_law r h)

theorem limitRead_law (a b : Bool) {n : Node} (h : releaseLaw n) : releaseLaw (limitRead a b n) :=
  selReports_law _ (releaseLaw_of_calm (calm_of_sansValve (selRead_sansValve _ n)) h)

theorem travelOver_law {n : Node} (h : releaseLaw n) : releaseLaw (travelOver n) := by
  unfold travelOver; split
  · split
    · exact h
    · exact selReports_law _ (releaseLaw_of_calm (calm_of_sansValve (selJam_sansValve n)) h)
  · exact h

/-! ## The link's events keep the law -/

theorem eitherOrder_law {f g : Node → Node} (hf : ∀ m, releaseLaw m → releaseLaw (f m))
    (hg : ∀ m, releaseLaw m → releaseLaw (g m)) {n : Node} (h : releaseLaw n) :
    releaseLaw (eitherOrder f g n) := by
  unfold eitherOrder; dsimp only; split
  · exact hf _ (hg _ h)
  · exact hg _ (hf _ h)

theorem hsqAndRcl_law {f g : Node → Node} (hf : ∀ m, releaseLaw m → releaseLaw (f m))
    (hg : ∀ m, releaseLaw m → releaseLaw (g m)) {n : Node} (h : releaseLaw n) :
    releaseLaw (hsqAndRcl f g n) := by
  unfold hsqAndRcl; split
  · exact eitherOrder_law hf hg h
  · exact hg _ (hf _ h)

theorem holderLoss_law (b : Bool) {n : Node} (h : releaseLaw n) : releaseLaw (holderLoss b n) :=
  soakTest_law (releaseLaw_of_calm (rclLoss_calm b n) h)

theorem linkLost_law {n : Node} (h : releaseLaw n) : releaseLaw (linkLost n) :=
  releaseLaw_of_calm ((calm_of_sansVent (vsuLost_sansVent _)).trans
      (calm_of_sansBank (rvaLost_sansBank _)))
    (hsqAndRcl_law (fun _ => hsqLost_law) (fun _ => holderLoss_law true) (n := lkcLost n) h)

theorem idClash_law {n : Node} (h : releaseLaw n) : releaseLaw (idClash n) := by
  unfold idClash; dsimp only; split
  · exact h
  · exact linkLost_law h

theorem rvaPeer_law (i : NodeId) {n : Node} (h : releaseLaw n) : releaseLaw (rvaPeer i n) :=
  releaseLaw_of_calm (calm_of_sansBank (rvaPeer_sansBank i n)) h

theorem peerAbsent_law (i : NodeId) {n : Node} (h : releaseLaw n) : releaseLaw (peerAbsent i n) := by
  refine hsqAndRcl_law (fun m hm => takeSlot_law_of_sansVent (vsuAbsent_sansVent i m) hm)
    (fun m hm => ?_) (rvaPeer_law i (refreshAdjacent_law (n := n.setPeer _ _) h))
  split
  · exact holderLoss_law false hm
  · exact hm

theorem when_law (b : Bool) {f : Node → Node} (hf : ∀ m, releaseLaw m → releaseLaw (f m)) {n : Node}
    (h : releaseLaw n) : releaseLaw (when b f n) := by
  cases b
  · exact h
  · exact hf n h

theorem peerStanding_law (src : NodeId) (c : Standing) {n : Node} (h : releaseLaw n) :
    releaseLaw (peerStanding src c n) := by
  refine when_law _ (fun m hm => takeSlot_law_of_sansVent (vsuRepair_sansVent src m) hm) ?_
  refine when_law _ (fun m hm => soakTest_law
    (releaseLaw_of_calm (calm_of_sansClient (rclHolder_sansClient src m)) hm)) ?_
  exact when_law _ (fun m => rvaPeer_law src) (when_law _ (fun m => refreshAdjacent_law) h)

theorem countHeard_law {n : Node} (h : releaseLaw n) : releaseLaw (countHeard n) := by
  unfold countHeard; dsimp only; split <;> exact h

theorem returnInFlight_law {n : Node} (h : releaseLaw n) : releaseLaw (returnInFlight n) := by
  unfold returnInFlight; split <;> exact h

theorem handOn_law (f : Frame) {n : Node} (h : releaseLaw n) : releaseLaw (handOn f n) := by
  unfold handOn; split
  · exact peerStanding_law _ _ h
  all_goals split
  · exact releaseLaw_of_calm (calm_of_sansBank (rvaBid_sansBank ..)) h
  · exact h
  · exact releaseLaw_of_calm (calm_of_sansBank (rvaYield_sansBank ..)) h
  · exact h
  · exact releaseLaw_of_calm (calm_of_sansBank (rvaWayopen_sansBank ..)) h
  · exact h
  · exact soakTest_law (releaseLaw_of_calm (rclFed_calm _ _ n) h)
  · exact h
  · exact takeSlot_law_of_sansVent (vsuVent_sansVent _ _ n) h
  · exact h
  · exact takeSlot_law_of_sansVent (vsuVentfree_sansVent _ _ n) h
  · exact h

theorem reportPlaced_law (f : Frame) {n : Node} (h : releaseLaw n) : releaseLaw (reportPlaced f n) := by
  unfold reportPlaced; split
  · exact releaseLaw_of_calm (calm_of_sansClient (bidPlaced_sansClient n)) h
  · exact takeSlot_law_of_sansVent (ventPlaced_sansVent n) h
  · exact releaseLaw_of_calm (calm_of_sansBank (answerPlaced_sansBank n)) h
  all_goals exact h

theorem hearForeign_law (f : Frame) {n : Node} (h : releaseLaw n) : releaseLaw (hearForeign f n) := by
  have hc : releaseLaw (countHeard (returnInFlight n)) := countHeard_law (returnInFlight_law h)
  unfold hearForeign; split
  · split
    · split
      · exact handOn_law _ hc
      · exact idClash_law h
    all_goals exact hc
  · exact handOn_law _ hc

theorem hear_law (f : Frame) {n : Node} (h : releaseLaw n) : releaseLaw (hear f n) := by
  unfold hear; split
  · split
    · exact h
    · split
      · exact reportPlaced_law _ (handOn_law _ (countHeard_law h))
      · exact hearForeign_law f h
  · exact returnInFlight_law h

theorem hearBytes_law (bytes : List Byte) {n : Node} (h : releaseLaw n) :
    releaseLaw (hearBytes bytes n) := by
  unfold hearBytes; split
  · exact hear_law _ h
  · exact returnInFlight_law h

theorem offer_law (d : Option Nat) {n : Node} (h : releaseLaw n) : releaseLaw (offer d n) := by
  unfold offer; dsimp only; split
  · exact h
  · split
    · exact h
    · split <;> exact h

theorem queueStanding_law {n : Node} (h : releaseLaw n) : releaseLaw (queueStanding n) := by
  unfold queueStanding; split <;> exact h

theorem statusOver_law {n : Node} (h : releaseLaw n) : releaseLaw (statusOver n) := by
  unfold statusOver; split
  · exact queueStanding_law h
  · exact h

theorem listenOver_law {n : Node} (h : releaseLaw n) : releaseLaw (listenOver n) := by
  unfold listenOver; split
  · refine takeSlot_law_of_sansVent (vsuJoined_sansVent _) (releaseLaw_of_calm
      ((calm_of_sansBank (rvaRebuild_sansBank _)).trans (calm_of_sansClient (retryBid_sansClient _))) ?_)
    exact h
  · exact h

theorem silenceOver_law {n : Node} (h : releaseLaw n) : releaseLaw (silenceOver n) := by
  unfold silenceOver; split
  · exact linkLost_law h
  · exact h

theorem placementOver_law {n : Node} (h : releaseLaw n) : releaseLaw (placementOver n) := by
  unfold placementOver; split
  · exact linkLost_law h
  · exact h

theorem presenceOver_law (i : NodeId) {n : Node} (h : releaseLaw n) : releaseLaw (presenceOver i n) := by
  unfold presenceOver; split
  · exact peerAbsent_law i h
  · exact h

theorem waitOver_law {n : Node} (h : releaseLaw n) : releaseLaw (waitOver n) := by
  unfold waitOver; dsimp only; split
  · split
    · split
      · exact h
      · refine soakTest_law (releaseLaw_of_calm (rclEnd_calm _ _) ?_)
        exact h
    · exact h
  all_goals exact h

theorem feedOver_law {n : Node} (h : releaseLaw n) : releaseLaw (feedOver n) := by
  unfold feedOver; split
  · split
    · exact soakTest_law (releaseLaw_of_calm (rclFeedLost_calm _ n) h)
    · exact h
  · exact h

theorem slotOver_law {n : Node} (h : releaseLaw n) : releaseLaw (slotOver n) := by
  unfold slotOver; dsimp only; split
  · split
    · exact slotForced_law h
    · exact h
  · exact h

theorem supervise_law (o : SupOutput) (c : SupClass) {n : Node} (h : releaseLaw n) :
    releaseLaw (supervise o c n) := by
  unfold supervise; dsimp only; split
  · split
    · exact h
    · refine releaseLaw_of_calm (Node.setFlagIf_calm _ _ _) ?_
      exact h
  · exact h

/-! ## The store's events keep the law -/

/-- A write that has ended leaves the law, and an erase leaves SPENT with the record CLEAR. -/
theorem reportWrite_law {n : Node} {w : RowWrite} (h : releaseLaw n) (hb : n.cfs.busy = some w) :
    releaseLaw (reportWrite w.kind (finishWrite w n)) := by
  have hkeep : releaseLaw (finishWrite w n) := ⟨h.1, fun v hv => nomatch hv⟩
  unfold reportWrite; split
  next => exact hkeep
  next => exact hkeep
  next hk =>
    have hs : n.hsq.hall = .spent := (h.2 w hb hk).1
    unfold rowErased
    rw [if_pos (show (svpComplete (eraseRecord (finishWrite w n))).hsq.hall = .spent from hs)]
    exact enterLockout_law ⟨rfl, fun v hv => nomatch hv⟩

theorem startPending_law {n : Node} (h : releaseLaw n) : releaseLaw (startPending n) := by
  unfold startPending; split
  · exact h
  · exact ⟨h.1, by rintro w ⟨⟩ hk; exact nomatch hk⟩

theorem writeOver_law {n : Node} (h : releaseLaw n) : releaseLaw (writeOver n) := by
  unfold writeOver; split
  · exact h
  next w hb =>
    split
    · exact startPending_law (reportWrite_law h hb)
    · exact h

/-! ## Start-up and the resets keep the law -/

theorem nodeStart_law (now free : Nat) (rows : Vector Row 13) (id : NodeId) (cause : ResetCause) :
    releaseLaw (Node.start now free rows id cause) :=
  releaseLaw_of_unreleased ⟨rfl, fun _ hw => nomatch hw⟩ rfl

theorem flipRows_keeps (flips : List (RowId × Fin 128)) (n : Node) :
    flipRows flips n = { n with cfs.rows := (flipRows flips n).cfs.rows } := by
  induction flips generalizing n with
  | nil => rfl
  | cons f fs ih => exact ih _

theorem flipRows_law (flips : List (RowId × Fin 128)) {n : Node} (h : releaseLaw n) :
    releaseLaw (flipRows flips n) := by
  rw [flipRows_keeps]; exact h

theorem takeRelease_law {n : Node} (he : ∀ w, n.cfs.busy = some w → w.kind ≠ .erase) :
    releaseLaw (takeRelease n) := by
  refine releaseLaw_of_calm (Node.setFlagIf_calm _ _ _) ⟨?_, fun w hw hk => absurd hk (he w hw)⟩
  by_cases hr : (releaseOf n.cfs.kept).state = .clear <;> simp [hr]

/-- Before RUN no erase is in flight. -/
theorem noErase_of_phase {n : Node} (h : releaseLaw n) (hp : n.cfs.phase ≠ .run) :
    ∀ w, n.cfs.busy = some w → w.kind ≠ .erase := fun w hw hk => hp (h.2 w hw hk).2

theorem loadRows_law (upTo : Nat) {n : Node} (h : releaseLaw n)
    (he : ∀ w, n.cfs.busy = some w → w.kind ≠ .erase) :
    releaseLaw (loadRows upTo n) := by
  unfold loadRows; dsimp only; split
  · refine takeRelease_law ?_
    rw [Node.setFlagIf_cfs]; exact he
  · exact releaseLaw_of_calm (Node.setFlagIf_calm _ _ _) ⟨h.1, fun w hw hk => absurd hk (he w hw)⟩

theorem loadRows_busy (upTo : Nat) (n : Node) : (loadRows upTo n).cfs.busy = n.cfs.busy := by
  unfold loadRows takeRelease; dsimp only; split <;> simp

theorem validate_law {n : Node} (h : releaseLaw n)
    (he : ∀ w, n.cfs.busy = some w → w.kind ≠ .erase) : releaseLaw (validate n) :=
  releaseLaw_of_calm (Node.setFlagIf_calm _ _ _) ⟨h.1, fun w hw hk => absurd hk (he w hw)⟩

theorem buildSelector_law (r : SelReading) {n : Node} (h : releaseLaw n) :
    releaseLaw (buildSelector r n) := by
  unfold buildSelector; dsimp only; split <;> exact h

theorem hsqFirstKey_law {n : Node} (h : releaseLaw n) : releaseLaw (hsqFirstKey n) := by
  unfold hsqFirstKey; split
  · exact hsqIsolate_law h
  · exact hsqNormal_law h

theorem startLink_law {n : Node} (h : releaseLaw n) : releaseLaw (startLink n) := by
  unfold startLink; exact queueStanding_law h

theorem enterRun_law (i : LoadInputs) {n : Node} (h : releaseLaw n) : releaseLaw (enterRun i n) := by
  have hin := pressureEvent_law i.pressure (n := temperatureEvent i.temperature n) h
  have hkey : releaseLaw (firstKey i.keyNormal i.keyIsolate
    (pressureEvent i.pressure (temperatureEvent i.temperature n))) := hin
  have hvalve : releaseLaw (buildChannels i.cylinders (firstKey i.keyNormal i.keyIsolate
    (pressureEvent i.pressure (temperatureEvent i.temperature n)))) := hkey
  exact stationEvent_law _ (zoneEvent_law _ _ (zoneEvent_law _ _ (holdEvent_law _ _
    (hsqFirstKey_law (startLink_law (buildSelector_law _ hvalve))))))

theorem load_law (i : LoadInputs) {n : Node} (h : releaseLaw n) (hp : n.cfs.phase ≠ .run) :
    releaseLaw (load i n) := by
  have he := noErase_of_phase h hp
  have hbusy : (flipRows i.flips n).cfs.busy = n.cfs.busy := by rw [flipRows_keeps]
  have hrows : releaseLaw (loadRows i.upTo (flipRows i.flips n)) :=
    loadRows_law _ (flipRows_law _ h) (by rw [hbusy]; exact he)
  have hrowsBusy : (loadRows i.upTo (flipRows i.flips n)).cfs.busy = n.cfs.busy :=
    (loadRows_busy _ _).trans hbusy
  unfold load; dsimp only; split <;> split
  · exact enterRun_law i (validate_law hrows (by rw [hrowsBusy]; exact he))
  · exact enterRun_law i (validate_law h he)
  · exact hrows
  · exact h

/-! ## The port's commands keep the law -/

theorem modSvp_law (f : Svp → Svp) {n : Node} (h : releaseLaw n) : releaseLaw (n.modSvp f) := h

theorem setIndex_law (b : Byte) {n : Node} (h : releaseLaw n) : releaseLaw (setIndex b n) := by
  unfold setIndex; split <;> exact h

theorem setPointer_law (b : Byte) {n : Node} (h : releaseLaw n) : releaseLaw (setPointer b n) := by
  unfold setPointer; split
  · exact h
  · split <;> exact h

theorem writeRegister_law (b : Byte) {n : Node} (h : releaseLaw n) : releaseLaw (writeRegister b n) := by
  unfold writeRegister; dsimp only; repeat' split
  all_goals exact h

theorem resetZones_law {n : Node} (h : releaseLaw n) : releaseLaw (resetZones n) := by
  unfold resetZones; dsimp only; split
  · exact refreshZones_law h
  · exact h

theorem alarmResetCommand_law {n : Node} (h : releaseLaw n) : releaseLaw (alarmResetCommand n) := by
  unfold alarmResetCommand; split
  · exact resetZones_law h
  · exact h

theorem Node.running_phase {n : Node} (h : n.running = true) : n.cfs.phase = .run := by
  simp only [Node.running, Bool.and_eq_true, decide_eq_true_eq] at h; exact h.2

theorem clearReleaseCommand_law {n : Node} (h : releaseLaw n) : releaseLaw (clearReleaseCommand n) := by
  unfold clearReleaseCommand; split
  · exact h
  next hr =>
    split
    · exact h
    next hs =>
      split
      · exact h
      · have hspent : n.hsq.hall = .spent := not_not.1 (not_or.1 hs).2
        exact ⟨h.1, fun w _ _ => ⟨hspent, Node.running_phase (n := n) (by simpa using hr)⟩⟩

theorem readRowCommand_law (b : Byte) {n : Node} (h : releaseLaw n) : releaseLaw (readRowCommand b n) := by
  unfold readRowCommand readRow; dsimp only; repeat' split
  all_goals exact h

theorem writeRow_law {n : Node} (h : releaseLaw n) : releaseLaw (writeRow n) := by
  unfold writeRow; dsimp only; repeat' split
  · exact h
  · exact h
  · exact h
  · exact ⟨h.1, by rintro w ⟨⟩ hk; exact nomatch hk⟩

theorem writeRowCommand_law (b : Byte) {n : Node} (h : releaseLaw n) :
    releaseLaw (writeRowCommand b n) := by
  unfold writeRowCommand; dsimp only; repeat' split
  · exact h
  · exact h
  · exact writeRow_law (modSvp_law _ h)

/-! ## Every command keeps the law -/

theorem finish_law (b : Node) {n : Node} (h : releaseLaw n) : releaseLaw (finish b n) :=
  (releaseLaw_congr (by rw [finish_hsq]) (finish_cfs b n)).2 h

/-- The outcome's next state keeps the law. -/
def lawKept (s : State) (o : Host.Outcome State Fault Refusal) : Prop :=
  releaseLaw s.node → ∀ t, o = .next t → releaseLaw t.node

theorem lawKept_next {s t : State} (h : releaseLaw s.node → releaseLaw t.node) : lawKept s (.next t) := by
  rintro hs _ ⟨⟩; exact h hs

theorem lawKept_onNode {s : State} {f : Node → Node} (h : releaseLaw s.node → releaseLaw (f s.node)) :
    lawKept s (onNode f s) := lawKept_next fun hs => finish_law _ (h hs)

theorem lawKept_inRun {s : State} {f : Node → Node} (h : releaseLaw s.node → releaseLaw (f s.node)) :
    lawKept s (inRun f s) := by
  unfold inRun; split
  · exact lawKept_onNode h
  · exact lawKept_next id

theorem lawKept_onByte {s : State} {here : Svp → Bool} {f : Node → Node}
    (h : releaseLaw s.node → releaseLaw (f s.node)) : lawKept s (onByte here f s) := by
  unfold onByte; split
  · exact lawKept_onNode h
  · exact lawKept_next id

theorem beginLoad_law (straps : NodeId) (cause : ResetCause) (s : State) :
    releaseLaw (beginLoad straps cause s).node := nodeStart_law ..

theorem letGo_law (straps : NodeId) {s : State} (h : releaseLaw s.node) :
    releaseLaw (letGo straps s).node := by
  unfold letGo; split
  · exact h
  · exact beginLoad_law ..

theorem holdInReset_law {cause : ResetCause} {mark : Node → Node}
    (hm : ∀ n, releaseLaw n → releaseLaw (mark n)) {s : State} (h : releaseLaw s.node) :
    releaseLaw (holdInReset cause mark s).node := by
  refine hm _ ?_
  split
  · exact h
  · exact nodeStart_law ..

theorem readAddressed_law {s : State} (h : releaseLaw s.node) : releaseLaw (readAddressed s).node := by
  unfold readAddressed; dsimp only; split <;> exact h

theorem startTransaction_law (a : BitVec 7) (r : Bool) {s : State} (h : releaseLaw s.node) :
    releaseLaw (startTransaction a r s).node := by
  unfold startTransaction; split
  · exact h
  · split
    · split
      · exact readAddressed_law h
      · exact h
    · exact h

theorem readByte_law {s : State} (h : releaseLaw s.node) : releaseLaw (readByte s).node := by
  have : releaseLaw (clearCounter s).node := by
    unfold clearCounter; dsimp only; split <;> exact h
  exact this

theorem readBytes_law (k : Nat) {s : State} (h : releaseLaw s.node) : releaseLaw (readBytes k s).node := by
  induction k generalizing s with
  | zero => exact h
  | succ k ih => exact ih (readByte_law h)

theorem readOn_law (k : Nat) {s : State} (h : releaseLaw s.node) : releaseLaw (readOn k s).node := by
  unfold readOn; split
  · exact readBytes_law k h
  · exact h

theorem exec_keeps_releaseLaw (c : Instr) (s : State) : lawKept s (exec c s) := by
  cases c with
  | powerOn straps =>
    change lawKept s (execPowerOn straps s)
    unfold execPowerOn; split
    · exact lawKept_next fun h => letGo_law straps h
    · exact lawKept_next fun _ => beginLoad_law ..
  | resetLine micros straps =>
    change lawKept s (execResetLine micros straps s)
    unfold execResetLine; split
    · split
      · exact lawKept_next id
      · exact lawKept_next fun h => holdInReset_law (fun _ hm => hm) h
    · split
      · exact lawKept_next fun h => letGo_law _ h
      · split
        · exact lawKept_next id
        · exact lawKept_next fun _ => beginLoad_law ..
  | load inputs =>
    change lawKept s (execLoad inputs s)
    unfold execLoad; split
    next hp => exact lawKept_onNode fun h => load_law inputs h hp.2
    next => exact lawKept_next id
  | zoneSample zone current => exact lawKept_inRun (zoneEvent_law zone current)
  | manualStationSample current => exact lawKept_inRun (stationEvent_law current)
  | holdSwitchSample current => exact lawKept_inRun (holdEvent_law false current)
  | keySample a b => exact lawKept_inRun (keyEvent_law false a b)
  | degradedConfirmExpiry => exact lawKept_inRun degradedExpiry_law
  | epoPointReached => exact lawKept_inRun epoPoint_law
  | countdownExpiry => exact lawKept_inRun countdownOver_law
  | dischargeDurationExpiry => exact lawKept_inRun durationOver_law
  | soakExpiry => exact lawKept_inRun soakOver_law
  | temperatureRead reading => exact lawKept_inRun id
  | hallPressureRead reading => exact lawKept_inRun (pressureEvent_law reading)
  | deferTimerExpiry =>
    exact lawKept_inRun (releaseLaw_of_calm (calm_of_sansValve (deferOver_sansValve _)))
  | cylinderPressureRead c reading =>
    exact lawKept_inRun (afterReports_law (cylinderRead_sansValve c reading _))
  | pulseStart =>
    exact lawKept_inRun (releaseLaw_of_calm (calm_of_sansValve (arbiterStart_sansValve _)))
  | pulseLengthExpiry => exact lawKept_inRun pulseOver_law
  | confirmWindowExpiry c => exact lawKept_inRun (windowOver_law c)
  | staggerTimerExpiry =>
    exact lawKept_inRun (releaseLaw_of_calm (calm_of_sansValve (staggerOver_sansValve _)))
  | driveMonitorCut c => exact lawKept_inRun (monitorCut_law c)
  | selectorLimitRead a b => exact lawKept_inRun (limitRead_law a b)
  | selectorTravelExpiry => exact lawKept_inRun travelOver_law
  | frameOffer d => exact lawKept_inRun (offer_law d)
  | badFrame bytes => exact lawKept_inRun (hearBytes_law bytes)
  | standingReceived src c => exact lawKept_inRun (hear_law _)
  | bidReceived a b k c => exact lawKept_inRun (hear_law _)
  | yieldReceived a b => exact lawKept_inRun (hear_law _)
  | wayopenReceived a b k => exact lawKept_inRun (hear_law _)
  | fedReceived a b k f o => exact lawKept_inRun (hear_law _)
  | ventReceived a g => exact lawKept_inRun (hear_law _)
  | ventfreeReceived a g => exact lawKept_inRun (hear_law _)
  | statusTimerExpiry => exact lawKept_inRun statusOver_law
  | listenTimerExpiry => exact lawKept_inRun listenOver_law
  | silenceTimerExpiry => exact lawKept_inRun silenceOver_law
  | placementTimerExpiry => exact lawKept_inRun placementOver_law
  | presenceTimerExpiry i => exact lawKept_inRun (presenceOver_law i)
  | grantHoldExpiry i =>
    exact lawKept_inRun (releaseLaw_of_calm (calm_of_sansBank (grantOver_sansBank i _)))
  | reserveWaitExpiry => exact lawKept_inRun waitOver_law
  | feedTimeoutExpiry => exact lawKept_inRun feedOver_law
  | flowTimerExpiry =>
    exact lawKept_inRun (releaseLaw_of_calm (calm_of_sansClient (flowOver_sansClient _)))
  | slotWaitExpiry => exact lawKept_inRun slotOver_law
  | supervisionRead o c => exact lawKept_inRun (supervise_law o c)
  | settleTimeExpiry o =>
    exact lawKept_inRun fun h => by unfold settleOver; split <;> exact h
  | sounderPhaseExpiry =>
    exact lawKept_inRun fun h => by unfold phaseOver; split <;> exact h
  | storeWriteCompletion => exact lawKept_inRun writeOver_law
  | indexWrite b =>
    change lawKept s (execIndexWrite b s)
    unfold execIndexWrite; split
    · exact lawKept_onNode (setIndex_law b)
    · exact lawKept_next id
  | readAddress k =>
    change lawKept s (execReadAddress k s)
    unfold execReadAddress; split
    · exact lawKept_next id
    · exact lawKept_next fun h => readBytes_law k (readAddressed_law h)
  | windowRecordRead => exact lawKept_next (readOn_law _)
  | badFrameCounterRead => exact lawKept_next (readOn_law _)
  | stickyFlagClear b =>
    change lawKept s (execStickyFlagClear b s)
    exact lawKept_onByte fun h => h
  | windowPointerWrite b => exact lawKept_onByte (setPointer_law b)
  | autoSnapWrite b =>
    change lawKept s (execAutoSnapWrite b s)
    exact lawKept_onByte fun h => h
  | registerWrite b =>
    change lawKept s (execRegisterWrite b s)
    exact lawKept_onByte (writeRegister_law b)
  | snap =>
    change lawKept s (execSnap s)
    unfold execSnap; split
    · exact lawKept_next id
    · exact lawKept_next id
  | alarmReset => exact lawKept_onByte alarmResetCommand_law
  | clearRelease => exact lawKept_onByte clearReleaseCommand_law
  | restart straps =>
    change lawKept s (execRestart straps s)
    unfold execRestart restartCommand; split
    · split
      · exact lawKept_next fun _ => beginLoad_law ..
      · exact lawKept_onNode id
    · exact lawKept_next id
  | storeReadRow b =>
    change lawKept s (execStoreReadRow b s)
    exact lawKept_onByte (readRowCommand_law b)
  | storeWriteRow b =>
    change lawKept s (execStoreWriteRow b s)
    exact lawKept_onByte (writeRowCommand_law b)
  | startCondition a r => exact lawKept_next (startTransaction_law a r)
  | supplyBelowThreshold => exact lawKept_next fun h => holdInReset_law (fun _ hm => hm) h
  | driveCurrentWithoutCommand c d =>
    exact lawKept_inRun (afterReports_law (selfDrive_sansValve c d _))

theorem idle_law {s : State} (h : releaseLaw s.node) : releaseLaw (idle s).node := by
  unfold idle; split <;> exact h

/-- Settles O50: the release law is an invariant of the step; the discharge's entry sets the record with the
hall, and the erase that clears it takes the hall out of SPENT in the same event. -/
theorem everyStepKeepsTheReleaseRecord : Obligations.EveryStepKeepsTheReleaseRecord := by
  intro s t h hstep
  unfold step at hstep
  split at hstep
  · injection hstep with he
    exact he ▸ idle_law h
  next c rest _ => exact exec_keeps_releaseLaw c { s with pending := rest } h t hstep

end Sys2Proof.Machine

/-! # Resets -/

namespace Sys2Proof.Machine

/-- A lasting cause ends while none other holds the part: LOAD begins. -/
theorem letGo_free (straps : NodeId) {s : State} (h : s.node.held = false) :
    letGo straps s = beginLoad straps s.node.cfs.cause s := if_neg (by simp [h])

theorem letGo_held (straps : NodeId) {s : State} (h : s.node.held = true) : letGo straps s = s := if_pos h

/-- A RESTART is taken in RUN with the store idle, at the command code's index. -/
theorem execRestart_taken (straps : NodeId) {s : State} (hr : s.node.running = true)
    (hb : s.node.cfs.busy = none) (ht : s.node.svp.transaction = .addressedWrite)
    (he : s.node.svp.expectIndex = false) (hn : s.node.svp.nacked = false)
    (hi : s.node.svp.index = 0xB5) :
    execRestart straps s = .next (beginLoad straps .command s) := by
  have hh : s.node.held = false := by
    simp only [Node.running, Bool.and_eq_true, Bool.not_eq_true'] at hr; exact hr.1
  unfold execRestart restartCommand
  rw [if_pos (by simp [Node.takesData, atCode, hh, ht, he, hn, hi]),
    if_pos (by simp [Node.storeIdle, hr, hb])]

/-- Settles O46: each reset command answers `beginLoad` or holds the part with its records at their start
values, by the two lasting causes, and `Node.start` gives those values. -/
theorem resetsStartEveryRecordAfresh : Obligations.ResetsStartEveryRecordAfresh := by
  intro s
  refine ⟨fun straps hh => ?powerOn, fun straps hs hl => ?powerOnSupply, fun straps hl => ?powerOnLine,
    rfl, fun micros straps hl => ⟨fun hm => ⟨?short, ?shortOn⟩, fun hm hs => ?pulse, fun hm hs => ?pulseLow,
      fun hm => ?lineOn⟩,
    fun micros straps hl => ⟨?again, fun hs => ?letLow, fun hs => ?letGo⟩, ?restart, fun straps cause => ?values⟩
  case powerOn => exact if_neg (by simp [hh])
  case powerOnSupply =>
    have hh : s.node.held = true := by simp [Node.held, hs]
    refine (if_pos hh).trans (congrArg _ (letGo_free straps ?_))
    simp [Node.held, hl]
  case powerOnLine =>
    have hh : s.node.held = true := by simp [Node.held, hl]
    refine (if_pos hh).trans (congrArg _ (letGo_held straps ?_))
    simp [Node.held, hl]
  case short => exact (if_neg (by simp [hl])).trans (if_pos (Or.inr hm))
  case shortOn => exact if_pos (Or.inr hm)
  case pulse =>
    refine (if_neg (by simp [hl])).trans (if_neg ?_)
    simp [hs, Config.resetMicros]; omega
  case pulseLow => exact (if_neg (by simp [hl])).trans (if_pos (Or.inl hs))
  case lineOn =>
    refine if_neg ?_
    simp [hl, Config.resetMicros]; omega
  case again => exact if_pos (Or.inl hl)
  case letLow =>
    refine (if_pos hl).trans (congrArg _ (letGo_held straps ?_))
    simp [Node.held, hs]
  case letGo =>
    refine (if_pos hl).trans (congrArg _ (letGo_free straps ?_))
    simp [Node.held, hs]
  case restart =>
    intro straps hr hb ht he hn hi
    exact execRestart_taken straps hr hb ht he hn hi
  case values =>
    have hrow : ∀ r : RowId, (Vector.replicate 13 (none : Option RowResult)).get r = none := fun r => by
      simp [vget]
    have hpeer : ∀ i : NodeId, ((Vector.replicate 16 Peer.start).get i).present = false := fun i => by
      simp [vget, Peer.start]
    exact ⟨rfl, rfl, rfl, rfl, rfl, rfl, rfl, rfl, rfl, rfl, hrow, rfl, rfl, rfl, rfl, rfl, rfl, rfl, rfl,
      rfl, rfl, rfl, rfl, rfl, rfl, rfl, rfl, rfl, rfl, rfl, rfl, rfl, rfl, hpeer, rfl, rfl, rfl, rfl, rfl,
      rfl, rfl, rfl, rfl, rfl⟩

end Sys2Proof.Machine

/-! # The course of a release

What the moves of the hall may write: `sansCourse` blanks all that a countdown, a discharge and a soak write,
`sansConfirm` besides what a confirmation marks. Flags are only ever raised on the way. -/

namespace Sys2Proof.Machine

/-- The sequencer's record with blanks where the course of a release writes. -/
def Hsq.sansCourse (h : Hsq) : Hsq :=
  { h with hall := .quiet, countdown := .off, epoReached := false, firing := [], reservePhase := .none,
           reserveOutcome := .none, duration := none, elapsed := false, soak := none }

/-- The node with blanks where the course of a release writes: the sequencer's record of it, the plan, the
valve unit, the reserve client and the vent unit with their frames, row 12 with its record, the flags. -/
def Node.sansCourse (n : Node) : Node :=
  { n with free := 0, hsq := n.hsq.sansCourse, apl := .start, vcu := .start 0, rcl := .start, vsu := .start,
           lkc.outbox.bid := none, lkc.outbox.yieldTo := none, lkc.outbox.wayopen := none,
           lkc.outbox.vent := none, lkc.outbox.ventfree := none, cfs := n.cfs.still, svp.flags := 0 }

/-- As `sansCourse`, with a blank too where a confirmation marks the event: its cause, the override and the
degraded confirm timer. -/
def Node.sansConfirm (n : Node) : Node :=
  { n.sansCourse with hsq.cause := .none, hsq.manualOverride := false, hsq.degraded := none }

theorem sansCourse_of_sansClient {a b : Node} (h : a.sansClient = b.sansClient) :
    a.sansCourse = b.sansCourse := by
  change a.sansClient.sansCourse = b.sansClient.sansCourse; rw [h]
theorem sansCourse_of_sansLoss {a b : Node} (h : a.sansLoss = b.sansLoss) :
    a.sansCourse = b.sansCourse := by
  change a.sansLoss.sansCourse = b.sansLoss.sansCourse; rw [h]
theorem sansCourse_of_sansVent {a b : Node} (h : a.sansVent = b.sansVent) :
    a.sansCourse = b.sansCourse := by
  change a.sansVent.sansCourse = b.sansVent.sansCourse; rw [h]
theorem sansCourse_of_sansFire {a b : Node} (h : a.sansFire = b.sansFire) :
    a.sansCourse = b.sansCourse := by
  change a.sansFire.sansCourse = b.sansFire.sansCourse; rw [h]
theorem sansCourse_of_sansPlan {a b : Node} (h : a.sansPlan = b.sansPlan) :
    a.sansCourse = b.sansCourse := by
  change a.sansPlan.sansCourse = b.sansPlan.sansCourse; rw [h]
theorem sansConfirm_of_sansCourse {a b : Node} (h : a.sansCourse = b.sansCourse) :
    a.sansConfirm = b.sansConfirm := by
  unfold Node.sansConfirm; rw [h]

@[simp] theorem Node.setFlag_sansCourse (n : Node) (f : Flag) : (n.setFlag f).sansCourse = n.sansCourse := rfl
@[simp] theorem Node.setFlagIf_sansCourse (n : Node) (b : Bool) (f : Flag) :
    (n.setFlagIf b f).sansCourse = n.sansCourse := by cases b <;> rfl
@[simp] theorem startDuration_sansCourse (n : Node) : (startDuration n).sansCourse = n.sansCourse := rfl
@[simp] theorem toDischarging_sansCourse (n : Node) : (toDischarging n).sansCourse = n.sansCourse := rfl
@[simp] theorem resetDeferral_sansCourse (n : Node) : (resetDeferral n).sansCourse = n.sansCourse := rfl
@[simp] theorem openReserve_sansCourse (n : Node) : (openReserve n).sansCourse = n.sansCourse :=
  sansCourse_of_sansClient (openReserve_sansClient n)
@[simp] theorem rclNewCount_sansCourse (k : Nat) (n : Node) :
    (rclNewCount k n).sansCourse = n.sansCourse := sansCourse_of_sansClient (rclNewCount_sansClient k n)
@[simp] theorem rclCountdown_sansCourse (n : Node) : (rclCountdown n).sansCourse = n.sansCourse :=
  sansCourse_of_sansClient (rclCountdown_sansClient n)
@[simp] theorem rclEnd_sansCourse (b : Bool) (n : Node) : (rclEnd b n).sansCourse = n.sansCourse :=
  sansCourse_of_sansClient (rclEnd_sansClient b n)
@[simp] theorem selClose_sansCourse (n : Node) : (selClose n).sansCourse = n.sansCourse :=
  sansCourse_of_sansClient (selClose_sansClient n)
@[simp] theorem fireOwn_sansCourse (cs : List ChanId) (n : Node) :
    (fireOwn cs n).sansCourse = n.sansCourse := sansCourse_of_sansFire (fireOwn_sansFire cs n)
@[simp] theorem aplPlan_sansCourse (n : Node) : (aplPlan n).sansCourse = n.sansCourse :=
  sansCourse_of_sansPlan (aplPlan_sansPlan n)
@[simp] theorem aplReplan_sansCourse (n : Node) : (aplReplan n).sansCourse = n.sansCourse := rfl
@[simp] theorem aplEvaluate_sansCourse (n : Node) : (aplEvaluate n).sansCourse = n.sansCourse :=
  sansCourse_of_sansPlan (aplEvaluate_sansPlan n)
@[simp] theorem vsuWithdraw_sansCourse (n : Node) : (vsuWithdraw n).sansCourse = n.sansCourse :=
  sansCourse_of_sansVent (vsuWithdraw_sansVent n)
@[simp] theorem vsuIsolated_sansCourse (n : Node) : (vsuIsolated n).sansCourse = n.sansCourse :=
  sansCourse_of_sansVent (vsuIsolated_sansVent n)
@[simp] theorem vsuAsk_sansCourse (n : Node) : (vsuAsk n).1.sansCourse = n.sansCourse :=
  sansCourse_of_sansVent (vsuAsk_sansVent n)

/-- The release write writes the store alone. -/
theorem releaseWrite_eq (a b c : Nat) (n : Node) :
    releaseWrite a b c n = { n with cfs := (releaseWrite a b c n).cfs } := by
  unfold releaseWrite; dsimp only; split <;> rfl

@[simp] theorem releaseWrite_sansCourse (a b c : Nat) (n : Node) :
    (releaseWrite a b c n).sansCourse = n.sansCourse := by
  have hc : (releaseWrite a b c n).cfs.still = n.cfs.still :=
    congrArg (fun m => m.cfs) (releaseWrite_still a b c n)
  rw [releaseWrite_eq]
  simp only [Node.sansCourse, hc]

/-- The entry to DISCHARGING once its release write is handed over (R16 step 1). -/
def dischargeWritten (n : Node) : Node := releaseWrite n.apl.wd n.apl.nOwn n.apl.nRes (toDischarging n)

/-- The entry to DISCHARGING once its own pulses are requested (R16 step 2). -/
def dischargeFired (n : Node) : Node :=
  fireOwn ((dischargeWritten n).readyHall.take (dischargeWritten n).apl.nOwn) (dischargeWritten n)

theorem enterDischarging_eq (n : Node) :
    enterDischarging n = (startDuration (openReserve (dischargeFired n))).setFlag .released := rfl

/-- The entry to DISCHARGING in FALLBACK mode once its release write is handed over (R28). -/
def fallbackWritten (n : Node) : Node :=
  releaseWrite 0 (toDischarging n).readyHall.length 0 (toDischarging n)

/-- The entry to DISCHARGING in FALLBACK mode once its own pulses are requested (R28). -/
def fallbackFired (n : Node) : Node := fireOwn (fallbackWritten n).readyHall (fallbackWritten n)

/-- The reserve phase as a discharge without a reserve has it (R16 step 3, R28). -/
def noReservePhase (n : Node) : Node :=
  { n with hsq.reservePhase := .resolved, hsq.reserveOutcome := .none }

theorem enterFallback_eq (n : Node) :
    enterFallback n = (startDuration (noReservePhase (fallbackFired n))).setFlag .released := rfl

@[simp] theorem noReservePhase_sansCourse (n : Node) : (noReservePhase n).sansCourse = n.sansCourse := rfl
@[simp] theorem dischargeWritten_sansCourse (n : Node) :
    (dischargeWritten n).sansCourse = n.sansCourse := by simp [dischargeWritten]
@[simp] theorem dischargeFired_sansCourse (n : Node) : (dischargeFired n).sansCourse = n.sansCourse := by
  simp [dischargeFired]
@[simp] theorem fallbackWritten_sansCourse (n : Node) :
    (fallbackWritten n).sansCourse = n.sansCourse := by simp [fallbackWritten]
@[simp] theorem fallbackFired_sansCourse (n : Node) : (fallbackFired n).sansCourse = n.sansCourse := by
  simp [fallbackFired]
@[simp] theorem enterDischarging_sansCourse (n : Node) :
    (enterDischarging n).sansCourse = n.sansCourse := by simp [enterDischarging_eq]
@[simp] theorem enterFallback_sansCourse (n : Node) : (enterFallback n).sansCourse = n.sansCourse := by
  simp [enterFallback_eq]
@[simp] theorem isolatedRelease_sansCourse (n : Node) : (isolatedRelease n).sansCourse = n.sansCourse := by
  simp [isolatedRelease]
@[simp] theorem slotHeld_sansCourse (n : Node) : (slotHeld n).sansCourse = n.sansCourse := by
  unfold slotHeld; split <;> simp
@[simp] theorem takeSlot_sansCourse (r : Node × Bool) : (takeSlot r).sansCourse = r.1.sansCourse := by
  unfold takeSlot; split <;> simp
@[simp] theorem epoTest_sansCourse (n : Node) : (epoTest n).sansCourse = n.sansCourse := by
  unfold epoTest; split <;> rfl
@[simp] theorem epoAtExpiry_sansCourse (n : Node) : (epoAtExpiry n).sansCourse = n.sansCourse := by
  unfold epoAtExpiry; split <;> rfl

/-- The node in which a countdown that has run out in NORMAL mode asks for its slot (R13, steps 1 to 3). -/
def atExpiry (n : Node) : Node :=
  let m := aplReplan n
  { epoAtExpiry (rclNewCount m.apl.nRes m) with hsq.hall := .awaitSlot, hsq.countdown := .off }

@[simp] theorem atExpiry_sansCourse (n : Node) : (atExpiry n).sansCourse = n.sansCourse := by
  have h : (epoAtExpiry (rclNewCount (aplReplan n).apl.nRes (aplReplan n))).sansCourse = n.sansCourse := by
    simp
  exact h

theorem atExpiry_link (n : Node) : (atExpiry n).lkc.link = n.lkc.link :=
  congrArg (fun m => m.lkc.link) (atExpiry_sansCourse n)

theorem expire_normal_lost {n : Node} (h : n.normal = true) (hl : n.lkc.link = .lost) :
    expire n = isolatedRelease (atExpiry n) := by
  refine (if_pos h).trans (if_pos ?_)
  exact (atExpiry_link n).trans hl

theorem expire_normal {n : Node} (h : n.normal = true) (hl : n.lkc.link ≠ .lost) :
    expire n = takeSlot (vsuAsk (atExpiry n)) := by
  refine (if_pos h).trans (if_neg ?_)
  exact fun he => hl ((atExpiry_link n).symm.trans he)

theorem expire_fallback {n : Node} (h : n.normal = false) : expire n = enterFallback n :=
  if_neg (by simp [h])

@[simp] theorem expire_sansCourse (n : Node) : (expire n).sansCourse = n.sansCourse := by
  cases hn : n.normal
  · rw [expire_fallback hn, enterFallback_sansCourse]
  · by_cases hl : n.lkc.link = .lost
    · rw [expire_normal_lost hn hl, isolatedRelease_sansCourse, atExpiry_sansCourse]
    · rw [expire_normal hn hl, takeSlot_sansCourse, vsuAsk_sansCourse, atExpiry_sansCourse]

@[simp] theorem expireIfDone_sansCourse (n : Node) : (expireIfDone n).sansCourse = n.sansCourse := by
  unfold expireIfDone; split <;> simp
@[simp] theorem holdOperated_sansCourse (n : Node) : (holdOperated n).sansCourse = n.sansCourse := by
  unfold holdOperated; repeat' split
  all_goals rfl
@[simp] theorem resume_sansCourse (k : Nat) (n : Node) : (resume k n).sansCourse = n.sansCourse := by
  simp only [resume, expireIfDone_sansCourse, epoTest_sansCourse]; rfl
@[simp] theorem enterSoak_sansCourse (n : Node) : (enterSoak n).sansCourse = n.sansCourse := by
  unfold enterSoak; dsimp only; split
  · exact ((vsuWithdraw_sansCourse _).trans (aplEvaluate_sansCourse _) :)
  · rfl
@[simp] theorem soakTest_sansCourse (n : Node) : (soakTest n).sansCourse = n.sansCourse := by
  unfold soakTest; split <;> simp

@[simp] theorem rclLoss_sansCourse (b : Bool) (n : Node) : (rclLoss b n).sansCourse = n.sansCourse :=
  sansCourse_of_sansLoss (rclLoss_sansLoss b n)
@[simp] theorem holderLoss_sansCourse (b : Bool) (n : Node) :
    (holderLoss b n).sansCourse = n.sansCourse := by simp [holderLoss]

/-! ## A confirmation -/

/-- The node of an entry to COUNTDOWN after the plan and the bid, before the EPO point and the hold switch
are looked at (R8, steps 1 to 4). -/
def countdownBegun (cause : Cause) (left : Nat) (n : Node) : Node :=
  let m := startCountdown cause left n
  if m.normal then rclCountdown (aplPlan m) else m

/-- The entry to COUNTDOWN once the hold switch has been looked at (R8 step 5, R14). -/
def countdownEntered (cause : Cause) (left : Nat) (n : Node) : Node :=
  let m := epoTest (countdownBegun cause left n)
  if m.fiu.hold.delivered = .operated then holdOperated m else m

theorem enterCountdown_eq (cause : Cause) (left : Nat) (n : Node) :
    enterCountdown cause left n = expireIfDone (countdownEntered cause left n) := rfl

@[simp] theorem countdownBegun_sansCourse (cause : Cause) (left : Nat) (n : Node) :
    (countdownBegun cause left n).sansCourse = (startCountdown cause left n).sansCourse := by
  unfold countdownBegun; dsimp only; split <;> simp

@[simp] theorem countdownEntered_sansCourse (cause : Cause) (left : Nat) (n : Node) :
    (countdownEntered cause left n).sansCourse = (startCountdown cause left n).sansCourse := by
  unfold countdownEntered; dsimp only; split <;> simp

@[simp] theorem enterCountdown_sansCourse (cause : Cause) (left : Nat) (n : Node) :
    (enterCountdown cause left n).sansCourse = (startCountdown cause left n).sansCourse := by
  rw [enterCountdown_eq, expireIfDone_sansCourse, countdownEntered_sansCourse]

@[simp] theorem enterCountdown_sansConfirm (cause : Cause) (left : Nat) (n : Node) :
    (enterCountdown cause left n).sansConfirm = n.sansConfirm :=
  (sansConfirm_of_sansCourse (enterCountdown_sansCourse cause left n)).trans rfl

@[simp] theorem rest_sansConfirm (n : Node) : (rest n).sansConfirm = n.sansConfirm := by
  unfold rest; dsimp only; split <;> rfl

@[simp] theorem reeval_sansConfirm (n : Node) : (reeval n).sansConfirm = n.sansConfirm := by
  unfold reeval; repeat' split
  all_goals simp

/-! ## Flags raised -/

/-- Every flag set in `n` is set in `m`. -/
def Node.raisedIn (n m : Node) : Prop := ∀ f, n.flag f = true → m.flag f = true

theorem Node.raisedIn_refl (n : Node) : n.raisedIn n := fun _ h => h

theorem Node.raisedIn_trans {a b c : Node} (h : a.raisedIn b) (h' : b.raisedIn c) : a.raisedIn c :=
  fun f hf => h' f (h f hf)

theorem Node.raisedIn_of_svp {n m : Node} (h : m.svp = n.svp) : n.raisedIn m := fun f hf => by
  simpa only [Node.flag, h] using hf

theorem Node.raisedIn_setFlag (n : Node) (f : Flag) : n.raisedIn (n.setFlag f) :=
  fun g hg => n.flag_setFlag_mono f g hg

theorem Node.raisedIn_setFlagIf (n : Node) (b : Bool) (f : Flag) : n.raisedIn (n.setFlagIf b f) :=
  fun g hg => n.flag_setFlagIf_mono b f g hg

theorem svp_of_sansClient {a b : Node} (h : a.sansClient = b.sansClient) : a.svp = b.svp :=
  congrArg (fun m => m.svp) h
theorem svp_of_sansVent {a b : Node} (h : a.sansVent = b.sansVent) : a.svp = b.svp :=
  congrArg (fun m => m.svp) h
theorem svp_of_sansFire {a b : Node} (h : a.sansFire = b.sansFire) : a.svp = b.svp :=
  congrArg (fun m => m.svp) h
theorem svp_of_sansBank {a b : Node} (h : a.sansBank = b.sansBank) : a.svp = b.svp :=
  congrArg (fun m => m.svp) h

theorem releaseWrite_svp (a b c : Nat) (n : Node) : (releaseWrite a b c n).svp = n.svp := by
  rw [releaseWrite_eq]

theorem dischargeFired_svp (n : Node) : (dischargeFired n).svp = n.svp :=
  (svp_of_sansFire (fireOwn_sansFire _ _)).trans (releaseWrite_svp _ _ _ _)

theorem fallbackFired_svp (n : Node) : (fallbackFired n).svp = n.svp :=
  (svp_of_sansFire (fireOwn_sansFire _ _)).trans (releaseWrite_svp _ _ _ _)

theorem setFlag_svp {a b : Node} (f : Flag) (h : a.svp = b.svp) : (a.setFlag f).svp = (b.setFlag f).svp := by
  unfold Node.setFlag; rw [h]

/-- The entry to DISCHARGING sets RELEASED and no other flag. -/
theorem enterDischarging_svp (n : Node) : (enterDischarging n).svp = (n.setFlag .released).svp :=
  setFlag_svp _ ((svp_of_sansClient (openReserve_sansClient _)).trans (dischargeFired_svp n))

theorem enterFallback_svp (n : Node) : (enterFallback n).svp = (n.setFlag .released).svp :=
  setFlag_svp _ (fallbackFired_svp n)

theorem isolatedRelease_svp (n : Node) :
    (isolatedRelease n).svp = ((n.setFlag .isolatedRelease).setFlag .released).svp :=
  (svp_of_sansVent (vsuIsolated_sansVent _)).trans (enterDischarging_svp _)

theorem enterDischarging_raises (n : Node) : n.raisedIn (enterDischarging n) :=
  Node.raisedIn_trans (n.raisedIn_setFlag _) (Node.raisedIn_of_svp (enterDischarging_svp n))

theorem isolatedRelease_raises (n : Node) : n.raisedIn (isolatedRelease n) :=
  Node.raisedIn_trans (n.raisedIn_setFlag _) (Node.raisedIn_trans (Node.raisedIn_setFlag _ _)
    (Node.raisedIn_of_svp (isolatedRelease_svp n)))

theorem isolatedRelease_flag (n : Node) : (isolatedRelease n).flag .isolatedRelease = true :=
  Node.raisedIn_of_svp (isolatedRelease_svp n) _ (Node.raisedIn_setFlag _ _ _ (n.flag_setFlag_same _))

theorem slotHeld_raises (n : Node) : n.raisedIn (slotHeld n) := by
  unfold slotHeld; split
  · exact enterDischarging_raises n
  · exact n.raisedIn_refl

theorem takeSlot_raises (r : Node × Bool) : r.1.raisedIn (takeSlot r) := by
  unfold takeSlot; split
  · exact slotHeld_raises _
  · exact Node.raisedIn_refl _

theorem epoAtExpiry_svp (n : Node) : (epoAtExpiry n).svp = n.svp := by
  unfold epoAtExpiry; split <;> rfl

theorem atExpiry_svp (n : Node) : (atExpiry n).svp = n.svp :=
  ((epoAtExpiry_svp _).trans (svp_of_sansClient (rclNewCount_sansClient _ (aplReplan n))) :)

theorem expire_raises (n : Node) : n.raisedIn (expire n) := by
  have ha : n.raisedIn (atExpiry n) := Node.raisedIn_of_svp (atExpiry_svp n)
  cases hn : n.normal
  · rw [expire_fallback hn]
    exact Node.raisedIn_trans (n.raisedIn_setFlag _) (Node.raisedIn_of_svp (enterFallback_svp n))
  · by_cases hl : n.lkc.link = .lost
    · rw [expire_normal_lost hn hl]
      exact Node.raisedIn_trans ha (isolatedRelease_raises _)
    · rw [expire_normal hn hl]
      exact Node.raisedIn_trans ha (Node.raisedIn_trans
        (Node.raisedIn_of_svp (svp_of_sansVent (vsuAsk_sansVent _))) (takeSlot_raises _))

theorem expireIfDone_raises (n : Node) : n.raisedIn (expireIfDone n) := by
  unfold expireIfDone; split
  · exact expire_raises n
  · exact n.raisedIn_refl

theorem holdOperated_raises (n : Node) : n.raisedIn (holdOperated n) := by
  unfold holdOperated; split
  case h_1 =>
    split
    · exact n.raisedIn_setFlag _
    · exact Node.raisedIn_of_svp rfl
  case h_2 => exact n.raisedIn_setFlag _
  case h_3 => exact n.raisedIn_setFlag _
  all_goals exact n.raisedIn_refl

theorem epoTest_svp (n : Node) : (epoTest n).svp = n.svp := by
  unfold epoTest; split <;> rfl

theorem aplPlan_raises (n : Node) : n.raisedIn (aplPlan n) := fun f hf =>
  Node.flag_setFlagIf_mono _ _ _ f (show Node.flag { n with apl := _ } f = true from hf)

theorem countdownBegun_raises (cause : Cause) (left : Nat) (n : Node) :
    (n.setFlag .confirmed).raisedIn (countdownBegun cause left n) := by
  have h : (n.setFlag .confirmed).raisedIn (startCountdown cause left n) := Node.raisedIn_of_svp rfl
  unfold countdownBegun; dsimp only; split
  · exact Node.raisedIn_trans h (Node.raisedIn_trans (aplPlan_raises _)
      (Node.raisedIn_of_svp (svp_of_sansClient (rclCountdown_sansClient _))))
  · exact h

theorem countdownEntered_raises (cause : Cause) (left : Nat) (n : Node) :
    (n.setFlag .confirmed).raisedIn (countdownEntered cause left n) := by
  have h : (n.setFlag .confirmed).raisedIn (epoTest (countdownBegun cause left n)) :=
    Node.raisedIn_trans (countdownBegun_raises cause left n) (Node.raisedIn_of_svp (epoTest_svp _))
  unfold countdownEntered; dsimp only; split
  · exact Node.raisedIn_trans h (holdOperated_raises _)
  · exact h

theorem enterCountdown_raises (cause : Cause) (left : Nat) (n : Node) :
    (n.setFlag .confirmed).raisedIn (enterCountdown cause left n) :=
  Node.raisedIn_trans (countdownEntered_raises cause left n) (expireIfDone_raises _)

theorem enterCountdown_confirmed (cause : Cause) (left : Nat) (n : Node) :
    (enterCountdown cause left n).flag .confirmed = true :=
  enterCountdown_raises cause left n _ (n.flag_setFlag_same _)

end Sys2Proof.Machine

/-! # The way out of AWAIT_SLOT -/

namespace Sys2Proof.Machine

/-! ## Moves that a hall state does not take -/

theorem reeval_of_other {n : Node} (hq : n.hsq.hall ≠ .quiet) (ha : n.hsq.hall ≠ .alert) : reeval n = n :=
  if_neg (by simp [hq, ha])

theorem refreshAdjacent_of_other {n : Node} (hq : n.hsq.hall ≠ .quiet) (ha : n.hsq.hall ≠ .alert) :
    refreshAdjacent n = { n with hsq.adjacent := n.adjacentNow } := reeval_of_other hq ha

/-- FIU's latches and zone faults copied to the sequencer, before it acts on them. -/
def zonesCopied (n : Node) : Node :=
  { n with hsq.latchedA := n.fiu.zoneA.latched, hsq.latchedB := n.fiu.zoneB.latched,
           hsq.faultA := n.fiu.zoneA.fault, hsq.faultB := n.fiu.zoneB.fault }

theorem refreshZones_of_other {n : Node} (hq : n.hsq.hall ≠ .quiet) (ha : n.hsq.hall ≠ .alert) :
    refreshZones n = zonesCopied n := reeval_of_other hq ha

theorem zoneRead_hsq (zone : Zone) (current : Nat) (n : Node) : (zoneRead zone current n).hsq = n.hsq := by
  cases zone <;> rfl

theorem soakTest_of_other {n : Node} (h : n.hsq.hall ≠ .discharging) : soakTest n = n :=
  if_neg fun hd => h (Node.soakDue_hall hd)

theorem slotHeld_of_other {n : Node} (h : n.hsq.hall ≠ .awaitSlot) : slotHeld n = n := if_neg h

theorem takeSlot_of_other {r : Node × Bool} (h : r.1.hsq.hall ≠ .awaitSlot) : takeSlot r = r.1 := by
  unfold takeSlot; split
  · exact slotHeld_of_other h
  · rfl

theorem takeSlot_false {r : Node × Bool} (h : r.2 = false) : takeSlot r = r.1 := if_neg (by simp [h])

theorem takeSlot_true {r : Node × Bool} (h : r.2 = true) (hh : r.1.hsq.hall = .awaitSlot) :
    takeSlot r = enterDischarging r.1 := (if_pos h).trans (if_pos hh)

/-- A loss of the holder out of DISCHARGING is one for the client alone. -/
theorem holderLoss_of_other {n : Node} (b : Bool) (h : n.hsq.hall ≠ .discharging) :
    holderLoss b n = rclLoss b n :=
  soakTest_of_other (by rw [hall_of_calm (rclLoss_calm b n)]; exact h)

/-- The node at an entry to LOCKOUT: the event's marks cleared, the sequencer's timers stopped (R22, R24). -/
def lockedOut (n : Node) : Node :=
  { n with hsq.hall := .lockout, hsq.manualOverride := false, hsq.cause := .none, hsq.epoReached := false,
           hsq.countdown := .off, hsq.degraded := none, hsq.duration := none, hsq.soak := none }

theorem enterLockout_isolated {n : Node} (h : n.isolate = true) : enterLockout n = lockedOut n := if_pos h

/-- The node with the next free value drawn. -/
def Node.drawn (n : Node) : Node := { n with free := n.free + 1 }

theorem eitherOrder_cases (f g : Node → Node) (n : Node) :
    eitherOrder f g n = f (g n.drawn) ∨ eitherOrder f g n = g (f n.drawn) := by
  unfold eitherOrder; split
  · exact .inl rfl
  · exact .inr rfl

/-! ## What the entry to DISCHARGING leaves of the vent unit -/

theorem openReserve_vsu (n : Node) : (openReserve n).vsu = n.vsu :=
  congrArg (fun m => m.vsu) (openReserve_sansClient n)

theorem dischargeFired_vsu (n : Node) :
    (dischargeFired n).vsu = { n.vsu with sought := false, slotWait := none } := by
  have h : (dischargeFired n).vsu = (dischargeWritten n).vsu :=
    congrArg (fun m => m.vsu) (fireOwn_sansFire _ _)
  rw [h, dischargeWritten, releaseWrite_eq]; rfl

theorem enterDischarging_vsu (n : Node) :
    (enterDischarging n).vsu = { n.vsu with sought := false, slotWait := none } :=
  (openReserve_vsu _).trans (dischargeFired_vsu n)

theorem enterDischarging_hall (n : Node) : (enterDischarging n).hsq.hall = .discharging := by
  rw [hall_of_calm (enterDischarging_calm n), releaseWrite_eq]; rfl

theorem isolatedRelease_elapsed (n : Node) : (isolatedRelease n).hsq.elapsed = false :=
  (congrArg (fun m => m.hsq.elapsed) (vsuIsolated_sansVent _)).trans rfl

theorem isolatedRelease_hall (n : Node) : (isolatedRelease n).hsq.hall = .discharging :=
  (hall_of_calm (vsuIsolated_calm _)).trans (enterDischarging_hall _)

/-! ## The slot -/

/-- Whether a slot is held is read from the vent queue, the own id and the capacity. -/
theorem holdsSlot_congr {a b : Node} (hq : a.vsu.queue = b.vsu.queue) (hc : a.cfs.still = b.cfs.still) :
    a.holdsSlot = b.holdsSlot := by
  have hid : a.id = b.id := congrArg (fun c => c.nodeId) hc
  have hcap : a.cfg.ventCapacity = b.cfg.ventCapacity := congrArg (fun c => c.cfg.ventCapacity) hc
  simp only [Node.holdsSlot, Node.ventPosition, hq, hid, hcap]

theorem cfs_of_sansCourse {a b : Node} (h : a.sansCourse = b.sansCourse) : a.cfs.still = b.cfs.still :=
  congrArg (fun m => m.cfs) h

theorem link_of_sansCourse {a b : Node} (h : a.sansCourse = b.sansCourse) : a.lkc.link = b.lkc.link :=
  congrArg (fun m => m.lkc.link) h

theorem ventReeval_queue (n : Node) : (ventReeval n).1.vsu.queue = n.vsu.queue := by
  unfold ventReeval; dsimp only; split <;> rfl

/-- A slot held report comes with a node that holds a slot. -/
def reportsHeld (r : Node × Bool) : Prop := r.2 = true → r.1.holdsSlot = true

theorem reportsHeld_false (n : Node) : reportsHeld (n, false) := nofun

theorem ventReeval_reportsHeld (n : Node) : reportsHeld (ventReeval n) := by
  intro h
  have hs : n.holdsSlot = true := by
    simp only [ventReeval, Bool.and_eq_true] at h; exact h.1.1
  rw [holdsSlot_congr (ventReeval_queue n)
    (congrArg (fun m => m.cfs.still) (ventReeval_sansVent n)), hs]

theorem ventAppend_reportsHeld (i : NodeId) (n : Node) : reportsHeld (ventAppend i n) := by
  unfold ventAppend; split
  · exact reportsHeld_false n
  · exact ventReeval_reportsHeld _

theorem ventRemove_reportsHeld (i : NodeId) (n : Node) : reportsHeld (ventRemove i n) := by
  unfold ventRemove; split
  · exact ventReeval_reportsHeld _
  · exact reportsHeld_false n

theorem vsuVent_reportsHeld (i : NodeId) (g : Nat) (n : Node) : reportsHeld (vsuVent i g n) := by
  unfold vsuVent; split
  · exact ventAppend_reportsHeld i n
  · exact reportsHeld_false n

theorem vsuVentfree_reportsHeld (i : NodeId) (g : Nat) (n : Node) : reportsHeld (vsuVentfree i g n) := by
  unfold vsuVentfree; split
  · exact ventRemove_reportsHeld i n
  · exact reportsHeld_false n

theorem vsuAbsent_reportsHeld (i : NodeId) (n : Node) : reportsHeld (vsuAbsent i n) := by
  unfold vsuAbsent; split
  · exact ventRemove_reportsHeld i n
  · exact reportsHeld_false n

theorem vsuRepair_reportsHeld (i : NodeId) (n : Node) : reportsHeld (vsuRepair i n) := by
  unfold vsuRepair; dsimp only; split
  · split
    · exact ventAppend_reportsHeld i n
    · exact ventRemove_reportsHeld i n
  · exact reportsHeld_false n

theorem ventPlaced_reportsHeld (n : Node) : reportsHeld (ventPlaced n) := by
  unfold ventPlaced; split
  · exact ventReeval_reportsHeld _
  · exact reportsHeld_false n

theorem queueVent_vsu (g : Nat) (n : Node) : (queueVent g n).vsu = n.vsu := by
  unfold queueVent; split <;> rfl

theorem vsuJoined_reportsHeld (n : Node) : reportsHeld (vsuJoined n) := by
  unfold vsuJoined; split
  · intro h
    have hr := ventReeval_reportsHeld _ h
    dsimp only; split
    · rw [← hr]
      refine holdsSlot_congr (by rw [queueVent_vsu]) ?_
      exact congrArg (fun m => m.cfs.still) (queueVent_sansVent _ _)
    · exact hr
  · exact reportsHeld_false n

/-! ## What leaves AWAIT_SLOT -/

/-- A discharge comes with a slot held, or with the link LOST and ISOLATED_RELEASE. -/
def slotOrLost (m : Node) : Prop :=
  m.hsq.hall = .discharging →
    m.holdsSlot = true ∨ (m.lkc.link = .lost ∧ m.flag .isolatedRelease = true)

theorem slotOrLost_of_hall {m : Node} (h : m.hsq.hall ≠ .discharging) : slotOrLost m := fun hd => absurd hd h

/-- A calm effect stays in AWAIT_SLOT. -/
theorem slotOrLost_of_calm {n m : Node} (hh : n.hsq.hall = .awaitSlot) (h : m.calm = n.calm) :
    slotOrLost m := slotOrLost_of_hall (by rw [hall_of_calm h, hh]; decide)

theorem takeSlot_slotOrLost {r : Node × Bool} (hs : reportsHeld r)
    (hh : r.1.hsq.hall = .awaitSlot) : slotOrLost (takeSlot r) := by
  cases hr : r.2
  · rw [takeSlot_false hr]; exact slotOrLost_of_hall (by simp [hh])
  · rw [takeSlot_true hr hh]
    intro _
    refine .inl (Eq.trans (holdsSlot_congr ?_ ?_) (hs hr))
    · rw [enterDischarging_vsu]
    · exact cfs_of_sansCourse (enterDischarging_sansCourse r.1)

theorem sansVent_hall {a b : Node} (h : a.sansVent = b.sansVent) : a.hsq.hall = b.hsq.hall :=
  congrArg (fun m => m.hsq.hall) h

theorem rclLoss_vsu (b : Bool) (n : Node) : (rclLoss b n).vsu = n.vsu :=
  congrArg (fun m => m.vsu) (rclLoss_sansLoss b n)

theorem rclLoss_elapsed (b : Bool) (n : Node) : (rclLoss b n).hsq.elapsed = n.hsq.elapsed :=
  congrArg (fun m => m.hsq.elapsed) (rclLoss_sansLoss b n)

theorem vsuWithdraw_queue (n : Node) : (vsuWithdraw n).vsu.queue = n.vsu.queue := by
  have h : ∀ (g : Nat) (m : Node), (queueVentfree g m).vsu = m.vsu := fun g m => by
    unfold queueVentfree; repeat' split
    all_goals rfl
  unfold vsuWithdraw; dsimp only; split
  · rw [h]
  · rw [h]
  · rfl
  · rfl

theorem aplEvaluate_vsu (n : Node) : (aplEvaluate n).vsu = n.vsu :=
  congrArg (fun m => m.vsu) (aplEvaluate_sansPlan n)

theorem enterSoak_queue (n : Node) : (enterSoak n).vsu.queue = n.vsu.queue := by
  unfold enterSoak; dsimp only; split
  · exact ((vsuWithdraw_queue _).trans (congrArg Vsu.queue (aplEvaluate_vsu _)) :)
  · rfl

theorem soakTest_queue (n : Node) : (soakTest n).vsu.queue = n.vsu.queue := by
  unfold soakTest; split
  · exact enterSoak_queue n
  · rfl

theorem holderLoss_queue (b : Bool) (n : Node) : (holderLoss b n).vsu.queue = n.vsu.queue := by
  rw [holderLoss, soakTest_queue, rclLoss_vsu]

theorem soakTest_raises (n : Node) : n.raisedIn (soakTest n) := by
  have hs : n.raisedIn (enterSoak n) := by
    unfold enterSoak; dsimp only; split
    · have h1 : ∀ m : Node, m.raisedIn (aplEvaluate m) := fun m => by
        unfold aplEvaluate; split
        · exact m.raisedIn_refl
        · intro f hf
          refine Node.flag_setFlagIf_mono _ _ _ f (Node.flag_setFlagIf_mono _ _ _ f ?_)
          exact hf
      intro f hf
      have h2 := Node.raisedIn_of_svp (svp_of_sansVent (vsuWithdraw_sansVent
        (aplEvaluate (resetDeferral { n with hsq.hall := .soak })))) f (h1 _ f hf)
      exact h2
    · exact Node.raisedIn_of_svp rfl
  unfold soakTest; split
  · exact hs
  · exact n.raisedIn_refl

theorem rclLoss_raises (b : Bool) (n : Node) : n.raisedIn (rclLoss b n) := by
  have hm : n.raisedIn (lossMarked b n) := fun f hf => by
    have := Node.flag_setFlagIf_mono { n with rcl.grantHeard := 0 } n.hadGrant .holderLost f hf
    unfold lossMarked; dsimp only; split <;> exact this
  have he : ∀ (c : Bool) (m : Node), m.raisedIn (rclEnd c m) := fun c m =>
    Node.raisedIn_of_svp (svp_of_sansClient (rclEnd_sansClient c m))
  obtain ⟨r, e⟩ | ⟨_, _, ⟨_, e⟩ | e⟩ := rclLoss_cases b n
  · rw [e]; exact hm
  · rw [e, rclFeedLost]
    refine Node.raisedIn_trans hm (Node.raisedIn_trans (b := Node.setFlag _ .feedLost) ?_
      (Node.raisedIn_trans (Node.raisedIn_of_svp (svp_of_sansClient (selClose_sansClient _))) (he _ _)))
    exact fun f hf => Node.flag_setFlag_mono _ _ f hf
  · rw [e]; exact Node.raisedIn_trans hm (he _ _)

theorem holderLoss_raises (b : Bool) (n : Node) : n.raisedIn (holderLoss b n) :=
  Node.raisedIn_trans (rclLoss_raises b n) (soakTest_raises _)

/-- A holder's loss after the vent unit's report keeps what the discharge came with. -/
theorem holderLoss_slotOrLost (b : Bool) {n : Node} (h : slotOrLost n)
    (hh : n.hsq.hall = .awaitSlot ∨ n.hsq.hall = .discharging) : slotOrLost (holderLoss b n) := by
  rcases hh with hh | hh
  · rw [holderLoss_of_other b (by simp [hh])]
    exact slotOrLost_of_calm hh (rclLoss_calm b n)
  · intro _
    rcases h hh with hs | ⟨hl, hf⟩
    · exact .inl ((holdsSlot_congr (holderLoss_queue b n)
        (cfs_of_sansCourse (holderLoss_sansCourse b n))).trans hs)
    · exact .inr ⟨(congrArg (fun m => m.lkc.link) (holderLoss_sansCourse b n)).trans hl,
        holderLoss_raises b n _ hf⟩

theorem takeSlot_hall {r : Node × Bool} (hh : r.1.hsq.hall = .awaitSlot) :
    (takeSlot r).hsq.hall = .awaitSlot ∨ (takeSlot r).hsq.hall = .discharging := by
  cases hr : r.2
  · rw [takeSlot_false hr]; exact .inl hh
  · rw [takeSlot_true hr hh]; exact .inr (enterDischarging_hall _)

/-! ## The events from AWAIT_SLOT -/

section
variable {n : Node} (hh : n.hsq.hall = .awaitSlot)
include hh

theorem stationEvent_slot (current : Nat) : slotOrLost (stationEvent current n) := by
  unfold stationEvent; dsimp only
  refine slotOrLost_of_hall ?_
  split
  · rw [manualRelease]; dsimp only; rw [hh]; dsimp only; simp [hh]
  · simp [hh]

theorem holdEvent_slot (current : Nat) : slotOrLost (holdEvent false current n) := by
  unfold holdEvent; dsimp only
  refine slotOrLost_of_hall ?_
  split
  · split
    · rw [holdOperated]; dsimp only; rw [hh]; dsimp only; simp [hh]
    · rw [holdReleased, if_neg (by simp [hh])]; simp [hh]
  · simp [hh]

theorem hsqIsolate_await (hk : n.isolate = true) : (hsqIsolate n).hsq.hall = .lockout := by
  have he : hsqIsolate n = enterLockout (vsuWithdraw (rclGiveUp n)) := by
    rw [hsqIsolate]; dsimp only; rw [hh]
  have hk' : (vsuWithdraw (rclGiveUp n)).isolate = true := by
    have : (vsuWithdraw (rclGiveUp n)).fiu = n.fiu :=
      congrArg (fun m => m.fiu) ((vsuWithdraw_calm _).trans (rclGiveUp_calm n))
    simpa only [Node.isolate, this] using hk
  rw [he, enterLockout_isolated hk']; rfl

theorem keyIsolate_slot (hk : n.isolate = true) : slotOrLost (keyIsolate n) := by
  have hm : ∀ m : Node, m.calm = n.calm → slotOrLost (hsqIsolate m) := fun m hm => by
    have hi : m.isolate = true := by
      simpa only [Node.isolate, show m.fiu = n.fiu from congrArg (fun m => m.fiu) hm] using hk
    exact slotOrLost_of_hall (by rw [hsqIsolate_await ((hall_of_calm hm).trans hh) hi]; decide)
  have hc : (takeReports (vcuIsolate n)).calm = n.calm :=
    (takeReports_calm _).trans (calm_of_sansValve (vcuIsolate_sansValve n))
  refine hm _ ?_
  split
  · exact (calm_of_sansBank (rvaIsolate_sansBank _)).trans hc
  · exact hc

theorem keyNormal_slot : slotOrLost (keyNormal n) := by
  have hc : (keyNormal n).hsq.hall = .awaitSlot := by
    have hm : (feedTest (takeReports (vcuNormal { n with
        fiu.zoneA := n.fiu.zoneA.endAlarm, fiu.zoneB := n.fiu.zoneB.endAlarm }))).hsq.hall = .awaitSlot :=
      (hall_of_calm ((feedTest_calm _).trans ((takeReports_calm _).trans
        (calm_of_sansValve (vcuNormal_sansValve _))))).trans hh
    rw [keyNormal, hsqNormal, if_neg (by rw [hm]; decide)]
    exact hm
  exact slotOrLost_of_hall (by simp [hc])

theorem keyEvent_slot (a b : Bool) : slotOrLost (keyEvent false a b n) := by
  unfold keyEvent; dsimp only; split
  · split
    next hd => exact keyIsolate_slot (n := { n with fiu.key := _ }) hh (by simp [Node.isolate, hd])
    next => exact keyNormal_slot (n := { n with fiu.key := _ }) hh
  · exact slotOrLost_of_hall (by simp [hh])

theorem afterReports_slot {r : Node × List VReport} (hr : r.1.sansValve = n.sansValve) :
    slotOrLost (afterReports r) := by
  have hc := calm_of_sansValve hr
  unfold afterReports; split
  · exact slotOrLost_of_calm hh hc
  · have ht := (takeReports_calm r).trans hc
    rw [soakTest_of_other (by rw [hall_of_calm ht, hh]; decide)]
    exact slotOrLost_of_calm hh ht

theorem selReports_await (rs : List SelReport) : (selReports rs n).hsq.hall = .awaitSlot := by
  induction rs generalizing n with
  | nil => exact hh
  | cons r rs ih =>
    refine ih (n := selReport r n) ?_
    have hs : ∀ m : Node, m.calm = n.calm → (soakTest m).hsq.hall = .awaitSlot := fun m hm => by
      have : m.hsq.hall = .awaitSlot := (hall_of_calm hm).trans hh
      rw [soakTest_of_other (by simp [this])]; exact this
    cases r with
    | opened => exact hs _ (calm_of_sansClient (rclOpened_sansClient n))
    | closed => exact hh
    | jammed => exact hs _ (calm_of_sansClient (rclJammed_sansClient n))

/-- The link lost in AWAIT_SLOT releases at once: before or after the client's part, the hall is in
DISCHARGING with ISOLATED_RELEASE (R15, log 11). -/
theorem hsqAndRcl_lost (hl : n.lkc.link = .lost) :
    let m := hsqAndRcl hsqLost (holderLoss true) n
    m.hsq.hall = .discharging ∧ m.lkc.link = .lost ∧ m.flag .isolatedRelease = true := by
  have hiso : ∀ m : Node, m.hsq.hall = .awaitSlot → m.lkc.link = .lost →
      ∃ k, hsqLost m = isolatedRelease k ∧ k.lkc.link = .lost := fun m hm hk => by
    have he : refreshAdjacent m = { m with hsq.adjacent := m.adjacentNow } :=
      refreshAdjacent_of_other (by simp [hm]) (by simp [hm])
    refine ⟨refreshAdjacent m, if_pos (by rw [he]; exact hm), ?_⟩
    rw [he]; exact hk
  intro m
  have hm : m = eitherOrder hsqLost (holderLoss true) n := if_pos hh
  rw [hm]
  have hdh : n.drawn.hsq.hall = .awaitSlot := hh
  rcases eitherOrder_cases hsqLost (holderLoss true) n with e | e
  · have hr : holderLoss true n.drawn = rclLoss true n.drawn := holderLoss_of_other true (by simp [hdh])
    obtain ⟨k, hk, hkl⟩ := hiso (holderLoss true n.drawn)
      (by rw [hr, hall_of_calm (rclLoss_calm true n.drawn), hdh])
      ((link_of_sansCourse (holderLoss_sansCourse true n.drawn)).trans hl)
    rw [e, hk]
    exact ⟨isolatedRelease_hall k, (link_of_sansCourse (isolatedRelease_sansCourse k)).trans hkl,
      isolatedRelease_flag k⟩
  · obtain ⟨k, hk, hkl⟩ := hiso n.drawn hdh hl
    have hsoak : holderLoss true (isolatedRelease k) = rclLoss true (isolatedRelease k) := by
      refine if_neg ?_
      have : (rclLoss true (isolatedRelease k)).hsq.elapsed = false := by
        rw [rclLoss_elapsed, isolatedRelease_elapsed]
      simp [Node.soakDue, this]
    rw [e, hk, hsoak]
    exact ⟨(hall_of_calm (rclLoss_calm true _)).trans (isolatedRelease_hall k),
      (link_of_sansCourse (rclLoss_sansCourse true _)).trans
        ((link_of_sansCourse (isolatedRelease_sansCourse k)).trans hkl),
      rclLoss_raises true _ _ (isolatedRelease_flag k)⟩

theorem linkLost_await : (linkLost n).hsq.hall = .discharging ∧ (linkLost n).lkc.link = .lost ∧
    (linkLost n).flag .isolatedRelease = true := by
  obtain ⟨hd, hl, hf⟩ := hsqAndRcl_lost (n := lkcLost n) hh rfl
  have hb := rvaLost_sansBank (hsqAndRcl hsqLost (holderLoss true) (lkcLost n))
  exact ⟨(congrArg (fun m => m.hsq.hall) hb).trans hd, (congrArg (fun m => m.lkc.link) hb).trans hl,
    Node.raisedIn_of_svp (svp_of_sansBank hb) _ hf⟩

theorem linkLost_slot : slotOrLost (linkLost n) := fun _ => .inr (linkLost_await hh).2

theorem idClash_slot : slotOrLost (idClash n) := by
  unfold idClash; dsimp only; split
  · exact slotOrLost_of_hall (by simp [hh])
  · exact linkLost_slot hh

theorem peerAbsent_slot (i : NodeId) : slotOrLost (peerAbsent i n) := by
  unfold peerAbsent; dsimp only
  have hm : (rvaPeer i (refreshAdjacent (n.setPeer i (n.peer i).absent))).hsq.hall = .awaitSlot := by
    have he : refreshAdjacent (n.setPeer i (n.peer i).absent) = { n.setPeer i (n.peer i).absent with
        hsq.adjacent := (n.setPeer i (n.peer i).absent).adjacentNow } :=
      refreshAdjacent_of_other (by simp [hh]) (by simp [hh])
    rw [hall_of_calm (calm_of_sansBank (rvaPeer_sansBank i _)), he]; exact hh
  generalize rvaPeer i (refreshAdjacent (n.setPeer i (n.peer i).absent)) = m at hm
  have hslot : ∀ k : Node, k.hsq.hall = .awaitSlot → slotOrLost (takeSlot (vsuAbsent i k)) ∧
      ((takeSlot (vsuAbsent i k)).hsq.hall = .awaitSlot ∨
        (takeSlot (vsuAbsent i k)).hsq.hall = .discharging) := fun k hk => by
    have hv : (vsuAbsent i k).1.hsq.hall = .awaitSlot := (sansVent_hall (vsuAbsent_sansVent i k)).trans hk
    exact ⟨takeSlot_slotOrLost (vsuAbsent_reportsHeld i k) hv, takeSlot_hall hv⟩
  have hdm : m.drawn.hsq.hall = .awaitSlot := hm
  rw [hsqAndRcl, if_pos hm]
  rcases eitherOrder_cases (fun x => takeSlot (vsuAbsent i x))
    (fun x => if x.cfg.holder = some i then holderLoss false x else x) m with e | e
  · rw [e]
    refine (hslot _ ?_).1
    split
    · rw [holderLoss_of_other false (by simp [hdm]), hall_of_calm (rclLoss_calm false m.drawn), hdm]
    · exact hdm
  · rw [e]
    obtain ⟨hs, hall⟩ := hslot m.drawn hdm
    split
    · exact holderLoss_slotOrLost false hs hall
    · exact hs

theorem peerStanding_slot (src : NodeId) (c : Standing) : slotOrLost (peerStanding src c n) := by
  have hwhen : ∀ (b : Bool) (f : Node → Node) (m : Node),
      (m.hsq.hall = .awaitSlot → (f m).hsq.hall = .awaitSlot) → m.hsq.hall = .awaitSlot →
      (when b f m).hsq.hall = .awaitSlot := fun b f m hf hm => by
    cases b
    · exact hm
    · exact hf hm
  have hslot : ∀ (b : Bool) (m : Node), m.hsq.hall = .awaitSlot →
      slotOrLost (when b (fun x => takeSlot (vsuRepair src x)) m) := fun b m hm => by
    cases b
    · exact slotOrLost_of_hall (by rw [when]; simp [hm])
    · exact takeSlot_slotOrLost (vsuRepair_reportsHeld src m)
        ((sansVent_hall (vsuRepair_sansVent src m)).trans hm)
  refine hslot _ _ (hwhen _ _ _ (fun hm => ?_) (hwhen _ _ _ (fun hm => ?_) (hwhen _ _ _ (fun hm => ?_) hh)))
  · have hr := hall_of_calm (calm_of_sansClient (rclHolder_sansClient src
      (when ((n.peer src).rvaChange (Peer.ofStanding n.now n.cfg.period c)) (rvaPeer src)
        (when ((n.peer src).hsqChange (Peer.ofStanding n.now n.cfg.period c)) refreshAdjacent
          (n.setPeer src (Peer.ofStanding n.now n.cfg.period c))))))
    rw [soakTest_of_other (by rw [hr, hm]; decide)]
    exact hr.trans hm
  · exact (hall_of_calm (calm_of_sansBank (rvaPeer_sansBank src _))).trans hm
  · rw [refreshAdjacent_of_other (by rw [hm]; decide) (by rw [hm]; decide)]; exact hm

/-- A frame handed on, of whatever kind, leaves AWAIT_SLOT for DISCHARGING alone. -/
theorem handOn_await (f : Frame) : slotOrLost (handOn f n) ∧
    ((∀ src c, f ≠ .standing src c) →
      (handOn f n).hsq.hall = .awaitSlot ∨ (handOn f n).hsq.hall = .discharging) := by
  have hcalm : ∀ m : Node, m.calm = n.calm → m.hsq.hall = .awaitSlot := fun m hm =>
    (hall_of_calm hm).trans hh
  have hkeep : ∀ m : Node, m.hsq.hall = .awaitSlot →
      slotOrLost m ∧ (m.hsq.hall = .awaitSlot ∨ m.hsq.hall = .discharging) := fun m hm =>
    ⟨slotOrLost_of_hall (by simp [hm]), .inl hm⟩
  have hslot : ∀ r : Node × Bool, reportsHeld r → r.1.sansVent = n.sansVent →
      slotOrLost (takeSlot r) ∧
        ((takeSlot r).hsq.hall = .awaitSlot ∨ (takeSlot r).hsq.hall = .discharging) := fun r hr hv => by
    have hm : r.1.hsq.hall = .awaitSlot := (sansVent_hall hv).trans hh
    exact ⟨takeSlot_slotOrLost hr hm, takeSlot_hall hm⟩
  suffices hs : (∀ src c, f ≠ .standing src c) → slotOrLost (handOn f n) ∧
      ((handOn f n).hsq.hall = .awaitSlot ∨ (handOn f n).hsq.hall = .discharging) by
    refine ⟨?_, fun h => (hs h).2⟩
    cases f with
    | standing src c => exact peerStanding_slot hh src c
    | _ => exact (hs (by simp)).1
  intro hf
  cases f with
  | standing src c => exact absurd rfl (hf src c)
  | bid src holder wanted cls =>
    refine hkeep _ (hcalm _ ?_)
    rw [handOn]; split
    · exact calm_of_sansBank (rvaBid_sansBank ..)
    · rfl
  | yield src holder =>
    refine hkeep _ (hcalm _ ?_)
    rw [handOn]; split
    · exact calm_of_sansBank (rvaYield_sansBank ..)
    · rfl
  | wayopen src holder count =>
    refine hkeep _ (hcalm _ ?_)
    rw [handOn]; split
    · exact calm_of_sansBank (rvaWayopen_sansBank ..)
    · rfl
  | fed src grantee confirmed failed outcome =>
    refine hkeep _ ?_
    rw [handOn]; split
    · have hm := hcalm _ (rclFed_calm confirmed outcome n)
      rw [soakTest_of_other (by simp [hm]), hm]
    · exact hh
  | vent src group =>
    rw [handOn]; split
    · exact hslot _ (vsuVent_reportsHeld _ _ n) (vsuVent_sansVent ..)
    · exact hkeep n hh
  | ventfree src group =>
    rw [handOn]; split
    · exact hslot _ (vsuVentfree_reportsHeld _ _ n) (vsuVentfree_sansVent ..)
    · exact hkeep n hh

end

theorem ventPlaced_queue (n : Node) : (ventPlaced n).1.vsu.queue = n.vsu.queue := by
  unfold ventPlaced; split
  · exact ventReeval_queue _
  · rfl

/-- The report that a frame was placed keeps what a discharge of its own event came with. -/
theorem reportPlaced_slot (f : Frame) {n : Node} (h : slotOrLost n)
    (hh : (∀ src c, f ≠ .standing src c) → n.hsq.hall = .awaitSlot ∨ n.hsq.hall = .discharging) :
    slotOrLost (reportPlaced f n) := by
  have hkeep : ∀ m : Node, m.hsq.hall = n.hsq.hall → m.holdsSlot = n.holdsSlot →
      m.lkc.link = n.lkc.link → m.svp = n.svp → slotOrLost m := fun m hm hs hl hv hd => by
    rcases h (hm ▸ hd) with hn | ⟨hn, hf⟩
    · exact .inl (hs.trans hn)
    · exact .inr ⟨hl.trans hn, Node.raisedIn_of_svp hv _ hf⟩
  cases f with
  | bid a b c d =>
    have hc := bidPlaced_sansClient n
    exact hkeep _ (congrArg (fun m => m.hsq.hall) hc)
      (holdsSlot_congr (congrArg (fun m => m.vsu.queue) hc) (congrArg (fun m => m.cfs.still) hc))
      (congrArg (fun m => m.lkc.link) hc) (svp_of_sansClient hc)
  | vent a g =>
    have hc := ventPlaced_sansVent n
    rcases hh (by simp) with hh | hh
    · exact takeSlot_slotOrLost (ventPlaced_reportsHeld n) ((sansVent_hall hc).trans hh)
    · rw [reportPlaced, takeSlot_of_other (by rw [sansVent_hall hc, hh]; decide)]
      exact hkeep _ (sansVent_hall hc)
        (holdsSlot_congr (ventPlaced_queue n) (congrArg (fun m => m.cfs.still) hc))
        (congrArg (fun m => m.lkc.link) hc) (svp_of_sansVent hc)
  | fed a b c d e =>
    have hc := answerPlaced_sansBank n
    exact hkeep _ (congrArg (fun m => m.hsq.hall) hc)
      (holdsSlot_congr (congrArg (fun m => m.vsu.queue) hc) (congrArg (fun m => m.cfs.still) hc))
      (congrArg (fun m => m.lkc.link) hc) (svp_of_sansBank hc)
  | _ => exact h

theorem countHeard_hall (m : Node) : (countHeard m).hsq.hall = m.hsq.hall := by
  unfold countHeard; dsimp only; split <;> rfl

theorem returnInFlight_hall (m : Node) : (returnInFlight m).hsq.hall = m.hsq.hall := by
  unfold returnInFlight; split <;> rfl

theorem hear_slot (f : Frame) {n : Node} (hh : n.hsq.hall = .awaitSlot) : slotOrLost (hear f n) := by
  have hc : (countHeard (returnInFlight n)).hsq.hall = .awaitSlot := by
    rw [countHeard_hall, returnInFlight_hall, hh]
  have hforeign : slotOrLost (hearForeign f n) := by
    unfold hearForeign; split
    · split
      · split
        · exact (handOn_await hc _).1
        · exact idClash_slot hh
      all_goals exact slotOrLost_of_hall (by simp [hc])
    · exact (handOn_await hc _).1
  unfold hear; split
  · split
    · exact slotOrLost_of_hall (by simp [hh])
    · split
      · have he : (countHeard { n with lkc.inFlight := none, lkc.placement := none }).hsq.hall
            = .awaitSlot := (countHeard_hall _).trans hh
        obtain ⟨hs, hall⟩ := handOn_await he f
        exact reportPlaced_slot f hs hall
      · exact hforeign
  · exact slotOrLost_of_hall (by rw [hearBad, returnInFlight_hall]; simp [hh])

theorem hearBytes_slot (bytes : List Byte) {n : Node} (hh : n.hsq.hall = .awaitSlot) :
    slotOrLost (hearBytes bytes n) := by
  unfold hearBytes; split
  · exact hear_slot _ hh
  · exact slotOrLost_of_hall (by rw [hearBad, returnInFlight_hall]; simp [hh])

theorem offer_hall (d : Option Nat) (n : Node) : (offer d n).hsq.hall = n.hsq.hall := by
  unfold offer; dsimp only; split
  · rfl
  · split
    · rfl
    · split <;> rfl

theorem queueStanding_hall (n : Node) : (queueStanding n).hsq.hall = n.hsq.hall := by
  unfold queueStanding; split <;> rfl

theorem listenOver_slot {n : Node} (hh : n.hsq.hall = .awaitSlot) : slotOrLost (listenOver n) := by
  unfold listenOver; split
  · have hm : (vsuJoined (rvaRebuild (retryBid { n with
        lkc.link := .joined, lkc.listen := none }))).1.hsq.hall = .awaitSlot := by
      rw [sansVent_hall (vsuJoined_sansVent _), hall_of_calm (calm_of_sansBank (rvaRebuild_sansBank _)),
        hall_of_calm (calm_of_sansClient (retryBid_sansClient _))]
      exact hh
    exact takeSlot_slotOrLost (vsuJoined_reportsHeld _) hm
  · exact slotOrLost_of_hall (by simp [hh])

theorem waitOver_slot {n : Node} (hh : n.hsq.hall = .awaitSlot) : slotOrLost (waitOver n) := by
  refine slotOrLost_of_hall ?_
  unfold waitOver; dsimp only; split
  · split
    · split
      · simp [hh]
      · have hm : (rclEnd false { n with rcl.wait := .expired }).hsq.hall = .awaitSlot :=
          (hall_of_calm (rclEnd_calm false _)).trans hh
        rw [soakTest_of_other (by simp [hm]), hm]; decide
    · simp [hh]
  all_goals simp [hh]

theorem feedOver_slot {n : Node} (hh : n.hsq.hall = .awaitSlot) : slotOrLost (feedOver n) := by
  refine slotOrLost_of_hall ?_
  unfold feedOver; split
  · split
    · have hm := (hall_of_calm (rclFeedLost_calm false n)).trans hh
      rw [soakTest_of_other (by simp [hm]), hm]; decide
    · simp [hh]
  · simp [hh]

/-- The slot wait's expiry leaves AWAIT_SLOT with VENT_FORCED. -/
theorem slotOver_forced {n : Node} (hh : n.hsq.hall = .awaitSlot)
    (hd : (slotOver n).hsq.hall = .discharging) : (slotOver n).flag .ventForced = true := by
  unfold slotOver vsuWaitOver at hd ⊢; dsimp only at hd ⊢
  by_cases hdue : due n.now n.vsu.slotWait = true
  · rw [if_pos hdue] at hd ⊢
    by_cases hs : n.vsu.sought = true
    · rw [if_pos hs] at hd ⊢
      rw [slotForced, if_pos hh]
      exact enterDischarging_raises _ _ (Node.flag_setFlag_same _ _)
    · rw [if_neg hs] at hd
      exact absurd (hh.symm.trans hd) (by decide)
  · rw [if_neg hdue] at hd
    exact absurd (hh.symm.trans hd) (by decide)

theorem supervise_hall (o : SupOutput) (c : SupClass) (n : Node) :
    (supervise o c n).hsq.hall = n.hsq.hall := by
  unfold supervise; dsimp only; split
  · split
    · rfl
    · rw [Node.setFlagIf_hsq]
  · rfl

theorem writeOver_slot {n : Node} (hh : n.hsq.hall = .awaitSlot) : slotOrLost (writeOver n) := by
  refine slotOrLost_of_hall ?_
  have hp : ∀ m : Node, (startPending m).hsq.hall = m.hsq.hall := fun m => by
    unfold startPending; split <;> rfl
  unfold writeOver; split
  · simp [hh]
  next w hb =>
    split
    · rw [hp]
      have : (reportWrite w.kind (finishWrite w n)).hsq.hall = .awaitSlot := by
        unfold reportWrite; split
        · exact hh
        · exact hh
        · rw [rowErased, if_neg (by change n.hsq.hall ≠ _; simp [hh])]; exact hh
      rw [this]; decide
    · simp [hh]

/-! ## Every command from AWAIT_SLOT -/

/-- The outcome's discharge comes with a slot, with VENT_FORCED at the slot wait's expiry, or isolated. -/
def leavesByRule (c : Instr) (o : Host.Outcome State Fault Refusal) : Prop :=
  ∀ t, o = .next t → t.node.hsq.hall = .discharging →
    t.node.holdsSlot = true ∨ (c = .slotWaitExpiry ∧ t.node.flag .ventForced = true) ∨
      (t.node.lkc.link = .lost ∧ t.node.flag .isolatedRelease = true)

theorem leavesByRule_next {c : Instr} {t : State} (h : slotOrLost t.node) : leavesByRule c (.next t) := by
  rintro _ ⟨⟩ hd
  exact (h hd).imp_right .inr

theorem slotOrLost_finish (b : Node) {n : Node} (h : slotOrLost n) : slotOrLost (finish b n) := by
  intro hd
  rw [finish_hsq] at hd
  refine (h hd).imp (fun hs => ?_) (fun ⟨hl, hf⟩ => ⟨(finish_link b n).trans hl, ?_⟩)
  · exact (holdsSlot_congr (by rw [finish_vsu]) (by rw [finish_cfs])).trans hs
  · exact Node.raisedIn_of_svp (finish_svp b n) _ hf

theorem leavesByRule_onNode {c : Instr} {s : State} {f : Node → Node} (h : slotOrLost (f s.node)) :
    leavesByRule c (onNode f s) := leavesByRule_next (slotOrLost_finish _ h)

section
variable {c : Instr} {s : State} (hh : s.node.hsq.hall = .awaitSlot)
include hh

theorem leavesByRule_same : leavesByRule c (.next s) :=
  leavesByRule_next (slotOrLost_of_hall (by simp [hh]))

theorem leavesByRule_inRun {f : Node → Node} (h : slotOrLost (f s.node)) :
    leavesByRule c (inRun f s) := by
  unfold inRun; split
  · exact leavesByRule_onNode h
  · exact leavesByRule_same hh

theorem leavesByRule_inRun_hall {f : Node → Node} (h : (f s.node).hsq.hall = s.node.hsq.hall) :
    leavesByRule c (inRun f s) :=
  leavesByRule_inRun hh (slotOrLost_of_hall (by rw [h, hh]; decide))

theorem leavesByRule_onByte {here : Svp → Bool} {f : Node → Node}
    (h : (f s.node).hsq.hall = s.node.hsq.hall) : leavesByRule c (onByte here f s) := by
  unfold onByte; split
  · exact leavesByRule_onNode (slotOrLost_of_hall (by rw [h, hh]; decide))
  · exact leavesByRule_same hh

end

theorem readAddressed_hall (s : State) : (readAddressed s).node.hsq.hall = s.node.hsq.hall := by
  unfold readAddressed; dsimp only; split <;> rfl

theorem startTransaction_hall (a : BitVec 7) (r : Bool) (s : State) :
    (startTransaction a r s).node.hsq.hall = s.node.hsq.hall := by
  unfold startTransaction; split
  · rfl
  · split
    · split
      · exact readAddressed_hall s
      · rfl
    · rfl

theorem clearCounter_hall (s : State) : (clearCounter s).node.hsq.hall = s.node.hsq.hall := by
  unfold clearCounter; dsimp only; split <;> rfl

theorem readBytes_hall (k : Nat) (s : State) : (readBytes k s).node.hsq.hall = s.node.hsq.hall := by
  induction k generalizing s with
  | zero => rfl
  | succ k ih => exact (ih (readByte s)).trans (clearCounter_hall s)

theorem readOn_hall (k : Nat) (s : State) : (readOn k s).node.hsq.hall = s.node.hsq.hall := by
  unfold readOn; split
  · exact readBytes_hall k s
  · rfl

theorem setIndex_hall (b : Byte) (n : Node) : (setIndex b n).hsq.hall = n.hsq.hall := by
  unfold setIndex; split <;> rfl

theorem setPointer_hall (b : Byte) (n : Node) : (setPointer b n).hsq.hall = n.hsq.hall := by
  unfold setPointer; split
  · rfl
  · split <;> rfl

theorem writeRegister_hall (b : Byte) (n : Node) : (writeRegister b n).hsq.hall = n.hsq.hall := by
  unfold writeRegister; dsimp only; repeat' split
  all_goals rfl

theorem clearReleaseCommand_hall (n : Node) : (clearReleaseCommand n).hsq.hall = n.hsq.hall := by
  unfold clearReleaseCommand; repeat' split
  all_goals rfl

theorem readRowCommand_hall (b : Byte) (n : Node) : (readRowCommand b n).hsq.hall = n.hsq.hall := by
  unfold readRowCommand readRow; dsimp only; repeat' split
  all_goals rfl

theorem writeRowCommand_hall (b : Byte) (n : Node) : (writeRowCommand b n).hsq.hall = n.hsq.hall := by
  unfold writeRowCommand writeRow; dsimp only; repeat' split
  all_goals rfl

theorem alarmResetCommand_await {n : Node} (hh : n.hsq.hall = .awaitSlot) :
    (alarmResetCommand n).hsq.hall = n.hsq.hall := by
  unfold alarmResetCommand resetZones; dsimp only; split
  · split
    · rw [refreshZones, reeval_of_other (by simp [hh]) (by simp [hh])]; rfl
    · rfl
  · rfl

/-- A reset leaves the hall QUIET, or as it stands in a reset in progress. -/
theorem letGo_hall (straps : NodeId) (s : State) :
    (letGo straps s).node.hsq.hall = s.node.hsq.hall ∨ (letGo straps s).node.hsq.hall = .quiet := by
  unfold letGo; split
  · exact .inl rfl
  · exact .inr rfl

theorem leavesByRule_hall {c : Instr} {s t : State} (hh : s.node.hsq.hall = .awaitSlot)
    (h : t.node.hsq.hall = s.node.hsq.hall ∨ t.node.hsq.hall = .quiet) : leavesByRule c (.next t) := by
  refine leavesByRule_next (slotOrLost_of_hall ?_)
  rcases h with h | h <;> rw [h]
  · simp [hh]
  · decide

theorem exec_leavesByRule (c : Instr) {s : State} (hr : s.node.running = true)
    (hh : s.node.hsq.hall = .awaitSlot) : leavesByRule c (exec c s) := by
  have hp : s.node.cfs.phase = .run := Node.running_phase hr
  cases c with
  | powerOn straps =>
    change leavesByRule _ (execPowerOn straps s)
    unfold execPowerOn; split
    · exact leavesByRule_hall hh (letGo_hall straps { s with node := { s.node with supplyLow := false } })
    · exact leavesByRule_hall hh (.inr rfl)
  | resetLine micros straps =>
    change leavesByRule _ (execResetLine micros straps s)
    unfold execResetLine; split
    · split
      · exact leavesByRule_same hh
      · refine leavesByRule_hall hh ?_
        rw [holdInReset]; dsimp only; split
        · exact .inl rfl
        · exact .inr rfl
    next id =>
      split
      · exact leavesByRule_hall hh (letGo_hall id { s with node := { s.node with lineHeld := false } })
      · split
        · exact leavesByRule_same hh
        · exact leavesByRule_hall hh (.inr rfl)
  | load inputs =>
    have he : exec (.load inputs) s = .next s := if_neg fun h => h.2 hp
    rw [he]; exact leavesByRule_same hh
  | zoneSample zone current =>
    refine leavesByRule_inRun_hall hh ?_
    have hz : (zoneRead zone current s.node).hsq.hall = .awaitSlot := by rw [zoneRead_hsq, hh]
    have hn : zoneEvent zone current s.node = zonesCopied (zoneRead zone current s.node) :=
      refreshZones_of_other (by simp [hz]) (by simp [hz])
    rw [hn]; exact hz.trans hh.symm
  | manualStationSample current => exact leavesByRule_inRun hh (stationEvent_slot hh current)
  | holdSwitchSample current => exact leavesByRule_inRun hh (holdEvent_slot hh current)
  | keySample a b => exact leavesByRule_inRun hh (keyEvent_slot hh a b)
  | degradedConfirmExpiry =>
    refine leavesByRule_inRun_hall hh ?_
    unfold degradedExpiry; split
    · rw [if_neg (by simp [hh])]
    · rfl
  | epoPointReached => exact leavesByRule_inRun_hall hh (epoTest_hall _)
  | countdownExpiry =>
    refine leavesByRule_inRun_hall hh ?_
    unfold countdownOver; split
    · rw [if_neg (by simp [hh])]
    all_goals rfl
  | dischargeDurationExpiry =>
    refine leavesByRule_inRun_hall hh ?_
    unfold durationOver; dsimp only; split
    · rw [if_neg (by simp [hh])]
    · rfl
  | soakExpiry =>
    refine leavesByRule_inRun_hall hh ?_
    unfold soakOver; dsimp only; split
    · rw [if_neg (by simp [hh])]
    · rfl
  | temperatureRead reading => exact leavesByRule_inRun_hall hh rfl
  | hallPressureRead reading =>
    exact leavesByRule_inRun_hall hh
      ((hall_of_calm (calm_of_sansValve (deferralRead_sansValve (pressStatus reading) reading _))).trans rfl)
  | deferTimerExpiry =>
    exact leavesByRule_inRun_hall hh (hall_of_calm (calm_of_sansValve (deferOver_sansValve _)))
  | cylinderPressureRead c reading =>
    exact leavesByRule_inRun hh (afterReports_slot hh (cylinderRead_sansValve c reading _))
  | pulseStart =>
    exact leavesByRule_inRun_hall hh (hall_of_calm (calm_of_sansValve (arbiterStart_sansValve _)))
  | pulseLengthExpiry =>
    refine leavesByRule_inRun hh ?_
    unfold pulseOver; split
    · exact afterReports_slot hh (endPulse_sansValve _)
    · exact slotOrLost_of_hall (by simp [hh])
  | confirmWindowExpiry c =>
    refine leavesByRule_inRun hh ?_
    unfold windowOver; split
    · exact afterReports_slot hh (endWindow_sansValve c _)
    · exact slotOrLost_of_hall (by simp [hh])
  | staggerTimerExpiry =>
    exact leavesByRule_inRun_hall hh (hall_of_calm (calm_of_sansValve (staggerOver_sansValve _)))
  | driveMonitorCut c =>
    refine leavesByRule_inRun hh ?_
    unfold monitorCut; split
    · exact afterReports_slot hh (cutDrive_sansValve c _)
    · exact slotOrLost_of_hall (by simp [hh])
  | selectorLimitRead a b =>
    refine leavesByRule_inRun_hall hh ((selReports_await ?_ _).trans hh.symm)
    exact (hall_of_calm (calm_of_sansValve (selRead_sansValve _ _))).trans hh
  | selectorTravelExpiry =>
    refine leavesByRule_inRun_hall hh ?_
    unfold travelOver; split
    · split
      · rfl
      · exact (selReports_await (n := selJam s.node) hh _).trans hh.symm
    · rfl
  | frameOffer d => exact leavesByRule_inRun_hall hh (offer_hall d _)
  | badFrame bytes => exact leavesByRule_inRun hh (hearBytes_slot bytes hh)
  | standingReceived src c => exact leavesByRule_inRun hh (hear_slot _ hh)
  | bidReceived a b k c => exact leavesByRule_inRun hh (hear_slot _ hh)
  | yieldReceived a b => exact leavesByRule_inRun hh (hear_slot _ hh)
  | wayopenReceived a b k => exact leavesByRule_inRun hh (hear_slot _ hh)
  | fedReceived a b k f o => exact leavesByRule_inRun hh (hear_slot _ hh)
  | ventReceived a g => exact leavesByRule_inRun hh (hear_slot _ hh)
  | ventfreeReceived a g => exact leavesByRule_inRun hh (hear_slot _ hh)
  | statusTimerExpiry =>
    refine leavesByRule_inRun_hall hh ?_
    unfold statusOver; split
    · exact queueStanding_hall _
    · rfl
  | listenTimerExpiry => exact leavesByRule_inRun hh (listenOver_slot hh)
  | silenceTimerExpiry =>
    refine leavesByRule_inRun hh ?_
    unfold silenceOver; split
    · exact linkLost_slot hh
    · exact slotOrLost_of_hall (by simp [hh])
  | placementTimerExpiry =>
    refine leavesByRule_inRun hh ?_
    unfold placementOver; split
    · exact linkLost_slot hh
    · exact slotOrLost_of_hall (by simp [hh])
  | presenceTimerExpiry i =>
    refine leavesByRule_inRun hh ?_
    unfold presenceOver; split
    · exact peerAbsent_slot hh i
    · exact slotOrLost_of_hall (by simp [hh])
  | grantHoldExpiry i =>
    exact leavesByRule_inRun_hall hh (hall_of_calm (calm_of_sansBank (grantOver_sansBank i _)))
  | reserveWaitExpiry => exact leavesByRule_inRun hh (waitOver_slot hh)
  | feedTimeoutExpiry => exact leavesByRule_inRun hh (feedOver_slot hh)
  | flowTimerExpiry =>
    exact leavesByRule_inRun_hall hh (hall_of_calm (calm_of_sansClient (flowOver_sansClient _)))
  | slotWaitExpiry =>
    have he : exec .slotWaitExpiry s = onNode slotOver s := if_pos hr
    rw [he]
    rintro _ ⟨⟩ hd
    rw [finish_hsq] at hd
    exact .inr (.inl ⟨rfl, Node.raisedIn_of_svp (finish_svp _ _) _ (slotOver_forced hh hd)⟩)
  | supervisionRead o c => exact leavesByRule_inRun_hall hh (supervise_hall o c _)
  | settleTimeExpiry o =>
    refine leavesByRule_inRun_hall hh ?_
    unfold settleOver; split <;> rfl
  | sounderPhaseExpiry =>
    refine leavesByRule_inRun_hall hh ?_
    unfold phaseOver; split <;> rfl
  | storeWriteCompletion => exact leavesByRule_inRun hh (writeOver_slot hh)
  | indexWrite b =>
    change leavesByRule _ (execIndexWrite b s)
    unfold execIndexWrite; split
    · exact leavesByRule_onNode (slotOrLost_of_hall (by rw [setIndex_hall, hh]; decide))
    · exact leavesByRule_same hh
  | readAddress k =>
    change leavesByRule _ (execReadAddress k s)
    unfold execReadAddress; split
    · exact leavesByRule_same hh
    · exact leavesByRule_hall hh (.inl ((readBytes_hall k _).trans (readAddressed_hall s)))
  | windowRecordRead => exact leavesByRule_hall hh (.inl (readOn_hall _ s))
  | badFrameCounterRead => exact leavesByRule_hall hh (.inl (readOn_hall _ s))
  | stickyFlagClear b =>
    change leavesByRule _ (execStickyFlagClear b s)
    exact leavesByRule_onByte hh rfl
  | windowPointerWrite b => exact leavesByRule_onByte hh (setPointer_hall b _)
  | autoSnapWrite b =>
    change leavesByRule _ (execAutoSnapWrite b s)
    exact leavesByRule_onByte hh rfl
  | registerWrite b =>
    change leavesByRule _ (execRegisterWrite b s)
    exact leavesByRule_onByte hh (writeRegister_hall b _)
  | snap =>
    change leavesByRule _ (execSnap s)
    unfold execSnap; split
    · exact leavesByRule_hall hh (.inl rfl)
    · exact leavesByRule_same hh
  | alarmReset => exact leavesByRule_onByte hh (alarmResetCommand_await hh)
  | clearRelease => exact leavesByRule_onByte hh (clearReleaseCommand_hall _)
  | restart straps =>
    change leavesByRule _ (execRestart straps s)
    unfold execRestart restartCommand; split
    · split
      · exact leavesByRule_hall hh (.inr rfl)
      · exact leavesByRule_onNode (slotOrLost_of_hall (by simp [hh]))
    · exact leavesByRule_same hh
  | storeReadRow b =>
    change leavesByRule _ (execStoreReadRow b s)
    exact leavesByRule_onByte hh (readRowCommand_hall b _)
  | storeWriteRow b =>
    change leavesByRule _ (execStoreWriteRow b s)
    exact leavesByRule_onByte hh (writeRowCommand_hall b _)
  | startCondition a r => exact leavesByRule_hall hh (.inl (startTransaction_hall a r s))
  | supplyBelowThreshold =>
    refine leavesByRule_hall (t := holdInReset _ _ s) hh ?_
    rw [holdInReset]; dsimp only; split
    · exact .inl rfl
    · exact .inr rfl
  | driveCurrentWithoutCommand c d =>
    exact leavesByRule_inRun hh (afterReports_slot hh (selfDrive_sansValve c d _))

/-- Settles O54: only the vent unit's slot held report, the slot wait's expiry and a loss of the link take
the hall from AWAIT_SLOT to DISCHARGING, each with what it leaves in the node. -/
theorem awaitSlotEndsWithASlotOrAFlag : Obligations.AwaitSlotEndsWithASlotOrAFlag :=
  fun c _ t hr hh he hd => exec_leavesByRule c hr hh t he hd

end Sys2Proof.Machine

/-! # Causes, and a zone sample

What `reeval` does without and with a cross-zone confirmation, and what one zone sample makes of the zone's
record. -/

namespace Sys2Proof.Machine

theorem Node.normal_iff {n : Node} : n.normal = true ↔ n.hsq.mode = .normal := by simp [Node.normal]
theorem Node.isolate_iff {n : Node} : n.isolate = true ↔ n.fiu.key.delivered = .isolate := by
  simp [Node.isolate]
theorem Node.not_isolate_iff {n : Node} : n.isolate = false ↔ n.fiu.key.delivered = .normal := by
  simp only [Node.isolate]; cases n.fiu.key.delivered <;> simp

theorem Hsq.degradedHolds_iff {h : Hsq} : h.degradedHolds = true ↔
    (h.latchedA = true ∧ h.latchedB = false ∧ h.faultB = true) ∨
      (h.latchedB = true ∧ h.latchedA = false ∧ h.faultA = true) := by
  simp [Hsq.degradedHolds, and_assoc]

/-- The degraded confirm timer as its condition now has it (R6, R27). -/
def Node.degradedTimer (n : Node) : Option Time :=
  if n.normal && n.hsq.degradedHolds then
    some (n.hsq.degraded.getD (n.now + 1000 * n.cfg.degradedDelay)) else none

/-- A cause of ALERT stands (R3, R4). -/
def Hsq.caused (h : Hsq) : Prop := h.latchedA = true ∨ h.latchedB = true ∨ h.adjacent = true

theorem rest_caused {n : Node} (h : n.hsq.caused) :
    rest n = { n with hsq := { n.hsq with hall := .alert, degraded := n.degradedTimer } } :=
  if_pos (by simpa [Hsq.zoneCause, Hsq.caused, or_assoc] using h)

theorem rest_uncaused {n : Node} (h : ¬ n.hsq.caused) :
    rest n = { n with hsq := { n.hsq with
      hall := .quiet, degraded := n.degradedTimer, manualOverride := false, epoReached := false } } :=
  if_neg (by simpa [Hsq.zoneCause, Hsq.caused, or_assoc] using h)

theorem reeval_of_crossZone {n : Node} (h : crossZone n.hsq) :
    reeval n = enterCountdown .crossZone (1000 * n.cfg.countdown) n := by
  obtain ⟨hrest, hmode, ha, hb⟩ := h
  exact (if_pos hrest).trans (if_pos (by simp [Node.normal, hmode, ha, hb]))

theorem reeval_of_rest {n : Node} (hrest : n.hsq.hall = .quiet ∨ n.hsq.hall = .alert)
    (h : ¬ crossZone n.hsq) : reeval n = rest n := by
  refine (if_pos hrest).trans (if_neg fun hc => h ?_)
  simp only [Node.normal, Bool.and_eq_true, decide_eq_true_eq] at hc
  obtain ⟨⟨hmode, ha⟩, hb⟩ := hc
  exact ⟨hrest, hmode, ha, hb⟩

/-- Without a cross-zone confirmation the sequencer's record alone follows its causes. -/
theorem reeval_followsCauses {n : Node} (h : ¬ crossZone n.hsq) :
    ∃ x, followsCauses n n.hsq x ∧ reeval n = { n with hsq := x } := by
  by_cases hrest : n.hsq.hall = .quiet ∨ n.hsq.hall = .alert
  · rw [reeval_of_rest hrest h]
    by_cases hc : n.hsq.caused
    · rw [rest_caused hc]
      refine ⟨_, ⟨(absurd hrest ·), ?_, ?_, fun _ hn => absurd hc hn⟩, rfl⟩
      · rintro - ⟨hmode, ht⟩
        simp [Node.degradedTimer, Node.normal, hmode, Hsq.degradedHolds_iff.2 ht]
      · intro _ _ ht
        simp only [Node.degradedTimer, Bool.and_eq_true]
        rw [if_neg fun hb => ht ⟨Node.normal_iff.1 hb.1, Hsq.degradedHolds_iff.1 hb.2⟩]
    · have ht : n.degradedTimer = none := by
        refine if_neg fun hb => hc ?_
        rcases Hsq.degradedHolds_iff.1 (Bool.and_eq_true_iff.1 hb).2 with ⟨ha, -⟩ | ⟨hb, -⟩
        · exact .inl ha
        · exact .inr (.inl hb)
      rw [rest_uncaused hc]
      refine ⟨_, ⟨(absurd hrest ·), ?_, fun _ hx => absurd hx hc, fun _ _ _ => by rw [ht]⟩, rfl⟩
      rintro - ⟨-, ht⟩
      rcases ht with ⟨ha, -⟩ | ⟨hb, -⟩
      · exact absurd (.inl ha) hc
      · exact absurd (.inr (.inl hb)) hc
  · refine ⟨n.hsq, ⟨fun _ => rfl, (absurd · hrest), (absurd · hrest), (absurd · hrest)⟩, if_neg hrest⟩

/-- A cross-zone confirmation marks its cause, stops the degraded confirm timer and sets CONFIRMED. -/
theorem reeval_confirms {n : Node} (h : crossZone n.hsq) :
    (reeval n).hsq.cause = .crossZone ∧ (reeval n).hsq.degraded = none ∧
      (reeval n).flag .confirmed = true := by
  rw [reeval_of_crossZone h]
  have hs := enterCountdown_sansCourse .crossZone (1000 * n.cfg.countdown) n
  exact ⟨congrArg (fun m => m.hsq.cause) hs, congrArg (fun m => m.hsq.degraded) hs,
    enterCountdown_confirmed _ _ _⟩

/-! ## Runs -/

theorem startRun_eq (now : Time) (run : Option Time) : startRun now run = some (run.getD now) := by
  cases run <;> rfl

theorem lasted_startRun {now len : Time} {run : Option Time} :
    lasted now (startRun now run) len = true ↔ run.getD now + len ≤ now := by
  rw [startRun_eq]; simp [lasted]

theorem lasted_startRun_of_pos {now len : Time} {run : Option Time} (hlen : 0 < len) :
    lasted now (startRun now run) len = true ↔ ∃ t, run = some t ∧ t + len ≤ now := by
  rw [lasted_startRun]
  cases run with
  | none => simp [Nat.ne_of_gt hlen]
  | some t => simp

/-! ## One zone sample -/

theorem zoneClass_normal {c : Nat} : zoneClass c = .normal ↔ 20 ≤ c ∧ c < 120 := by
  unfold zoneClass; repeat' split
  all_goals simp; omega
theorem zoneClass_alarm {c : Nat} : zoneClass c = .alarm ↔ 120 ≤ c ∧ c < 400 := by
  unfold zoneClass; repeat' split
  all_goals simp; omega

theorem zoneClass_faultKind_of_faulty {c : Nat} (h : c < 20 ∨ 400 ≤ c) :
    (zoneClass c).faultKind? = some (if c < 20 then LineFault.openLoop else .shortLoop) := by
  unfold zoneClass
  by_cases hc : c < 20
  · simp only [if_pos hc]; rfl
  · rw [if_neg hc, if_neg (by omega), if_neg (by omega), if_neg hc]; rfl

theorem zoneClass_faultKind_of_sound {c : Nat} (h : ¬ (c < 20 ∨ 400 ≤ c)) :
    (zoneClass c).faultKind? = none := by
  unfold zoneClass
  rw [if_neg (by omega)]
  split
  · rfl
  · rw [if_pos (by omega)]; rfl

/-- The sample completes the alarm run (R31). -/
def completesAlarm (now verify : Time) (run : Option Run) : Prop :=
  match run with
  | none => verify = 0
  | some r => r.done = false ∧ r.since + verify ≤ now

theorem alarmStep_completes {now verify : Time} {cls : ZoneClass} {run : Option Run} :
    (alarmStep now verify cls run).2 = true ↔ cls = .alarm ∧ completesAlarm now verify run := by
  unfold alarmStep completesAlarm
  split <;> cases run <;> simp [*]

theorem alarmStep_of_alarm {now verify : Time} (run : Option Run) :
    ∃ d, (alarmStep now verify .alarm run).1 =
        some { since := (run.map Run.since).getD now, done := d } ∧
      (d = true ↔ completesAlarm now verify run ∨ ∃ r, run = some r ∧ r.done = true) := by
  cases run with
  | none => exact ⟨_, rfl, by simp [completesAlarm]⟩
  | some r =>
    refine ⟨_, rfl, ?_⟩
    cases hd : r.done <;> simp [completesAlarm, hd]

theorem alarmStep_of_other {now verify : Time} {cls : ZoneClass} (run : Option Run) (h : cls ≠ .alarm) :
    (alarmStep now verify cls run).1 = none := by
  unfold alarmStep; rw [if_neg h]

/-- The part of a zone's record that the latch and the isolated alarm take no part in. -/
theorem latchStep_eq (cls : ZoneClass) (completes isolate : Bool) (z : ZoneRec) :
    latchStep cls completes isolate z =
      { z with latched := (latchStep cls completes isolate z).latched,
               isolated := (latchStep cls completes isolate z).isolated } := by
  unfold latchStep; repeat' split
  all_goals rfl

theorem latchStep_latched {cls : ZoneClass} {completes isolate : Bool} {z : ZoneRec}
    (h : completes = true → cls = .alarm) :
    (latchStep cls completes isolate z).latched = true ↔
      z.latched = true ∨ (completes = true ∧ isolate = false) := by
  unfold latchStep
  by_cases hc : cls = .alarm
  · rw [if_neg (by simp [hc])]
    cases hl : z.latched <;> cases completes <;> cases isolate <;> simp [hl]
  · have hf : completes = false := Bool.eq_false_iff.2 fun hx => hc (h hx)
    simp [hc, hf]

theorem latchStep_isolated {cls : ZoneClass} {completes isolate : Bool} {z : ZoneRec} :
    (latchStep cls completes isolate z).isolated = true ↔
      cls = .alarm ∧ (z.isolated = true ∨ (completes = true ∧ z.latched = false ∧ isolate = true)) := by
  unfold latchStep
  by_cases hc : cls = .alarm
  · rw [if_neg (by simp [hc])]
    cases hl : z.latched <;> cases completes <;> cases isolate <;> simp [hc]
  · simp [hc]

theorem faultStep_faulty {now : Time} {cls : ZoneClass} {z : ZoneRec} {k : LineFault}
    (hk : cls.faultKind? = some k) :
    ∃ b : Bool, (b = true ↔ z.fault = true ∨ ∃ t, z.faultRun = some t ∧ t + 1000 ≤ now) ∧
      faultStep now cls z = { z with
        faultRun := some (z.faultRun.getD now), normalRun := none, fault := b,
        kind := if b then some k else z.kind } := by
  refine ⟨z.fault || lasted now (startRun now z.faultRun) Config.faultTime, ?_, ?_⟩
  · rw [Bool.or_eq_true, lasted_startRun_of_pos (by decide)]
    rfl
  · unfold faultStep; rw [hk]; dsimp only; rw [startRun_eq]
    split
    next h => simp [h]
    next h =>
      rw [Bool.not_eq_true] at h
      have hz : z.fault = false := (Bool.or_eq_false_iff.1 h).1
      rw [h]; simp [hz]

theorem faultStep_cleared {now : Time} {cls : ZoneClass} {z : ZoneRec} (hn : cls = .normal)
    (hf : z.fault = true) (hc : ∃ t, z.normalRun = some t ∧ t + 1000 ≤ now) :
    faultStep now cls z = { z with faultRun := none, normalRun := none, fault := false, kind := none } := by
  subst hn
  refine (if_pos (by simp [hf])).trans (if_pos ?_)
  rw [lasted_startRun_of_pos (by decide)]; exact hc

theorem faultStep_clearing {now : Time} {cls : ZoneClass} {z : ZoneRec} (hn : cls = .normal)
    (hf : z.fault = true) (hc : ¬ ∃ t, z.normalRun = some t ∧ t + 1000 ≤ now) :
    faultStep now cls z = { z with faultRun := none, normalRun := some (z.normalRun.getD now) } := by
  subst hn
  refine (if_pos (by simp [hf])).trans ((if_neg ?_).trans ?_)
  · rw [lasted_startRun_of_pos (by decide)]; exact hc
  · rw [startRun_eq]

theorem faultStep_sound {now : Time} {cls : ZoneClass} {z : ZoneRec} (hk : cls.faultKind? = none)
    (h : cls = .normal → z.fault = false) :
    faultStep now cls z = { z with faultRun := none, normalRun := none } := by
  unfold faultStep; rw [hk]
  exact if_neg (by simpa using fun hz hn => by simp [h hn] at hz)

/-- What a sample makes of a zone's fault, from `z` to `z'` (R33). -/
def faultFollows (now : Time) (current : Nat) (z z' : ZoneRec) : Prop :=
  let faulty : Prop := current < 20 ∨ 400 ≤ current
  let normal : Prop := 20 ≤ current ∧ current < 120
  let raised : Prop := faulty ∧ ∃ t, z.faultRun = some t ∧ t + 1000 ≤ now
  let cleared : Prop := normal ∧ ∃ t, z.normalRun = some t ∧ t + 1000 ≤ now
  (z'.fault = true ↔ raised ∨ (z.fault = true ∧ ¬ cleared)) ∧
  (z'.fault = true → faulty → z'.kind = some (if current < 20 then LineFault.openLoop else .shortLoop)) ∧
  (z'.fault = false → z.fault = true → z'.kind = none) ∧
  (¬ (z'.fault = true ∧ faulty) → (z.fault = true → ¬ cleared) → z'.kind = z.kind) ∧
  (faulty → z'.faultRun = some (z.faultRun.getD now) ∧ z'.normalRun = none) ∧
  (¬ faulty → z'.faultRun = none) ∧
  (¬ normal ∨ z.fault = false ∨ cleared → z'.normalRun = none) ∧
  (normal → z.fault = true → ¬ cleared → z'.normalRun = some (z.normalRun.getD now))

theorem faultStep_follows (now : Time) (current : Nat) (z : ZoneRec) :
    faultFollows now current z (faultStep now (zoneClass current) z) := by
  by_cases hfaulty : current < 20 ∨ 400 ≤ current
  · have hn : ¬ (20 ≤ current ∧ current < 120) := by omega
    obtain ⟨b, hb, he⟩ := faultStep_faulty (now := now) (z := z) (zoneClass_faultKind_of_faulty hfaulty)
    rw [he]
    refine ⟨?_, fun hx _ => if_pos hx, ?_, fun hx _ => if_neg fun hbt => hx ⟨hbt, hfaulty⟩,
      fun _ => ⟨rfl, rfl⟩, (absurd hfaulty ·), fun _ => rfl, (absurd · hn)⟩
    · rw [hb, or_comm]
      simp [hfaulty, hn]
    · intro (hx : b = false) hz
      exact absurd (hb.2 (.inl hz)) (by simp [hx])
  · have hk := zoneClass_faultKind_of_sound hfaulty
    by_cases hnf : (20 ≤ current ∧ current < 120) ∧ z.fault = true
    · obtain ⟨hn, hz⟩ := hnf
      have hcls := zoneClass_normal.2 hn
      by_cases hc : ∃ t, z.normalRun = some t ∧ t + 1000 ≤ now
      · rw [faultStep_cleared hcls hz hc]
        simp only [faultFollows, hfaulty, hn, hz, hc]; simp
      · rw [faultStep_clearing hcls hz hc]
        simp only [faultFollows, hfaulty, hn, hz, hc]; simp
    · rw [faultStep_sound hk fun hcls => Bool.eq_false_iff.2 fun hz => hnf ⟨zoneClass_normal.1 hcls, hz⟩]
      simp only [faultFollows, hfaulty]
      refine ⟨?_, by simp, ?_, by simp, by simp, by simp, by simp, ?_⟩
      · simp only [false_and, false_or]; tauto
      · intro hx hz; simp [hx] at hz
      · intro hn hz; exact absurd ⟨hn, hz⟩ hnf

/-- What a sample makes of the rest of a zone's record, from `z` to `z'` (R31, R32). -/
def alarmFollows (now verify : Time) (isolate : Bool) (current : Nat) (z z' : ZoneRec) : Prop :=
  let alarm : Prop := 120 ≤ current ∧ current < 400
  let completes : Prop := alarm ∧ completesAlarm now verify z.alarmRun
  z'.cls = some (zoneClass current) ∧
  (z'.latched = true ↔ z.latched = true ∨ (completes ∧ isolate = false)) ∧
  (z'.isolated = true ↔ alarm ∧
    (z.isolated = true ∨ (completes ∧ z.latched = false ∧ isolate = true))) ∧
  (alarm → ∃ d, z'.alarmRun = some { since := (z.alarmRun.map Run.since).getD now, done := d } ∧
    (d = true ↔ completes ∨ ∃ r, z.alarmRun = some r ∧ r.done = true)) ∧
  (¬ alarm → z'.alarmRun = none) ∧
  z'.lastReset = z.lastReset ∧ z'.sampleAt = now + 50

/-- The step of the fault writes the fault's fields alone. -/
theorem faultStep_alarm (now : Time) (cls : ZoneClass) (z : ZoneRec) :
    faultStep now cls z = { z with
      faultRun := (faultStep now cls z).faultRun, normalRun := (faultStep now cls z).normalRun,
      fault := (faultStep now cls z).fault, kind := (faultStep now cls z).kind } := by
  unfold faultStep; dsimp only; repeat' split
  all_goals rfl

/-- The record of a zone after the latch of a sample, before its fault is looked at (R31, R32). -/
def ZoneRec.latchTaken (now verify : Time) (isolate : Bool) (current : Nat) (z : ZoneRec) : ZoneRec :=
  let a := alarmStep now verify (zoneClass current) z.alarmRun
  latchStep (zoneClass current) a.2 isolate
    { z with cls := some (zoneClass current), alarmRun := a.1, sampleAt := now + Config.fieldPeriod }

/-- The latch of a sample leaves the fault's fields. -/
theorem ZoneRec.latchTaken_eq (now verify : Time) (isolate : Bool) (current : Nat) (z : ZoneRec) :
    z.latchTaken now verify isolate current = { z with
      cls := some (zoneClass current),
      alarmRun := (alarmStep now verify (zoneClass current) z.alarmRun).1,
      sampleAt := now + Config.fieldPeriod,
      latched := (z.latchTaken now verify isolate current).latched,
      isolated := (z.latchTaken now verify isolate current).isolated } :=
  latchStep_eq ..

theorem ZoneRec.sample_eq (now verify : Time) (isolate : Bool) (current : Nat) (z : ZoneRec) :
    z.sample now verify isolate current =
      faultStep now (zoneClass current) (z.latchTaken now verify isolate current) := rfl

theorem ZoneRec.latchTaken_alarmFollows (now verify : Time) (isolate : Bool) (current : Nat) (z : ZoneRec) :
    alarmFollows now verify isolate current z (z.latchTaken now verify isolate current) := by
  have hcomp : (alarmStep now verify (zoneClass current) z.alarmRun).2 = true ↔
      (120 ≤ current ∧ current < 400) ∧ completesAlarm now verify z.alarmRun := by
    rw [alarmStep_completes, zoneClass_alarm]
  have hrest := z.latchTaken_eq now verify isolate current
  have hrun : (z.latchTaken now verify isolate current).alarmRun =
      (alarmStep now verify (zoneClass current) z.alarmRun).1 := congrArg ZoneRec.alarmRun hrest
  refine ⟨congrArg ZoneRec.cls hrest, ?_, ?_, fun halarm => ?_, fun halarm => ?_,
    (congrArg ZoneRec.lastReset hrest).trans rfl, congrArg ZoneRec.sampleAt hrest⟩
  · rw [← hcomp]
    exact latchStep_latched fun hc => (alarmStep_completes.1 hc).1
  · rw [← hcomp, ← zoneClass_alarm]; exact latchStep_isolated
  · obtain ⟨d, hd, hdone⟩ := alarmStep_of_alarm (now := now) (verify := verify) z.alarmRun
    refine ⟨d, ?_, ?_⟩
    · rw [hrun, zoneClass_alarm.2 halarm, hd]
    · rw [hdone]; simp [halarm]
  · rw [hrun]; exact alarmStep_of_other _ fun hc => halarm (zoneClass_alarm.1 hc)

theorem ZoneRec.sample_alarmFollows (now verify : Time) (isolate : Bool) (current : Nat) (z : ZoneRec) :
    alarmFollows now verify isolate current z (z.sample now verify isolate current) := by
  rw [ZoneRec.sample_eq, faultStep_alarm]
  exact z.latchTaken_alarmFollows now verify isolate current

theorem ZoneRec.sample_faultFollows (now verify : Time) (isolate : Bool) (current : Nat) (z : ZoneRec) :
    faultFollows now current z (z.sample now verify isolate current) := by
  have h := faultStep_follows now current (z.latchTaken now verify isolate current)
  rw [ZoneRec.sample_eq]
  have hrest := z.latchTaken_eq now verify isolate current
  have hf : (z.latchTaken now verify isolate current).fault = z.fault := (congrArg ZoneRec.fault hrest).trans rfl
  have hk : (z.latchTaken now verify isolate current).kind = z.kind := (congrArg ZoneRec.kind hrest).trans rfl
  have hr : (z.latchTaken now verify isolate current).faultRun = z.faultRun :=
    (congrArg ZoneRec.faultRun hrest).trans rfl
  have hn : (z.latchTaken now verify isolate current).normalRun = z.normalRun :=
    (congrArg ZoneRec.normalRun hrest).trans rfl
  simpa only [faultFollows, hf, hk, hr, hn] using h

theorem sample_completes_iff (now verify : Time) (run : Option Run) :
    completesAlarm now verify run ↔ match run with
      | none => verify = 0
      | some r => r.done = false ∧ r.since + verify ≤ now := by cases run <;> exact Iff.rfl

/-- The node after a sample of a zone and the copies that the sequencer takes. -/
def zoneTaken (zone : Zone) (current : Nat) (n : Node) : Node := zonesCopied (zoneRead zone current n)

theorem zoneEvent_follows {zone : Zone} {current : Nat} {s : State} (hr : s.node.running = true)
    (h : ¬ crossZone (zoneTaken zone current s.node).hsq) :
    ∃ x, followsCauses (zoneTaken zone current s.node) (zoneTaken zone current s.node).hsq x ∧
      endsAs (.zoneSample zone current) s { zoneTaken zone current s.node with hsq := x } := by
  obtain ⟨x, hx, he⟩ := reeval_followsCauses h
  exact ⟨x, hx, endsAs_inRun (zoneEvent zone current) rfl hr (congrArg Node.bare he)⟩

theorem zoneEvent_confirms {zone : Zone} {current : Nat} {s : State} (hr : s.node.running = true)
    (h : crossZone (zoneTaken zone current s.node).hsq) :
    endsIn (.zoneSample zone current) s (zoneTaken zone current s.node) (fun u =>
      u.hsq.cause = .crossZone ∧ u.hsq.degraded = none ∧ u.flag .confirmed = true) := by
  refine endsIn_inRun (zoneEvent zone current) rfl hr (frame_of_still (reeval_still _)) ?_
  simp only [finish_hsq, Node.flag, finish_svp]
  exact reeval_confirms h

/-- Settles O5: the record by the rules of its sample, the sequencer by `reeval`. -/
theorem zoneSampleClassifiesLatchesAndFaults : Obligations.ZoneSampleClassifiesLatchesAndFaults := by
  intro s zone current hr
  have hfollows := zoneEvent_follows (zone := zone) (current := current) hr
  have hconfirms := zoneEvent_confirms (zone := zone) (current := current) hr
  have hiso : s.node.isolate = true ↔ s.node.fiu.key.delivered = .isolate := Node.isolate_iff
  have hnorm : s.node.isolate = false ↔ s.node.fiu.key.delivered = .normal := Node.not_isolate_iff
  cases zone with
  | a =>
    obtain ⟨hcls, hlat, hisol, hrun, hrun', hreset, hat⟩ :=
      s.node.fiu.zoneA.sample_alarmFollows s.node.now s.node.cfg.verifyA s.node.isolate current
    obtain ⟨hf, hk, hk', hk'', hfr, hfr', hnr, hnr'⟩ :=
      s.node.fiu.zoneA.sample_faultFollows s.node.now s.node.cfg.verifyA s.node.isolate current
    rw [hnorm] at hlat; rw [hiso] at hisol
    simp only [sample_completes_iff] at hlat hisol hrun
    exact ⟨_, hcls, hlat, hisol, hf, hk, hk', hk'', hrun, hrun', hfr, hfr', hnr, hnr', hreset, hat,
      hfollows, hconfirms⟩
  | b =>
    obtain ⟨hcls, hlat, hisol, hrun, hrun', hreset, hat⟩ :=
      s.node.fiu.zoneB.sample_alarmFollows s.node.now s.node.cfg.verifyB s.node.isolate current
    obtain ⟨hf, hk, hk', hk'', hfr, hfr', hnr, hnr'⟩ :=
      s.node.fiu.zoneB.sample_faultFollows s.node.now s.node.cfg.verifyB s.node.isolate current
    rw [hnorm] at hlat; rw [hiso] at hisol
    simp only [sample_completes_iff] at hlat hisol hrun
    exact ⟨_, hcls, hlat, hisol, hf, hk, hk', hk'', hrun, hrun', hfr, hfr', hnr, hnr', hreset, hat,
      hfollows, hconfirms⟩

end Sys2Proof.Machine

/-! # The port's commands -/

namespace Sys2Proof.Machine

/-- The port takes a data byte at the command code's index. -/
structure State.atCommand (s : State) : Prop where
  free : s.node.held = false
  addressed : s.node.svp.transaction = .addressedWrite
  indexTaken : s.node.svp.expectIndex = false
  acknowledged : s.node.svp.nacked = false
  here : s.node.svp.index = 0xB5

theorem State.atCommand.takes {s : State} (h : s.atCommand) :
    (s.node.takesData && atCode s.node.svp) = true := by
  simp [Node.takesData, atCode, h.free, h.addressed, h.indexTaken, h.acknowledged, h.here]

theorem State.atCommand.endsAs {s : State} (h : s.atCommand) {c : Instr} {f : Node → Node} {n : Node}
    (hc : exec c s = onByte atCode f s) (hn : (f s.node).bare = n.bare) : endsAs c s n :=
  ⟨_, hc.trans (if_pos h.takes), rfl, rfl, (finish_bare _ _).trans hn⟩

theorem State.atCommand.endsIn {s : State} (h : s.atCommand) {c : Instr} {f : Node → Node} {n : Node}
    {p : Node → Prop} (hc : exec c s = onByte atCode f s) (hn : (f s.node).frame = n.frame)
    (hp : p (finish s.node (f s.node))) : endsIn c s n p :=
  ⟨_, hc.trans (if_pos h.takes), rfl, rfl, (finish_frame _ _).trans hn, hp⟩

/-- The port's record once a command code is taken at its index, with the first answer. -/
def Svp.answered (cmd : Command) (r : CmdResult) (v : Svp) : Svp :=
  { v with index := 0xB6, code := BitVec.ofNat 8 (commandCode cmd), command := cmd,
           count := (v.count + 1) % 256, result := r }

theorem codeTaken_eq {v : Svp} (h : v.index = 0xB5) (cmd : Command) (r : CmdResult) :
    codeTaken cmd r v = v.answered cmd r := by
  simp [codeTaken, taken, step1, nextIndex, h, Svp.answered]

theorem modSvp_codeTaken {n : Node} (h : n.svp.index = 0xB5) (cmd : Command) (r : CmdResult) :
    n.modSvp (codeTaken cmd r) = { n with svp := n.svp.answered cmd r } := by
  unfold Node.modSvp; rw [codeTaken_eq h]

/-! ## ALARM RESET -/

/-- A zone of an ALARM RESET whose latest sample is not NORMAL, so that the reset is refused. -/
def ZoneRec.keepsAlarm (z : ZoneRec) : Prop := z.latched = true ∧ z.cls ≠ some .normal

theorem ZoneRec.alarmReset_refused {z : ZoneRec} : z.alarmReset.lastReset = .refused ↔ z.keepsAlarm := by
  unfold ZoneRec.alarmReset ZoneRec.keepsAlarm
  repeat' split
  all_goals simp [*]

/-- What an ALARM RESET makes of a zone's record, by whether it names the zone (R35). -/
def resetFollows (z : ZoneRec) (named : Prop) (z' : ZoneRec) : Prop :=
  (¬ named → z' = z) ∧
  (named → z.latched = false → z' = { z with lastReset := .notLatched }) ∧
  (named → z.latched = true → z.cls = some .normal → z' = { z with latched := false, lastReset := .cleared }) ∧
  (named → z.latched = true → z.cls ≠ some .normal → z' = { z with lastReset := .refused })

theorem resetFollows_alarmReset (z : ZoneRec) (named : Prop) [Decidable named] :
    resetFollows z named (if named then z.alarmReset else z) := by
  refine ⟨fun h => if_neg h, fun h hl => ?_, fun h hl hc => ?_, fun h hl hc => ?_⟩
  all_goals rw [if_pos h]; simp [ZoneRec.alarmReset, *]

/-- The record of zone A, and of zone B, after an ALARM RESET with its parameter. -/
def Node.resetA (n : Node) : ZoneRec :=
  if n.svp.param.toNat ≠ 2 then n.fiu.zoneA.alarmReset else n.fiu.zoneA
def Node.resetB (n : Node) : ZoneRec :=
  if n.svp.param.toNat ≠ 1 then n.fiu.zoneB.alarmReset else n.fiu.zoneB

/-- Some zone that the ALARM RESET names keeps its alarm. -/
def Node.resetRefused (n : Node) : Prop :=
  (n.svp.param.toNat ≠ 2 ∧ n.fiu.zoneA.keepsAlarm) ∨ (n.svp.param.toNat ≠ 1 ∧ n.fiu.zoneB.keepsAlarm)

/-- The result of an ALARM RESET of named zones (R178). -/
def Node.resetResult (n : Node) : CmdResult :=
  if (n.svp.param.toNat ≠ 2 ∧ n.resetA.lastReset = .refused) ∨
    (n.svp.param.toNat ≠ 1 ∧ n.resetB.lastReset = .refused) then .refused else .done

theorem Node.resetResult_refused {n : Node} : n.resetResult = .refused ↔ n.resetRefused := by
  have ha : n.svp.param.toNat ≠ 2 ∧ n.resetA.lastReset = .refused ↔
      n.svp.param.toNat ≠ 2 ∧ n.fiu.zoneA.keepsAlarm :=
    and_congr_right fun h => by rw [Node.resetA, if_pos h, ZoneRec.alarmReset_refused]
  have hb : n.svp.param.toNat ≠ 1 ∧ n.resetB.lastReset = .refused ↔
      n.svp.param.toNat ≠ 1 ∧ n.fiu.zoneB.keepsAlarm :=
    and_congr_right fun h => by rw [Node.resetB, if_pos h, ZoneRec.alarmReset_refused]
  rw [Node.resetResult, ite_eq_left_iff, ha, hb]
  change (¬ n.resetRefused → _) ↔ n.resetRefused
  simp

/-- The node after an ALARM RESET of named zones, before the sequencer acts on it. -/
def resetTaken (n : Node) : Node :=
  { n with fiu.zoneA := n.resetA, fiu.zoneB := n.resetB, svp := n.svp.answered .alarmReset n.resetResult }

theorem alarmResetCommand_named {n : Node} (hr : n.running = true) (hi : n.svp.index = 0xB5)
    (hp : 1 ≤ n.svp.param.toNat) (hp' : n.svp.param.toNat ≤ 3) :
    alarmResetCommand n = reeval (zonesCopied (resetTaken n)) := by
  have h123 : n.svp.param.toNat = 1 ∨ n.svp.param.toNat = 2 ∨ n.svp.param.toNat = 3 := by omega
  refine ((if_pos hr).trans (if_pos h123)).trans ?_
  change refreshZones (Node.modSvp { n with fiu.zoneA := n.resetA, fiu.zoneB := n.resetB }
    (codeTaken .alarmReset n.resetResult)) = _
  unfold Node.modSvp; dsimp only
  rw [codeTaken_eq hi]; rfl

theorem alarmResetCommand_unnamed {n : Node} (hr : n.running = true) (hi : n.svp.index = 0xB5)
    (hp : n.svp.param.toNat = 0 ∨ 3 < n.svp.param.toNat) :
    alarmResetCommand n = { n with svp := n.svp.answered .alarmReset .refused } :=
  ((if_pos hr).trans (if_neg (by omega))).trans (modSvp_codeTaken hi _ _)

theorem alarmReset_follows {s : State} (h : s.atCommand) (hr : s.node.running = true)
    (hp : 1 ≤ s.node.svp.param.toNat) (hp' : s.node.svp.param.toNat ≤ 3)
    (hc : ¬ crossZone (zonesCopied (resetTaken s.node)).hsq) :
    ∃ x, followsCauses s.node (zonesCopied (resetTaken s.node)).hsq x ∧
      endsAs .alarmReset s { resetTaken s.node with hsq := x } := by
  obtain ⟨x, hx, he⟩ := reeval_followsCauses hc
  refine ⟨x, hx, h.endsAs (f := alarmResetCommand) rfl ?_⟩
  rw [alarmResetCommand_named hr h.here hp hp', he]; rfl

theorem alarmReset_confirms {s : State} (h : s.atCommand) (hr : s.node.running = true)
    (hp : 1 ≤ s.node.svp.param.toNat) (hp' : s.node.svp.param.toNat ≤ 3)
    (hc : crossZone (zonesCopied (resetTaken s.node)).hsq) :
    endsIn .alarmReset s (zonesCopied (resetTaken s.node)) (fun u =>
      u.hsq.cause = .crossZone ∧ u.hsq.degraded = none ∧ u.flag .confirmed = true) := by
  have he := alarmResetCommand_named hr h.here hp hp'
  refine h.endsIn (f := alarmResetCommand) rfl ?_ ?_
  · rw [he]; exact frame_of_still (reeval_still _)
  · simp only [finish_hsq, Node.flag, finish_svp, he]
    exact reeval_confirms hc

/-! ## CLEAR RELEASE -/

theorem clearReleaseCommand_refused {n : Node} (hr : n.running = true) (hi : n.svp.index = 0xB5)
    (h : n.fiu.key.delivered = .normal ∨ n.hsq.hall ≠ .spent) :
    clearReleaseCommand n = { n with svp := n.svp.answered .clearRelease .refused } := by
  refine ((if_neg (by simp [hr])).trans (if_pos ?_)).trans (modSvp_codeTaken hi _ _)
  rwa [Node.not_isolate_iff]

theorem clearReleaseCommand_busy {n : Node} (hr : n.running = true) (hi : n.svp.index = 0xB5)
    (hk : n.fiu.key.delivered = .isolate) (hh : n.hsq.hall = .spent) (hb : n.cfs.busy ≠ none) :
    clearReleaseCommand n = { n with svp := n.svp.answered .clearRelease .busy } := by
  refine ((if_neg (by simp [hr])).trans ((if_neg ?_).trans (if_pos ?_))).trans (modSvp_codeTaken hi _ _)
  · simp [Node.isolate, hk, hh]
  · simpa [Node.storeIdle, Option.isSome_iff_ne_none] using hb

theorem clearReleaseCommand_accepted {n : Node} (hr : n.running = true)
    (hk : n.fiu.key.delivered = .isolate) (hh : n.hsq.hall = .spent) (hb : n.cfs.busy = none) :
    clearReleaseCommand n = startWrite 12 .erase (releaseData 0 0 0 0 0)
      (n.modSvp (fun v => awaitStore (codeTaken .clearRelease .accepted v))) := by
  refine (if_neg (by simp [hr])).trans ((if_neg ?_).trans (if_neg ?_))
  · simp [Node.isolate, hk, hh]
  · simp [Node.storeIdle, hb]

theorem releaseData_erased : releaseData 0 0 0 0 0 = Vector.replicate 14 0 := by decide

/-! ## Outside RUN, and the RESTART -/

theorem restart_busy {s : State} (h : s.atCommand) (straps : NodeId)
    (hb : (s.node.running && s.node.storeIdle) = false) :
    endsAs (.restart straps) s { s.node with svp := s.node.svp.answered .restart .busy } := by
  refine ⟨_, (if_pos h.takes).trans (if_neg (by simp [hb])), rfl, rfl, ?_⟩
  exact (finish_bare _ _).trans (congrArg Node.bare (modSvp_codeTaken h.here _ _))

/-- Settles O59: each command by the case of its phase, key, hall and store; an ALARM RESET of named zones
acts on the sequencer as a sample does. -/
theorem portCommandsAreJudged : Obligations.PortCommandsAreJudged := by
  intro s hfree haddr hidx hack hhere
  have h : s.atCommand := ⟨hfree, haddr, hidx, hack, hhere⟩
  refine ⟨?snap, fun hr => ⟨?alarmBusy, ?clearBusy, fun straps => ?restartBusy⟩,
    fun hr => ⟨fun hp => ?unnamed, fun hp hp' => ?named, fun hk => ?clearRefused,
      fun hk hh hb => ?clearWait, fun hk hh hb => ?cleared, fun hb straps => ?restartWait⟩⟩
  case snap =>
    refine (if_pos h.takes).trans ?_
    rw [modSvp_codeTaken hhere]; rfl
  case alarmBusy =>
    exact h.endsAs (f := alarmResetCommand) rfl
      (congrArg Node.bare ((if_neg (by simp [hr])).trans (modSvp_codeTaken hhere _ _)))
  case clearBusy =>
    exact h.endsAs (f := clearReleaseCommand) rfl
      (congrArg Node.bare ((if_pos (by simp [hr])).trans (modSvp_codeTaken hhere _ _)))
  case restartBusy => exact restart_busy h straps (by simp [hr])
  case unnamed =>
    exact h.endsAs (f := alarmResetCommand) rfl (congrArg Node.bare (alarmResetCommand_unnamed hr hhere hp))
  case named =>
    refine ⟨s.node.resetA, s.node.resetB, s.node.resetResult, resetFollows_alarmReset _ _,
      resetFollows_alarmReset _ _, ?_, Node.resetResult_refused,
      alarmReset_follows h hr hp hp', alarmReset_confirms h hr hp hp'⟩
    unfold Node.resetResult; split <;> simp
  case clearRefused =>
    exact h.endsAs (f := clearReleaseCommand) rfl
      (congrArg Node.bare (clearReleaseCommand_refused hr hhere hk))
  case clearWait =>
    exact h.endsAs (f := clearReleaseCommand) rfl
      (congrArg Node.bare (clearReleaseCommand_busy hr hhere hk hh hb))
  case cleared =>
    refine h.endsAs (f := clearReleaseCommand) rfl (congrArg Node.bare ?_)
    rw [clearReleaseCommand_accepted hr hk hh hb, releaseData_erased, Node.modSvp, codeTaken_eq hhere]
    rfl
  case restartWait => exact restart_busy h straps (by simp [Node.storeIdle, Option.isSome_iff_ne_none, hb])

end Sys2Proof.Machine

/-! # The confirmation of a release

What an entry to COUNTDOWN with time to run leaves: the sequencer's record, the plan, and the reserve record
with its BID. -/

namespace Sys2Proof.Machine

/-! ## The selector's CLOSE, and the BID -/

/-- The CLOSE command writes the selector alone. -/
theorem selClose_eq (n : Node) : selClose n = { n with vcu.selector := (selClose n).vcu.selector } := by
  unfold selClose; split <;> rfl

theorem selClose_selector (n : Node) : (selClose n).vcu.selector =
    if n.vcu.selector.state = .opening ∨ n.vcu.selector.state = .opened then
      { n.vcu.selector with state := .closing, drive := .driveClose,
                            travel := some (n.now + 1000 * n.cfg.selectorTime) }
    else n.vcu.selector := by
  unfold selClose; split
  next h => rw [if_pos (.inl h)]; rfl
  next h => rw [if_pos (.inr h)]; rfl
  all_goals next h => rw [if_neg (by simp [h])]

theorem selClose_jammed (n : Node) :
    (selClose n).vcu.selector.state = .jammed ↔ n.vcu.selector.state = .jammed := by
  rw [selClose_selector]; split
  next h => rcases h with h | h <;> simp [h]
  next h => exact Iff.rfl

theorem Node.holderReachable_iff {n : Node} : n.holderReachable = true ↔
    ∃ h, n.cfg.holder = some h ∧ (n.peer h).present = true ∧ (n.peer h).holderPart ≠ none := by
  unfold Node.holderReachable
  cases n.cfg.holder with
  | none => simp
  | some h => simp [Option.isSome_iff_ne_none]

theorem Node.bidAllowed_iff {n : Node} : n.bidAllowed = true ↔ bidCanBePlaced n := by
  unfold Node.bidAllowed bidCanBePlaced
  simp only [Bool.and_eq_true, decide_eq_true_eq, Node.holderReachable_iff]
  tauto

/-- The BID that waits after a count was handed over with the link not LOST. -/
def Node.bidFor (n : Node) (h : NodeId) : BidContent := { holder := h, wanted := n.rcl.n, cls := n.cfg.cls }

theorem queueBid_eq {n : Node} (b : BidContent) (hl : n.lkc.link ≠ .lost) :
    queueBid b n = { n with lkc.outbox.bid := some b } := if_neg (by simp [Node.refusesFrames, hl])

theorem sendBid_of_holder {n : Node} {h : NodeId} (hh : n.cfg.holder = some h) :
    sendBid n = queueBid (n.bidFor h) { n with rcl.bid := .queued, rcl.rebid := false } := by
  unfold sendBid; rw [hh]; rfl

theorem sendBid_of_joined {n : Node} {h : NodeId} (hh : n.cfg.holder = some h)
    (hl : n.lkc.link ≠ .lost) :
    sendBid n = { n with rcl.bid := .queued, rcl.rebid := false,
                         lkc.outbox.bid := some (n.bidFor h) } :=
  (sendBid_of_holder hh).trans (queueBid_eq _ hl)

theorem placeOrHold_held {n : Node} (h : ¬ bidCanBePlaced n) : placeOrHold n = { n with rcl.bid := .held } :=
  if_neg (by rwa [Node.bidAllowed_iff])

theorem placeOrHold_placed {n : Node} (h : bidCanBePlaced n) : placeOrHold n = sendBid n :=
  if_pos (Node.bidAllowed_iff.2 h)

theorem placeOrHold_vcu (n : Node) : (placeOrHold n).vcu = n.vcu := by
  unfold placeOrHold sendBid queueBid
  repeat' split
  all_goals rfl

/-! ## RCL at the entry to COUNTDOWN -/

/-- The node once the reserve record starts afresh with a count wanted, its pending CLOSE commanded. -/
def rclRestarted (k : Nat) (n : Node) : Node :=
  { (if n.rcl.closePending then selClose n else n) with rcl := { Rcl.start with n := k } }

theorem rclCountdown_zero {n : Node} (h : n.apl.nRes = 0) : rclCountdown n = rclRestarted 0 n := by
  have h' : (if n.rcl.closePending then selClose n else n).apl.nRes = 0 := by
    split
    · rw [selClose_eq]; exact h
    · exact h
  exact if_pos h'

theorem rclCountdown_pos {n : Node} (h : 0 < n.apl.nRes) :
    rclCountdown n = placeOrHold (rclRestarted n.apl.nRes n) := by
  have h' : (if n.rcl.closePending then selClose n else n).apl.nRes = n.apl.nRes := by
    split
    · rw [selClose_eq]
    · rfl
  refine (if_neg ?_).trans ?_
  · rw [h']; omega
  · unfold rclRestarted; rw [h']

/-- The restart of the reserve record writes it and the selector. -/
theorem rclRestarted_eq (k : Nat) (n : Node) :
    rclRestarted k n = { n with rcl := { Rcl.start with n := k },
                                vcu.selector := (rclRestarted k n).vcu.selector } := by
  unfold rclRestarted; split
  · rw [selClose_eq]
  · rfl

theorem rclRestarted_selector (k : Nat) (n : Node) : (rclRestarted k n).vcu.selector =
    if n.rcl.closePending = true ∧
        (n.vcu.selector.state = .opening ∨ n.vcu.selector.state = .opened) then
      { n.vcu.selector with state := .closing, drive := .driveClose,
                            travel := some (n.now + 1000 * n.cfg.selectorTime) }
    else n.vcu.selector := by
  unfold rclRestarted
  cases n.rcl.closePending
  · rfl
  · simpa using selClose_selector n

theorem rclRestarted_canBePlaced (k : Nat) (n : Node) :
    bidCanBePlaced (rclRestarted k n) ↔ bidCanBePlaced n := by
  have hjam : (rclRestarted k n).vcu.selector.state ≠ .jammed ↔ n.vcu.selector.state ≠ .jammed := by
    unfold rclRestarted; split
    · exact not_congr (selClose_jammed n)
    · exact Iff.rfl
  rw [rclRestarted_eq] at hjam ⊢
  exact and_congr_right fun _ => and_congr_left fun _ => hjam

/-- The entry to COUNTDOWN at RCL writes its record, the selector and the waiting BID. -/
theorem rclCountdown_eq (n : Node) : rclCountdown n = { n with
    rcl := (rclCountdown n).rcl, vcu.selector := (rclCountdown n).vcu.selector,
    lkc.outbox.bid := (rclCountdown n).lkc.outbox.bid } := by
  rcases Nat.eq_zero_or_pos n.apl.nRes with h | h
  · rw [rclCountdown_zero h, rclRestarted_eq]
  · rw [rclCountdown_pos h, rclRestarted_eq]
    unfold placeOrHold sendBid queueBid
    repeat' split
    all_goals rfl

theorem rclCountdown_afresh (n : Node) : reserveStartsAfresh n (rclCountdown n) := by
  have hk : (rclCountdown n).apl.nRes = n.apl.nRes := by rw [rclCountdown_eq]
  unfold reserveStartsAfresh; dsimp only
  rw [hk, ← rclRestarted_selector n.apl.nRes n]
  refine ⟨fun h => ?none, fun h hp => ?placed, fun h hp => ?held, ?selector⟩
  case none => rw [rclCountdown_zero h, rclRestarted_eq]; exact ⟨rfl, rfl⟩
  case placed =>
    have hp' := (rclRestarted_canBePlaced n.apl.nRes n).2 hp
    rw [rclCountdown_pos h, placeOrHold_placed hp']
    obtain ⟨hjoined, -, x, hx, -⟩ := hp'
    rw [sendBid_of_joined hx (by simp [hjoined])]
    refine ⟨by rw [rclRestarted_eq]; rfl, fun y hy => ?_⟩
    have hxy : x = y := Option.some.inj (hx.symm.trans hy)
    rw [hxy, rclRestarted_eq]; rfl
  case held =>
    rw [rclCountdown_pos h, placeOrHold_held (by rwa [rclRestarted_canBePlaced]), rclRestarted_eq]
    exact ⟨rfl, rfl⟩
  case selector =>
    rcases Nat.eq_zero_or_pos n.apl.nRes with h | h
    · rw [rclCountdown_zero h, h]
    · rw [rclCountdown_pos h, placeOrHold_vcu]

/-- A reserve record that starts afresh is read from these fields of the node. -/
theorem reserveStartsAfresh_congr {n t u : Node} (h : reserveStartsAfresh n t) (hapl : u.apl = t.apl)
    (hrcl : u.rcl = t.rcl) (hbid : u.lkc.outbox.bid = t.lkc.outbox.bid)
    (hsel : u.vcu.selector = t.vcu.selector) (hcfs : u.cfs = t.cfs) : reserveStartsAfresh n u := by
  have hw : ∀ k, bidWaits k u ↔ bidWaits k t := fun k => by
    unfold bidWaits Node.cfg; rw [hcfs, hbid]
  unfold reserveStartsAfresh at h ⊢
  rw [hapl, hrcl, hbid, hsel]; simpa only [hw] using h

/-! ## The plan -/

/-- The groups filled in from the READY HALL channels are those of the plan's rules. -/
theorem planCounts_planned (n : Node) (a : Apl) :
    groupsPlanned n (planCounts n.cfg n.readyHall.length a) := by
  unfold groupsPlanned; dsimp only
  have hready : n.readyHall.length = (allChans.filter (fun d =>
      (n.chan d).role = .hall ∧ (n.chan d).state = .ready)).length := by
    simp [Node.readyHall, Node.chansWith, Bool.decide_and]
  refine ⟨hready, rfl, fun h => ?_, fun h hh => ?_, fun h hh => ?_, rfl⟩
  all_goals simp only [planCounts, reserveGroups] at h ⊢
  · rw [if_pos (by omega)]; exact ⟨rfl, rfl⟩
  · rw [if_neg (by omega)]
    cases hc : n.cfg.holder with
    | none => exact absurd hc hh
    | some x => exact ⟨rfl, rfl⟩
  · rw [if_neg (by omega), hh]; exact ⟨rfl, rfl⟩

/-! ## The countdown entered -/

theorem aplPlan_eq (n : Node) :
    aplPlan n = { n with apl := (aplPlan n).apl, svp := (aplPlan n).svp } := by
  unfold aplPlan Node.setFlagIf; dsimp only; split <;> rfl

theorem epoTest_eq (n : Node) :
    epoTest n = { n with hsq.epoReached := (epoTest n).hsq.epoReached } := by
  unfold epoTest; split <;> rfl

theorem countdownBegun_normal {cause : Cause} {left : Nat} {n : Node} (h : n.hsq.mode = .normal) :
    countdownBegun cause left n = rclCountdown (aplPlan (startCountdown cause left n)) :=
  if_pos (Node.normal_iff.2 h)

theorem countdownBegun_fallback {cause : Cause} {left : Nat} {n : Node} (h : n.hsq.mode = .fallback) :
    countdownBegun cause left n = startCountdown cause left n :=
  if_neg (by simp [Node.normal, startCountdown, h])

/-- The plan and the bid leave the sequencer's record, the inputs, the clock and the store. -/
theorem countdownBegun_eq (cause : Cause) (left : Nat) (n : Node) :
    countdownBegun cause left n = { startCountdown cause left n with
      apl := (countdownBegun cause left n).apl, rcl := (countdownBegun cause left n).rcl,
      vcu.selector := (countdownBegun cause left n).vcu.selector,
      lkc.outbox.bid := (countdownBegun cause left n).lkc.outbox.bid,
      svp := (countdownBegun cause left n).svp } := by
  cases h : n.hsq.mode with
  | normal => rw [countdownBegun_normal h, rclCountdown_eq, aplPlan_eq]
  | fallback => rw [countdownBegun_fallback h]

/-- With the hold switch OPERATED and the override clear the countdown goes on to HOLD (R14). -/
def heldAtEntry (cause : Cause) (n : Node) : Prop :=
  n.fiu.hold.delivered = .operated ∧ n.hsq.manualOverride = false ∧ cause ≠ .manual

theorem countdownEntered_of_released {cause : Cause} {left : Nat} {n : Node}
    (h : n.fiu.hold.delivered = .released) :
    countdownEntered cause left n = epoTest (countdownBegun cause left n) := by
  refine if_neg ?_
  rw [epoTest_eq, countdownBegun_eq]
  simp [startCountdown, h]

theorem countdownEntered_of_operated {cause : Cause} {left : Nat} {n : Node}
    (h : n.fiu.hold.delivered = .operated) :
    countdownEntered cause left n = holdOperated (epoTest (countdownBegun cause left n)) := by
  refine if_pos ?_
  rw [epoTest_eq, countdownBegun_eq]
  simp [startCountdown, h]

theorem holdOperated_overridden {n : Node} (h : n.hsq.hall = .countdown)
    (ho : n.hsq.manualOverride = true) : holdOperated n = n.setFlag .holdIgnored := by
  unfold holdOperated; rw [h]; exact if_pos ho

theorem holdOperated_holds {n : Node} (h : n.hsq.hall = .countdown)
    (ho : n.hsq.manualOverride = false) :
    holdOperated n = { n with hsq.hall := .hold, hsq.countdown := .held n.remaining } := by
  unfold holdOperated; rw [h]; exact if_neg (by simp [ho])

/-- The sequencer's record before the hold switch is looked at. -/
theorem epoTest_begun_hsq (cause : Cause) (left : Nat) (n : Node) :
    let m := epoTest (countdownBegun cause left n)
    m.hsq = { (startCountdown cause left n).hsq with epoReached := m.hsq.epoReached } := by
  dsimp only
  rw [epoTest_eq, countdownBegun_eq]

theorem epoTest_begun_remaining (cause : Cause) (left : Nat) (n : Node) :
    (epoTest (countdownBegun cause left n)).remaining = left := by
  rw [epoTest_eq, countdownBegun_eq]
  exact Nat.add_sub_cancel_left ..

/-- The entry to COUNTDOWN once the hold switch has been looked at, by the switch and the override. -/
theorem countdownEntered_cases (cause : Cause) (left : Nat) (n : Node) :
    let m := epoTest (countdownBegun cause left n)
    let t := countdownEntered cause left n
    (heldAtEntry cause n → t = { m with hsq.hall := .hold, hsq.countdown := .held left }) ∧
    (¬ heldAtEntry cause n → n.fiu.hold.delivered = .operated → t = m.setFlag .holdIgnored) ∧
    (n.fiu.hold.delivered = .released → t = m) := by
  have hh := congrArg Hsq.hall (epoTest_begun_hsq cause left n)
  have ho := congrArg Hsq.manualOverride (epoTest_begun_hsq cause left n)
  refine ⟨fun hheld => ?_, fun hheld hop => ?_, fun hrel => countdownEntered_of_released hrel⟩
  · obtain ⟨hop, hov, hc⟩ := hheld
    rw [countdownEntered_of_operated hop, holdOperated_holds hh (by rw [ho]; simp [startCountdown, hov, hc]),
      epoTest_begun_remaining]
  · rw [countdownEntered_of_operated hop, holdOperated_overridden hh]
    rw [ho]
    by_cases hc : cause = .manual
    · simp [startCountdown, hc]
    · have : n.hsq.manualOverride ≠ false := fun hov => hheld ⟨hop, hov, hc⟩
      simpa [startCountdown, hc] using this

/-- What an entry to COUNTDOWN from `n` with `left` ms to run leaves in `t`. -/
structure enteredAs (c : Cause) (left : Nat) (n t : Node) : Prop where
  held : heldAtEntry c n → t.hsq.hall = .hold
  runs : ¬ heldAtEntry c n → t.hsq.hall = .countdown
  remaining : t.remaining = left
  cause : t.hsq.cause = c
  override : t.hsq.manualOverride = (n.hsq.manualOverride || decide (c = .manual))
  degraded : t.hsq.degraded = none
  firing : t.hsq.firing = []
  phase : t.hsq.reservePhase = .none
  fiu : t.fiu = n.fiu
  cfs : t.cfs = n.cfs
  apl : t.apl = (countdownBegun c left n).apl
  rcl : t.rcl = (countdownBegun c left n).rcl
  vcu : t.vcu = (countdownBegun c left n).vcu
  bid : t.lkc.outbox.bid = (countdownBegun c left n).lkc.outbox.bid
  raised : (countdownBegun c left n).raisedIn t
  ignored : ¬ heldAtEntry c n → n.fiu.hold.delivered = .operated → t.flag .holdIgnored = true

/-- The hold switch moves the hall and its countdown, and sets a flag, and no more. -/
theorem enteredAs_of {c : Cause} {left : Nat} {n t : Node} {hall : HallState} {cd : Countdown} {v : Svp}
    (ht : t = { epoTest (countdownBegun c left n) with hsq.hall := hall, hsq.countdown := cd, svp := v })
    (hheld : heldAtEntry c n → hall = .hold) (hruns : ¬ heldAtEntry c n → hall = .countdown)
    (hremaining : t.remaining = left) (hraised : (countdownBegun c left n).raisedIn t)
    (hignored : ¬ heldAtEntry c n → n.fiu.hold.delivered = .operated → t.flag .holdIgnored = true) :
    enteredAs c left n t := by
  have hsq := epoTest_begun_hsq c left n
  have hfiu : (epoTest (countdownBegun c left n)).fiu = n.fiu := by rw [epoTest_eq, countdownBegun_eq]; rfl
  have hcfs : (epoTest (countdownBegun c left n)).cfs = n.cfs := by rw [epoTest_eq, countdownBegun_eq]; rfl
  have hepo := epoTest_eq (countdownBegun c left n)
  subst ht
  exact {
    held := hheld, runs := hruns, remaining := hremaining
    cause := congrArg Hsq.cause hsq, override := congrArg Hsq.manualOverride hsq
    degraded := congrArg Hsq.degraded hsq, firing := congrArg Hsq.firing hsq
    phase := congrArg Hsq.reservePhase hsq, fiu := hfiu, cfs := hcfs
    apl := congrArg (fun m => m.apl) hepo, rcl := congrArg (fun m => m.rcl) hepo
    vcu := congrArg (fun m => m.vcu) hepo, bid := congrArg (fun m => m.lkc.outbox.bid) hepo
    raised := hraised, ignored := hignored }

theorem epoTest_begun_raises (c : Cause) (left : Nat) (n : Node) :
    (countdownBegun c left n).raisedIn (epoTest (countdownBegun c left n)) :=
  Node.raisedIn_of_svp (epoTest_svp _)

theorem countdownEntered_enteredAs (c : Cause) (left : Nat) (n : Node) :
    enteredAs c left n (countdownEntered c left n) := by
  obtain ⟨hheld, hignored, hreleased⟩ := countdownEntered_cases c left n
  have hhall : (epoTest (countdownBegun c left n)).hsq.hall = .countdown :=
    congrArg Hsq.hall (epoTest_begun_hsq c left n)
  have hleft := epoTest_begun_remaining c left n
  have hraised := epoTest_begun_raises c left n
  by_cases h : heldAtEntry c n
  · rw [hheld h]
    exact enteredAs_of rfl (fun _ => rfl) (absurd h) rfl hraised (absurd h)
  · cases hop : n.fiu.hold.delivered with
    | operated =>
      rw [hignored h hop]
      exact enteredAs_of rfl (absurd · h) (fun _ => hhall) hleft
        (Node.raisedIn_trans hraised (Node.raisedIn_setFlag _ _)) fun _ _ => Node.flag_setFlag_same _ _
    | released =>
      rw [hreleased hop]
      exact enteredAs_of rfl (absurd · h) (fun _ => hhall) hleft hraised fun _ hx => by simp [hop] at hx

theorem expireIfDone_of_left {n : Node} (h : 0 < n.remaining) : expireIfDone n = n :=
  if_neg fun hx => by omega

theorem enterCountdown_enteredAs {c : Cause} {left : Nat} (n : Node) (h : 0 < left) :
    enteredAs c left n (enterCountdown c left n) := by
  have he := countdownEntered_enteredAs c left n
  rw [enterCountdown_eq, expireIfDone_of_left (by rw [he.remaining]; exact h)]
  exact he

end Sys2Proof.Machine

/-! # The events that confirm, and the manual release -/

namespace Sys2Proof.Machine

theorem countdownBegun_afresh {c : Cause} {left : Nat} {n : Node} (h : n.hsq.mode = .normal) :
    reserveStartsAfresh n (countdownBegun c left n) := by
  obtain ⟨a, v, he⟩ : ∃ a v, aplPlan (startCountdown c left n) =
      { startCountdown c left n with apl := a, svp := v } := ⟨_, _, aplPlan_eq _⟩
  rw [countdownBegun_normal h]
  have hfresh := rclCountdown_afresh (aplPlan (startCountdown c left n))
  rw [he] at hfresh ⊢
  exact hfresh

theorem countdownBegun_apl {c : Cause} {left : Nat} {n : Node} (h : n.hsq.mode = .normal) :
    (countdownBegun c left n).apl = (aplPlan (startCountdown c left n)).apl := by
  rw [countdownBegun_normal h, rclCountdown_eq]

theorem countdownBegun_fallback_same {c : Cause} {left : Nat} {n : Node} (h : n.hsq.mode = .fallback) :
    (countdownBegun c left n).apl = n.apl ∧ (countdownBegun c left n).rcl = n.rcl := by
  rw [countdownBegun_fallback h]; exact ⟨rfl, rfl⟩

/-- The plan of an entry to COUNTDOWN is read from the inputs, the configuration and the channels. -/
def plannedFrom (n : Node) : Apl :=
  let t := latchTemp n.cfg n.fiu.temp
  let s8 := specificVolume n.cfg.k1 n.cfg.k2 t.1
  let w := baseMass n.cfg.volume n.cfg.concentration s8
  planCounts n.cfg n.readyHall.length { Apl.start with
    stage := .planned, temp := t.1, source := t.2.1, tempDefault := t.2.2, s8 := s8, w := w,
    wd := designMass w n.cfg.factor }

theorem aplPlan_apl (n : Node) : (aplPlan n).apl = plannedFrom n := Node.setFlagIf_apl _ _ _

theorem aplPlan_tempDefault (n : Node) (h : (plannedFrom n).tempDefault = true) :
    (aplPlan n).flag .tempDefault = true := by
  have ht : (latchTemp n.cfg n.fiu.temp).2.2 = true := h
  unfold aplPlan; dsimp only; rw [ht]
  exact Node.flag_setFlag_same _ _

theorem enteredAs.plan {c : Cause} {left : Nat} {n t : Node} (he : enteredAs c left n t)
    (h : n.hsq.mode = .normal) : t.apl = plannedFrom n := by
  rw [he.apl, countdownBegun_apl h, aplPlan_apl]; rfl

theorem enteredAs.afresh {c : Cause} {left : Nat} {n t : Node} (he : enteredAs c left n t)
    (h : n.hsq.mode = .normal) : reserveStartsAfresh n t := by
  refine reserveStartsAfresh_congr (countdownBegun_afresh h) he.apl he.rcl he.bid ?_ ?_
  · rw [he.vcu]
  · rw [he.cfs, countdownBegun_eq]; rfl

theorem enteredAs.confirmed {c : Cause} {left : Nat} {n t : Node} (he : enteredAs c left n t) :
    t.flag .confirmed = true :=
  he.raised _ (countdownBegun_raises c left n _ (n.flag_setFlag_same _))

theorem enteredAs.hall_of_clear {c : Cause} {left : Nat} {n t : Node} (he : enteredAs c left n t)
    (hov : n.hsq.manualOverride = false) (hc : c ≠ .manual) :
    t.hsq.hall = if n.fiu.hold.delivered = .operated then .hold else .countdown := by
  split
  next h => exact he.held ⟨h, hov, hc⟩
  next h => exact he.runs fun hx => h hx.1

/-- What the end of the event writes is not read by `enteredAs`. -/
theorem enteredAs.finish {c : Cause} {left : Nat} {n t : Node} (he : enteredAs c left n t) (b : Node) :
    enteredAs c left n (finish b t) where
  held := by rw [finish_hsq]; exact he.held
  runs := by rw [finish_hsq]; exact he.runs
  remaining := by rw [Node.remaining, finish_hsq, finish_now]; exact he.remaining
  cause := by rw [finish_hsq, he.cause]
  override := by rw [finish_hsq, he.override]
  degraded := by rw [finish_hsq, he.degraded]
  firing := by rw [finish_hsq, he.firing]
  phase := by rw [finish_hsq, he.phase]
  fiu := by rw [finish_fiu, he.fiu]
  cfs := by rw [finish_cfs, he.cfs]
  apl := by rw [finish_apl, he.apl]
  rcl := by rw [finish_rcl, he.rcl]
  vcu := by rw [finish_vcu, he.vcu]
  bid := by rw [finish_bid, he.bid]
  raised := Node.raisedIn_trans he.raised (Node.raisedIn_of_svp (finish_svp b t))
  ignored := fun h h' => Node.raisedIn_of_svp (finish_svp b t) _ (he.ignored h h')

/-! ## The second zone -/

/-- The sample that completes an alarm run with the other zone latched stands for both zones latched. -/
theorem zoneTaken_crossZone {s : State} {zone : Zone} {current since : Nat}
    (hmode : s.node.hsq.mode = .normal) (hrest : s.node.hsq.hall = .quiet ∨ s.node.hsq.hall = .alert)
    (hkey : s.node.fiu.key.delivered = .normal) (hlo : 120 ≤ current) (hhi : current < 400) :
    let z := match zone with | .a => s.node.fiu.zoneA | .b => s.node.fiu.zoneB
    let other := match zone with | .a => s.node.fiu.zoneB | .b => s.node.fiu.zoneA
    let verify := match zone with | .a => s.node.cfg.verifyA | .b => s.node.cfg.verifyB
    z.alarmRun = some { since := since, done := false } → since + verify ≤ s.node.now →
    other.latched = true → crossZone (zoneTaken zone current s.node).hsq := by
  have hiso : s.node.isolate = false := Node.not_isolate_iff.2 hkey
  have hlatched : ∀ (z : ZoneRec) (verify : Nat), z.alarmRun = some { since := since, done := false } →
      since + verify ≤ s.node.now → (z.sample s.node.now verify s.node.isolate current).latched = true := by
    intro z verify hrun hlen
    obtain ⟨-, hl, -⟩ := z.sample_alarmFollows s.node.now verify s.node.isolate current
    refine hl.2 (.inr ⟨⟨⟨hlo, hhi⟩, ?_⟩, hiso⟩)
    rw [hrun]; exact ⟨rfl, hlen⟩
  cases zone with
  | a => exact fun hrun hlen hother => ⟨hrest, hmode, hlatched _ _ hrun hlen, hother⟩
  | b => exact fun hrun hlen hother => ⟨hrest, hmode, hother, hlatched _ _ hrun hlen⟩

theorem reserveStartsAfresh_zoneTaken {zone : Zone} {current : Nat} {n t : Node}
    (h : reserveStartsAfresh (zoneTaken zone current n) t) : reserveStartsAfresh n t := by
  cases zone <;> exact h

theorem zoneTaken_other (zone : Zone) (current : Nat) (n : Node) :
    (zoneTaken zone current n).cfg = n.cfg ∧ (zoneTaken zone current n).fiu.hold = n.fiu.hold ∧
      (zoneTaken zone current n).hsq.manualOverride = n.hsq.manualOverride ∧
      (zoneTaken zone current n).hsq.mode = n.hsq.mode := by
  cases zone <;> exact ⟨rfl, rfl, rfl, rfl⟩

/-- Settles O6: the sample gives `crossZone`, and the entry to COUNTDOWN is read off `enteredAs`. -/
theorem secondZoneLatchConfirms : Obligations.SecondZoneLatchConfirms := by
  intro s zone current since hr hmode hrest hov hkey hlo hhi hpos z other verify _ hrun hlen hother
  have hcross := zoneTaken_crossZone hmode hrest hkey hlo hhi hrun hlen hother
  obtain ⟨hcfg, hhold, hov', hmode'⟩ := zoneTaken_other zone current s.node
  have he := (enterCountdown_enteredAs (c := .crossZone) (zoneTaken zone current s.node)
    (left := 1000 * s.node.cfg.countdown) (by omega)).finish s.node
  refine ⟨_, if_pos hr, ?_⟩
  have hev : zoneEvent zone current s.node =
      enterCountdown .crossZone (1000 * s.node.cfg.countdown) (zoneTaken zone current s.node) := by
    rw [← hcfg]; exact reeval_of_crossZone hcross
  rw [hev]
  refine ⟨?_, he.remaining, he.cause, ?_, he.degraded, he.firing, he.phase, ?_, he.confirmed,
    reserveStartsAfresh_zoneTaken (he.afresh (hmode'.trans hmode))⟩
  · rw [he.hall_of_clear (hov'.trans hov) (by simp), hhold]
  · rw [he.override, hov', hov]; rfl
  · rw [he.plan (hmode'.trans hmode)]; rfl

/-! ## The degraded confirm timer, and the EPO point -/

theorem enteredAs.setFlag {c : Cause} {left : Nat} {n t : Node} (he : enteredAs c left n t) (f : Flag) :
    enteredAs c left n (t.setFlag f) :=
  { he with
    raised := Node.raisedIn_trans he.raised (Node.raisedIn_setFlag t f)
    ignored := fun h h' => t.flag_setFlag_mono f _ (he.ignored h h') }

theorem degradedExpiry_confirms {n : Node} {ends : Time} (hd : n.hsq.degraded = some ends)
    (hle : ends ≤ n.now) (hrest : n.hsq.hall = .quiet ∨ n.hsq.hall = .alert) :
    degradedExpiry n =
      (enterCountdown .degraded (1000 * n.cfg.countdown) n).setFlag .degradedConfirm :=
  (if_pos (by simp [due, hd, hle])).trans (if_pos hrest)

/-- Settles O13: the confirmation is read off `enteredAs`; the EPO point is `epoTest`. -/
theorem degradedExpiryConfirmsAndEpoPointIsMarked :
    Obligations.DegradedExpiryConfirmsAndEpoPointIsMarked := by
  refine ⟨fun s ends hr hmode hd hle hrest hov hpos => ?_, fun s hr => ⟨fun h => ?_, fun h => ?_⟩⟩
  · have he := ((enterCountdown_enteredAs (c := .degraded) s.node (left := 1000 * s.node.cfg.countdown)
      (by omega)).setFlag .degradedConfirm).finish s.node
    have hflag : (finish s.node ((enterCountdown .degraded (1000 * s.node.cfg.countdown) s.node).setFlag
        .degradedConfirm)).flag .degradedConfirm = true :=
      Node.raisedIn_of_svp (finish_svp _ _) _ (Node.flag_setFlag_same _ _)
    rw [← degradedExpiry_confirms hd hle hrest] at he hflag
    refine ⟨_, if_pos hr, he.hall_of_clear hov (by simp), he.remaining, he.cause, he.degraded, ?_,
      he.confirmed, hflag, he.afresh hmode⟩
    rw [he.plan hmode]; rfl
  · exact endsAs_inRun epoPoint rfl hr (congrArg Node.bare (if_pos h))
  · exact endsAs_inRun epoPoint rfl hr (congrArg Node.bare (if_neg h))

/-! ## Fault and recovery runs -/

theorem faultRuns_rule {now : Time} {b : Bool} {faulty : Prop} (hb : b = true ↔ faulty)
    (run rec : Option Time) (fault : Bool) :
    faultRule now faulty run rec fault (faultRuns now b run rec fault).1
      (faultRuns now b run rec fault).2.1 (faultRuns now b run rec fault).2.2 := by
  refine ⟨fun h => ?faulty, fun h => ?sound⟩
  case faulty =>
    have he : faultRuns now b run rec fault =
        (startRun now run, none, fault || lasted now (startRun now run) Config.faultTime) :=
      if_pos (hb.2 h)
    rw [he]
    refine ⟨startRun_eq now run, rfl, ?_⟩
    rw [Bool.or_eq_true, lasted_startRun]; rfl
  case sound =>
    have he : faultRuns now b run rec fault = _ := if_neg (mt hb.1 h)
    rw [he]
    cases fault with
    | false => simp
    | true =>
      have hl : lasted now (startRun now rec) Config.faultTime = true ↔ rec.getD now + 1000 ≤ now :=
        lasted_startRun
      refine ⟨?_, by simp, fun _ hd => ?_, fun _ hd => ?_⟩
      · dsimp only; rw [if_pos rfl]; split <;> rfl
      · dsimp only; rw [if_pos rfl, if_pos (hl.2 hd)]; exact ⟨rfl, rfl⟩
      · dsimp only
        rw [if_pos rfl, if_neg (fun hx => Nat.not_le.2 hd (hl.1 hx)), startRun_eq]; exact ⟨rfl, rfl⟩

/-! ## The manual release -/

theorem stationClass_operated {c : Nat} : stationClass c = .operated ↔ 120 ≤ c ∧ c < 400 := by
  unfold stationClass; repeat' split
  all_goals simp; omega

/-- The station's record after the sample that gives the manual release event. -/
def StationRec.released (now since : Time) (r : StationRec) : StationRec :=
  let runs := faultRuns now false r.faultRun r.recRun r.fault
  { cls := some .operated, opRun := some { since := since, done := true }, faultRun := runs.1,
    recRun := runs.2.1, fault := runs.2.2, sampleAt := now + Config.fieldPeriod }

theorem StationRec.sample_gives {now since : Time} {current : Nat} {r : StationRec} (hlo : 120 ≤ current)
    (hhi : current < 400) (hrun : r.opRun = some { since := since, done := false })
    (hlen : since + 500 ≤ now) : r.sample now current = (r.released now since, true) := by
  have hcls := stationClass_operated.2 ⟨hlo, hhi⟩
  have hstep : operatedStep now .operated r.opRun = (some { since := since, done := true }, true) := by
    rw [hrun]; simp [operatedStep, Config.operatedTime, hlen]
  unfold StationRec.sample StationRec.released; dsimp only
  rw [hcls, hstep]; rfl

/-- The node once the station's record of that sample is taken. -/
def stationTaken (since : Time) (n : Node) : Node :=
  { n with fiu.station := n.fiu.station.released n.now since }

theorem stationEvent_gives {n : Node} {since : Time} {current : Nat} (hlo : 120 ≤ current)
    (hhi : current < 400) (hrun : n.fiu.station.opRun = some { since := since, done := false })
    (hlen : since + 500 ≤ n.now) :
    stationEvent current n = manualRelease (stationTaken since n) := by
  unfold stationEvent; rw [StationRec.sample_gives hlo hhi hrun hlen]; rfl

theorem manualRelease_confirms {n : Node} (h : n.hsq.hall = .quiet ∨ n.hsq.hall = .alert) :
    manualRelease n = enterCountdown .manual (1000 * n.cfg.manualCountdown) n := by
  unfold manualRelease; rcases h with h | h <;> rw [h]

/-- The hall runs its countdown on, the EPO point tested. -/
def countdownResumed (left : Nat) (n : Node) : Node :=
  epoTest { n with hsq.hall := .countdown, hsq.countdown := .running (n.now + left) }

theorem countdownResumed_eq (left : Nat) (n : Node) : countdownResumed left n =
    { n with hsq := { n.hsq with
      hall := .countdown, countdown := .running (n.now + left),
      epoReached := (countdownResumed left n).hsq.epoReached } } := epoTest_eq _

theorem countdownResumed_remaining (left : Nat) (n : Node) : (countdownResumed left n).remaining = left := by
  rw [countdownResumed_eq]; exact Nat.add_sub_cancel_left ..

theorem resume_of_left {left : Nat} {n : Node} (h : 0 < left) : resume left n = countdownResumed left n :=
  expireIfDone_of_left (n := countdownResumed left n) (by rw [countdownResumed_remaining]; exact h)

theorem manualRelease_shortens {n : Node} (h : n.hsq.hall = .countdown ∨ n.hsq.hall = .hold)
    (hpos : 0 < min n.remaining (1000 * n.cfg.manualCountdown)) :
    manualRelease n = countdownResumed (min n.remaining (1000 * n.cfg.manualCountdown))
      { n with hsq.manualOverride := true } := by
  rw [← resume_of_left hpos]
  unfold manualRelease; rcases h with h | h <;> rw [h]

theorem manualRelease_stays {n : Node} (h : n.hsq.hall = .awaitSlot ∨ n.hsq.hall = .discharging) :
    manualRelease n = n := by
  unfold manualRelease; rcases h with h | h <;> rw [h]

theorem manualRelease_ignored {n : Node}
    (h : n.hsq.hall = .soak ∨ n.hsq.hall = .spent ∨ n.hsq.hall = .lockout) :
    manualRelease n = n.setFlag .manualIgnored := by
  unfold manualRelease; rcases h with h | h | h <;> rw [h]

/-- What a manual release that shortens the countdown leaves. -/
theorem manualRelease_shortened {n : Node} (h : n.hsq.hall = .countdown ∨ n.hsq.hall = .hold)
    (hpos : 0 < min n.remaining (1000 * n.cfg.manualCountdown)) :
    let t := manualRelease n
    t.hsq.hall = .countdown ∧ t.remaining = min n.remaining (1000 * n.cfg.manualCountdown) ∧
      t.hsq.cause = n.hsq.cause ∧ t.hsq.manualOverride = true ∧ t.fiu = n.fiu ∧ t.apl = n.apl ∧
      t.rcl = n.rcl ∧ t.vcu = n.vcu := by
  dsimp only
  rw [manualRelease_shortens h hpos, countdownResumed_remaining, countdownResumed_eq]
  exact ⟨rfl, rfl, rfl, rfl, rfl, rfl, rfl, rfl⟩

/-- Settles O8: the sample gives the event, and `manualRelease` is read by the hall state. -/
theorem manualReleaseByHallState : Obligations.ManualReleaseByHallState := by
  intro s current since hr hlo hhi hrun hlen n r manual
  have hev : stationEvent current s.node = manualRelease (stationTaken since s.node) :=
    stationEvent_gives hlo hhi hrun hlen
  refine ⟨r.released n.now since, rfl, rfl, faultRuns_rule (by simp) _ _ _, rfl,
    fun hrest hpos => ?confirms, fun hhall hpos => ?shortens, fun hhall => ?stays, fun hhall => ?ignored⟩
  case confirms =>
    have he := (enterCountdown_enteredAs (c := .manual) (left := manual)
      (stationTaken since s.node) hpos).finish s.node
    have hm : manualRelease (stationTaken since s.node) =
        enterCountdown .manual manual (stationTaken since s.node) := manualRelease_confirms hrest
    rw [← hm, ← hev] at he
    have hnot : ¬ heldAtEntry .manual (stationTaken since s.node) := fun hx => hx.2.2 rfl
    refine ⟨_, if_pos hr, he.runs hnot, he.remaining, he.cause, ?_, he.degraded, he.confirmed, ?_,
      fun hf => ?_, fun hop => he.ignored hnot hop⟩
    · rw [he.override]; simp
    · exact congrArg (fun f => f.station) he.fiu
    · rw [he.apl, he.rcl]; exact countdownBegun_fallback_same hf
  case shortens =>
    obtain ⟨hcd, hleft, hcause, hov, hfiu, hapl, hrcl, hvcu⟩ :=
      manualRelease_shortened (n := stationTaken since s.node) hhall hpos
    rw [← hev] at hcd hleft hcause hov hfiu hapl hrcl hvcu
    refine ⟨_, if_pos hr, ?_⟩
    simp only [Node.remaining, finish_hsq, finish_now, finish_fiu, finish_apl, finish_rcl, finish_vcu]
    exact ⟨hcd, hleft, hcause, hov, congrArg (fun f => f.station) hfiu, hapl, hrcl, hvcu⟩
  case stays =>
    exact endsAs_inRun _ rfl hr (congrArg Node.bare (hev.trans (manualRelease_stays hhall)))
  case ignored =>
    exact endsAs_inRun _ rfl hr (congrArg Node.bare (hev.trans (manualRelease_ignored hhall)))

/-! ## The plan -/

theorem latchTemp_known {cfg : Cfg} {t : TempRec} {v : Int} (hs : t.status = .ok) (hv : t.value = some v) :
    latchTemp cfg t = if v < cfg.tmin then (cfg.tmin, .clamped, false)
      else if cfg.tmax < v then (cfg.tmax, .clamped, false) else (v, .sensor, false) := by
  unfold latchTemp; rw [hs, hv]

theorem latchTemp_unknown {cfg : Cfg} {t : TempRec} (h : ¬ (t.status = .ok ∧ t.value ≠ none)) :
    latchTemp cfg t = (cfg.tmin, .default, true) := by
  unfold latchTemp
  split
  next r hs hv => exact absurd ⟨hs, by simp [hv]⟩ h
  all_goals rfl

theorem plannedFrom_groups (n : Node) : groupsPlanned n (plannedFrom n) := planCounts_planned n _

theorem Node.known_value {n : Node} (h : n.fiu.temp.status = .ok ∧ n.fiu.temp.value ≠ none) :
    n.fiu.temp.value = some (n.fiu.temp.value.getD 0) := by
  obtain ⟨v, hv⟩ := Option.ne_none_iff_exists'.1 h.2
  rw [hv]; rfl

/-- Settles O42: the manual release enters COUNTDOWN, whose plan is `plannedFrom` the node. -/
theorem planAtConfirmation : Obligations.PlanAtConfirmation := by
  intro s current since hr hlo hhi hrun hlen hrest hmode hpos n c known v
  have hev : stationEvent current s.node = manualRelease (stationTaken since s.node) :=
    stationEvent_gives hlo hhi hrun hlen
  have hm : manualRelease (stationTaken since s.node) =
      enterCountdown .manual (1000 * c.manualCountdown) (stationTaken since s.node) :=
    manualRelease_confirms hrest
  have he := (enterCountdown_enteredAs (c := .manual) (left := 1000 * c.manualCountdown)
    (stationTaken since s.node) (Nat.mul_pos (by decide) hpos)).finish s.node
  rw [← hm, ← hev] at he
  have hplan : (finish s.node (stationEvent current s.node)).apl = plannedFrom n := he.plan hmode
  refine ⟨_, if_pos hr, he.afresh hmode, ?_⟩
  rw [hplan]
  refine ⟨rfl, fun hk hlow => ?low, fun hk hlow hhigh => ?high, fun hk hlow hhigh => ?sensor,
    fun hk => ?default, rfl, rfl, rfl, plannedFrom_groups n, rfl, rfl, rfl, rfl, rfl, rfl, rfl⟩
  case low =>
    have ht : latchTemp c n.fiu.temp = (c.tmin, .clamped, false) :=
      (latchTemp_known hk.1 (Node.known_value hk)).trans (if_pos hlow)
    exact ⟨congrArg (fun t => t.1) ht, congrArg (fun t => t.2.1) ht, congrArg (fun t => t.2.2) ht⟩
  case high =>
    have ht : latchTemp c n.fiu.temp = (c.tmax, .clamped, false) :=
      (latchTemp_known hk.1 (Node.known_value hk)).trans
        ((if_neg (not_lt.2 hlow)).trans (if_pos hhigh))
    exact ⟨congrArg (fun t => t.1) ht, congrArg (fun t => t.2.1) ht, congrArg (fun t => t.2.2) ht⟩
  case sensor =>
    have ht : latchTemp c n.fiu.temp = (v, .sensor, false) :=
      (latchTemp_known hk.1 (Node.known_value hk)).trans
        ((if_neg (not_lt.2 hlow)).trans (if_neg (not_lt.2 hhigh)))
    exact ⟨congrArg (fun t => t.1) ht, congrArg (fun t => t.2.1) ht, congrArg (fun t => t.2.2) ht⟩
  case default =>
    have ht : latchTemp c n.fiu.temp = (c.tmin, .default, true) := latchTemp_unknown hk
    refine ⟨congrArg (fun t => t.1) ht, congrArg (fun t => t.2.1) ht, congrArg (fun t => t.2.2) ht, ?_⟩
    refine he.raised _ ?_
    rw [countdownBegun_normal (by exact hmode), Node.flag, rclCountdown_eq]
    exact aplPlan_tempDefault _ (congrArg (fun t => t.2.2) ht)

/-! ## The hold switch -/

theorem holdClass_counted (c : Nat) :
    (holdClass c).counted = if 120 ≤ c ∧ c < 400 then .operated else .released := by
  unfold holdClass
  by_cases h20 : c < 20
  · rw [if_pos h20, if_neg (by omega)]; rfl
  · rw [if_neg h20]
    by_cases h120 : c < 120
    · rw [if_pos h120, if_neg (by omega)]; rfl
    · rw [if_neg h120]
      by_cases h400 : c < 400
      · rw [if_pos h400, if_pos (by omega)]; rfl
      · rw [if_neg h400, if_neg (by omega)]; rfl

theorem holdClass_fault {c : Nat} : decide (holdClass c = .fault) = true ↔ (c < 20 ∨ 400 ≤ c) := by
  rw [decide_eq_true_eq]; unfold holdClass; repeat' split
  all_goals simp; omega

/-- The switch's record after the sample that delivers another position. -/
def HoldRec.moved (now : Time) (current : Nat) (r : HoldRec) : HoldRec :=
  let runs := faultRuns now (decide (holdClass current = .fault)) r.faultRun r.recRun r.fault
  { cls := some (holdClass current), changeRun := none, faultRun := runs.1, recRun := runs.2.1,
    delivered := (holdClass current).counted, fault := runs.2.2, sampleAt := now + Config.fieldPeriod }

theorem changeStep_delivers {now since len : Time} {run : Option Time} (hrun : run = some since)
    (hlen : since + len ≤ now) : changeStep now true len run = (none, true) := by
  rw [hrun]; simp [changeStep, startRun, lasted, hlen]

theorem HoldRec.sample_moves {now since : Time} {current : Nat} {r : HoldRec}
    (hrun : r.changeRun = some since) (hlen : since + 200 ≤ now)
    (hd : (holdClass current).counted ≠ r.delivered) :
    r.sample now false current = (r.moved now current, true) := by
  have hstep := changeStep_delivers hrun hlen
  unfold HoldRec.sample HoldRec.moved; dsimp only
  rw [decide_eq_true hd, show Config.holdChangeTime = 200 from rfl, hstep]; rfl

/-- The node once the hold switch's record of that sample is taken. -/
def holdTaken (current : Nat) (n : Node) : Node := { n with fiu.hold := n.fiu.hold.moved n.now current }

theorem holdEvent_moves {n : Node} {since : Time} {current : Nat}
    (hrun : n.fiu.hold.changeRun = some since) (hlen : since + 200 ≤ n.now)
    (hd : (holdClass current).counted ≠ n.fiu.hold.delivered) :
    holdEvent false current n = match (holdClass current).counted with
      | .operated => holdOperated (holdTaken current n)
      | .released => holdReleased (holdTaken current n) := by
  unfold holdEvent; rw [HoldRec.sample_moves hrun hlen hd]; rfl

theorem holdOperated_ignored {n : Node} (h : (n.hsq.hall = .countdown ∧ n.hsq.manualOverride = true) ∨
    n.hsq.hall = .awaitSlot ∨ n.hsq.hall = .discharging) : holdOperated n = n.setFlag .holdIgnored := by
  rcases h with ⟨h, ho⟩ | h | h
  · exact holdOperated_overridden h ho
  · unfold holdOperated; rw [h]
  · unfold holdOperated; rw [h]

theorem holdOperated_nothing {n : Node} (h : n.hsq.hall = .quiet ∨ n.hsq.hall = .alert ∨
    n.hsq.hall = .hold ∨ n.hsq.hall = .soak ∨ n.hsq.hall = .spent ∨ n.hsq.hall = .lockout) :
    holdOperated n = n := by
  unfold holdOperated
  rcases h with h | h | h | h | h | h <;> rw [h]

/-- What a hold released event with time to run leaves of a HOLD. -/
theorem holdReleased_resumes {n : Node} (h : n.hsq.hall = .hold)
    (hpos : 0 < max n.remaining (1000 * n.cfg.holdRestart)) :
    let t := holdReleased n
    t.hsq.hall = .countdown ∧ t.remaining = max n.remaining (1000 * n.cfg.holdRestart) ∧
      t.hsq.cause = n.hsq.cause ∧ t.fiu = n.fiu ∧ t.apl = n.apl ∧ t.rcl = n.rcl ∧ t.vcu = n.vcu := by
  have he : holdReleased n = countdownResumed (max n.remaining (1000 * n.cfg.holdRestart)) n :=
    (if_pos h).trans (resume_of_left hpos)
  dsimp only
  rw [he, countdownResumed_remaining, countdownResumed_eq]
  exact ⟨rfl, rfl, rfl, rfl, rfl, rfl, rfl⟩

/-- Settles O9: the sample delivers the position, and the event is read by the hall state. -/
theorem holdSwitchHoldsAndResumes : Obligations.HoldSwitchHoldsAndResumes := by
  intro s current since hr hrun hlen n r pressed
  have hcounted := holdClass_counted current
  refine ⟨r.moved n.now current, rfl, rfl, faultRuns_rule holdClass_fault _ _ _, rfl,
    fun hp hd => ?pressed, fun hp hd => ?released⟩
  case pressed =>
    rw [if_pos hp] at hcounted
    have hev : holdEvent false current s.node = holdOperated (holdTaken current s.node) := by
      rw [holdEvent_moves hrun hlen (by rw [hcounted, hd]; simp), hcounted]
    refine ⟨hcounted, fun hhall hov => ?_, fun hhall => ?_, fun hhall => ?_⟩
    · exact endsAs_inRun _ rfl hr (congrArg Node.bare (hev.trans (holdOperated_holds hhall hov)))
    · exact endsAs_inRun _ rfl hr (congrArg Node.bare (hev.trans (holdOperated_ignored hhall)))
    · exact endsAs_inRun _ rfl hr (congrArg Node.bare (hev.trans (holdOperated_nothing hhall)))
  case released =>
    rw [if_neg hp] at hcounted
    have hev : holdEvent false current s.node = holdReleased (holdTaken current s.node) := by
      rw [holdEvent_moves hrun hlen (by rw [hcounted, hd]; simp), hcounted]
    refine ⟨hcounted, fun hhall hpos => ?_, fun hhall => ?_⟩
    · obtain ⟨hcd, hleft, hcause, hfiu, hapl, hrcl, hvcu⟩ :=
        holdReleased_resumes (n := holdTaken current s.node) hhall hpos
      rw [← hev] at hcd hleft hcause hfiu hapl hrcl hvcu
      refine ⟨_, if_pos hr, ?_⟩
      simp only [Node.remaining, finish_hsq, finish_now, finish_fiu, finish_apl, finish_rcl, finish_vcu]
      exact ⟨hcd, hleft, hcause, congrArg (fun f => f.hold) hfiu, hapl, hrcl, hvcu⟩
    · exact endsAs_inRun _ rfl hr (congrArg Node.bare (hev.trans (if_neg hhall)))

end Sys2Proof.Machine

/-! # The end of a discharge -/

namespace Sys2Proof.Machine

/-! ## The withdrawal of the vent slot -/

theorem Node.ventInFlight_eq_false {n : Node} (h : ∀ i g, n.lkc.inFlight ≠ some (.vent i g)) :
    n.ventInFlight = false := by
  unfold Node.ventInFlight
  split
  next i g hx => exact absurd hx (h i g)
  next => rfl

/-- A VENTFREE handed over writes the two waiting vent frames alone. -/
theorem queueVentfree_eq (g : Nat) (n : Node) : queueVentfree g n = { n with
    lkc.outbox.vent := (queueVentfree g n).lkc.outbox.vent,
    lkc.outbox.ventfree := (queueVentfree g n).lkc.outbox.ventfree } := by
  unfold queueVentfree; repeat' split
  all_goals rfl

theorem queueVentfree_withdraws {g : Nat} {n : Node} (hl : n.lkc.link ≠ .lost) :
    let t := queueVentfree g n
    t.lkc.outbox.vent = none ∧ (n.lkc.outbox.vent = none → t.lkc.outbox.ventfree = some g) ∧
      (n.lkc.outbox.vent ≠ none → (∀ i g, n.lkc.inFlight ≠ some (.vent i g)) →
        t.lkc.outbox.ventfree = n.lkc.outbox.ventfree) := by
  have href : ¬ n.refusesFrames = true := by simp [Node.refusesFrames, hl]
  dsimp only
  by_cases hw : (n.lkc.outbox.vent.isSome && !n.ventInFlight) = true
  · have he : queueVentfree g n = n.modOutbox (fun o => { o with vent := none }) :=
      (if_neg href).trans (if_pos hw)
    rw [he]
    refine ⟨rfl, fun hv => ?_, fun _ _ => rfl⟩
    simp [hv] at hw
  · have he : queueVentfree g n = n.modOutbox (fun o => { o with vent := none, ventfree := some g }) :=
      (if_neg href).trans (if_neg hw)
    rw [he]
    refine ⟨rfl, fun _ => rfl, fun hv hf => absurd ?_ hw⟩
    simp [Node.ventInFlight_eq_false hf, Option.isSome_iff_ne_none, hv]

/-- The node of a withdrawal before its VENTFREE. -/
def ventLeft (n : Node) : Node :=
  { n with vsu := { n.vsu with own := .none, sought := false, slotWait := none, status := .none } }

theorem vsuWithdraw_announced {n : Node} (h : n.vsu.own = .placed ∨ n.vsu.own = .queued) :
    vsuWithdraw n = queueVentfree n.cfg.ventGroup (ventLeft n) := by
  unfold vsuWithdraw; rcases h with h | h <;> rw [h] <;> rfl

theorem vsuWithdraw_unannounced {n : Node} (h : ¬ (n.vsu.own = .placed ∨ n.vsu.own = .queued)) :
    vsuWithdraw n = ventLeft n := by
  unfold vsuWithdraw
  cases ho : n.vsu.own with
  | placed => exact absurd (.inl ho) h
  | queued => exact absurd (.inr ho) h
  | held => rfl
  | none => rfl

theorem vsuWithdraw_withdrawn (n : Node) : ventWithdrawn n (vsuWithdraw n) := by
  by_cases h : n.vsu.own = .placed ∨ n.vsu.own = .queued
  · rw [vsuWithdraw_announced h]
    refine ⟨?_, fun _ hl => queueVentfree_withdraws (n := ventLeft n) hl, (absurd h ·)⟩
    rw [queueVentfree_eq]; rfl
  · rw [vsuWithdraw_unannounced h]
    exact ⟨rfl, (absurd · h), fun _ => ⟨rfl, rfl⟩⟩

theorem ventWithdrawn_congr {n t u : Node} (h : ventWithdrawn n t) (hvsu : u.vsu = t.vsu)
    (hvent : u.lkc.outbox.vent = t.lkc.outbox.vent)
    (hfree : u.lkc.outbox.ventfree = t.lkc.outbox.ventfree) : ventWithdrawn n u := by
  unfold ventWithdrawn at h ⊢; rw [hvsu, hvent, hfree]; exact h

/-- What a withdrawal is judged by: the announcement, the link record and the vent group. -/
theorem ventWithdrawn_congr_left {n m t : Node} (h : ventWithdrawn n t) (hvsu : m.vsu = n.vsu)
    (hlkc : m.lkc = n.lkc) (hcfs : m.cfs = n.cfs) : ventWithdrawn m t := by
  unfold ventWithdrawn Node.cfg at h ⊢; rw [hvsu, hlkc, hcfs]; exact h

/-! ## The outcome judged -/

theorem Node.flag_setFlagIf (n : Node) (b : Bool) (f g : Flag) :
    (n.setFlagIf b f).flag g = true ↔ n.flag g = true ∨ (b = true ∧ g = f) := by
  cases b with
  | false => simp [Node.setFlagIf]
  | true =>
    by_cases hg : g = f
    · simp [Node.setFlagIf, hg]
    · simp [Node.setFlagIf, hg, Node.flag_setFlag_other]

theorem aplEvaluate_done {n : Node} (h : n.apl.evaluated = true) : aplEvaluate n = n := if_pos h

theorem aplEvaluate_eq (n : Node) :
    aplEvaluate n = { n with apl := (aplEvaluate n).apl, svp := (aplEvaluate n).svp } := by
  unfold aplEvaluate Node.setFlagIf; dsimp only; repeat' split
  all_goals rfl

/-- The plan's record with the outcome judged (R61). -/
def Node.judged (n : Node) : Apl :=
  { n.apl with short := decide (n.apl.m < n.apl.wd), evaluated := true,
               low := decide (n.apl.ca < n.cfg.concentration) }

theorem aplEvaluate_open {n : Node} (h : n.apl.evaluated = false) : aplEvaluate n =
    (Node.setFlagIf { n with apl := n.judged } (decide (n.apl.m < n.apl.wd)) .short).setFlagIf
      (decide (n.apl.ca < n.cfg.concentration)) .low := if_neg (by simp [h])

/-- The outcome of a discharge not yet judged, in the record and the flags (R61). -/
theorem aplEvaluate_judges {n : Node} (h : n.apl.evaluated = false) :
    (aplEvaluate n).apl = n.judged ∧
    ((aplEvaluate n).flag .short = true ↔ n.flag .short = true ∨ n.apl.m < n.apl.wd) ∧
    ((aplEvaluate n).flag .low = true ↔ n.flag .low = true ∨ n.apl.ca < n.cfg.concentration) := by
  rw [aplEvaluate_open h]
  simp only [Node.setFlagIf_apl, Node.flag_setFlagIf]
  simp [Node.flag]

/-! ## The move to SOAK -/

/-- The node in SOAK before the outcome is judged and the slot withdrawn. -/
def soakMoved (n : Node) : Node := resetDeferral { n with hsq.hall := .soak }

/-- The node in SOAK before its timer is started. -/
def soakSettled (n : Node) : Node :=
  if n.normal then vsuWithdraw (aplEvaluate (soakMoved n)) else soakMoved n

theorem enterSoak_eq (n : Node) : enterSoak n =
    { soakSettled n with hsq.soak := some ((soakSettled n).now + 1000 * (soakSettled n).cfg.soak) } := rfl

theorem soakSettled_sansCourse (n : Node) : (soakSettled n).sansCourse = n.sansCourse := by
  unfold soakSettled; split
  · rw [vsuWithdraw_sansCourse, aplEvaluate_sansCourse]; rfl
  · rfl

theorem soakSettled_vcu (n : Node) : (soakSettled n).vcu = (soakMoved n).vcu := by
  unfold soakSettled; split
  · exact (congrArg (fun m => m.vcu) (vsuWithdraw_sansVent (aplEvaluate (soakMoved n)))).trans
      (congrArg (fun m => m.vcu) (aplEvaluate_sansPlan (soakMoved n)))
  · rfl

theorem enterSoak_soak (n : Node) : (enterSoak n).hsq.soak = some (n.now + 1000 * n.cfg.soak) := by
  have hnow : (soakSettled n).now = n.now := congrArg (fun m => m.now) (soakSettled_sansCourse n)
  have hcfg : (soakSettled n).cfg = n.cfg := congrArg (fun m => m.cfg) (soakSettled_sansCourse n)
  rw [enterSoak_eq, hnow, hcfg]

theorem enterSoak_deferral (n : Node) : (enterSoak n).vcu.deferral = .inactive := by
  rw [enterSoak_eq]; exact congrArg Vcu.deferral (soakSettled_vcu n)

theorem soakSettled_normal {n : Node} (h : n.hsq.mode = .normal) :
    soakSettled n = vsuWithdraw (aplEvaluate (soakMoved n)) := if_pos (Node.normal_iff.2 h)

theorem enterSoak_normal {n : Node} (h : n.hsq.mode = .normal) :
    ventWithdrawn n (enterSoak n) ∧ (enterSoak n).apl = (aplEvaluate (soakMoved n)).apl ∧
      (enterSoak n).svp = (aplEvaluate (soakMoved n)).svp := by
  have hsettled := soakSettled_normal h
  have hw := vsuWithdraw_withdrawn (aplEvaluate (soakMoved n))
  rw [← hsettled] at hw
  have hv : (soakSettled n).sansVent = (aplEvaluate (soakMoved n)).sansVent := by
    rw [hsettled, vsuWithdraw_sansVent]
  refine ⟨ventWithdrawn_congr_left (ventWithdrawn_congr hw rfl rfl rfl) ?_ ?_ ?_,
    congrArg (fun m => m.apl) hv, congrArg (fun m => m.svp) hv⟩
  all_goals rw [aplEvaluate_eq]; rfl

theorem enterSoak_fallback {n : Node} (h : n.hsq.mode = .fallback) :
    (enterSoak n).apl = n.apl ∧ (enterSoak n).vsu = n.vsu ∧ (enterSoak n).svp = n.svp ∧
      (enterSoak n).lkc.outbox = n.lkc.outbox := by
  have hsettled : soakSettled n = soakMoved n := if_neg (by simp [Node.normal, h])
  rw [enterSoak_eq, hsettled]; exact ⟨rfl, rfl, rfl, rfl⟩

/-! ## The discharge duration and the soak timer -/

/-- The node at the duration's expiry in DISCHARGING, before the test for SOAK. -/
def durationRun (n : Node) : Node := { n with hsq.duration := none, hsq.elapsed := true }

theorem durationOver_elsewhere {n : Node} {ends : Time} (hd : n.hsq.duration = some ends)
    (hle : ends ≤ n.now) (h : n.hsq.hall ≠ .discharging) :
    durationOver n = { n with hsq.duration := none } :=
  (if_pos (by simp [due, hd, hle])).trans (if_neg h)

theorem durationOver_discharging {n : Node} {ends : Time} (hd : n.hsq.duration = some ends)
    (hle : ends ≤ n.now) (h : n.hsq.hall = .discharging) :
    durationOver n = soakTest (durationRun n) :=
  (if_pos (by simp [due, hd, hle])).trans (if_pos h)

/-- Every own entry is resolved and the reserve phase RESOLVED (R19). -/
def Hsq.settled (h : Hsq) : Prop := (∀ e ∈ h.firing, e.2 ≠ .pending) ∧ h.reservePhase = .resolved

theorem Node.soakDue_iff {n : Node} :
    n.soakDue = true ↔ n.hsq.hall = .discharging ∧ n.hsq.settled ∧ n.hsq.elapsed = true := by
  simp only [Node.soakDue, Hsq.settled, Bool.and_eq_true, decide_eq_true_eq, List.all_eq_true]
  tauto

theorem soakTest_due {n : Node} (h : n.soakDue = true) : soakTest n = enterSoak n := if_pos h
theorem soakTest_waits {n : Node} (h : ¬ n.soakDue = true) : soakTest n = n := if_neg h

/-- Settles O16: `durationOver` and `soakOver` by the hall state; a settled discharge enters SOAK. -/
theorem durationAndSoakExpiryEndTheDischarge : Obligations.DurationAndSoakExpiryEndTheDischarge := by
  refine ⟨fun s ends hr hd hle => ⟨fun hhall => ?stops, fun hhall hset => ?waits, fun hhall hset => ?soaks⟩,
    fun s ends hr hd hle => ⟨fun hhall => ?spent, fun hhall => ?left⟩⟩
  case stops => exact endsAs_inRun _ rfl hr (congrArg Node.bare (durationOver_elsewhere hd hle hhall))
  case waits =>
    refine endsAs_inRun durationOver rfl hr (congrArg Node.bare ?_)
    rw [durationOver_discharging hd hle hhall]
    exact soakTest_waits fun hx => hset (Node.soakDue_iff.1 hx).2.1
  case soaks =>
    have he : durationOver s.node = enterSoak (durationRun s.node) :=
      (durationOver_discharging hd hle hhall).trans (soakTest_due (Node.soakDue_iff.2 ⟨hhall, hset, rfl⟩))
    refine ⟨_, if_pos hr, ?_⟩
    rw [he]
    simp only [finish_hsq, finish_vcu, finish_apl, finish_svp, finish_vsu, finish_ventfree, Node.flag]
    refine ⟨enterSoak_hall _, enterSoak_soak _, enterSoak_deferral _, fun hmode => ?_, fun hmode => ?_⟩
    · obtain ⟨hw, hapl, hsvp⟩ := enterSoak_normal (n := durationRun s.node) hmode
      refine ⟨?_, fun hev => ?_, fun hev => ?_⟩
      · exact ventWithdrawn_congr hw (finish_vsu _ _) (finish_vent _ _) (finish_ventfree _ _)
      · rw [hapl, hsvp]; exact aplEvaluate_judges (n := soakMoved (durationRun s.node)) hev
      · rw [hapl, hsvp, aplEvaluate_done (by exact hev)]; exact ⟨rfl, rfl⟩
    · obtain ⟨hapl, hvsu, hsvp, hout⟩ := enterSoak_fallback (n := durationRun s.node) hmode
      exact ⟨hapl, hvsu, hsvp, congrArg Outbox.ventfree hout⟩
  case spent =>
    refine endsAs_inRun soakOver rfl hr (congrArg Node.bare ?_)
    exact (if_pos (by simp [due, hd, hle])).trans (if_pos hhall)
  case left =>
    refine endsAs_inRun soakOver rfl hr (congrArg Node.bare ?_)
    exact (if_pos (by simp [due, hd, hle])).trans (if_neg hhall)

end Sys2Proof.Machine

/-! # The entry to DISCHARGING -/

namespace Sys2Proof.Machine

/-! ## The own pulses -/

theorem requestHall_accepted {c : ChanId} {n : Node} (hrole : (n.chan c).role = .hall)
    (hready : (n.chan c).state = .ready) (hh : n.hsq.hall = .discharging) :
    requestHall c n = some (enqueue c { n.chan c with requester := .hsq } n) :=
  if_pos ⟨hrole, hready, hh⟩

theorem enqueue_chan_same (c : ChanId) (r : Channel) (n : Node) :
    (enqueue c r n).chan c = { r with state := .queued } := Node.chan_setChan_same n c _

theorem enqueue_chan_other {c d : ChanId} (r : Channel) (n : Node) (h : d ≠ c) :
    (enqueue c r n).chan d = n.chan d := Node.chan_setChan_other n c d _ h

/-- Distinct READY HALL channels are all accepted, in order, at the tail of the queue. -/
theorem requestOwn_accepts {cs : List ChanId} {n : Node} (hnodup : cs.Nodup)
    (hready : ∀ c ∈ cs, (n.chan c).role = .hall ∧ (n.chan c).state = .ready)
    (hh : n.hsq.hall = .discharging) :
    let t := requestOwn cs n
    t.vcu.queue = n.vcu.queue ++ cs ∧ t.hsq = n.hsq ∧
      (∀ c ∈ cs, (t.chan c).state = .queued ∧ (t.chan c).requester = .hsq) ∧
      ∀ d, d ∉ cs → t.chan d = n.chan d := by
  induction cs generalizing n with
  | nil => exact ⟨(List.append_nil _).symm, rfl, by simp, fun _ _ => rfl⟩
  | cons c cs ih =>
    obtain ⟨hc, hcs⟩ := List.nodup_cons.1 hnodup
    obtain ⟨hrole, hst⟩ := hready c List.mem_cons_self
    have hm : ∀ d ∈ cs, d ≠ c := fun d hd he => hc (he ▸ hd)
    have hother : ∀ d ∈ cs, (enqueue c { n.chan c with requester := .hsq } n).chan d = n.chan d :=
      fun d hd => enqueue_chan_other _ n (hm d hd)
    obtain ⟨hq, hhsq, hin, hout⟩ := ih (n := enqueue c { n.chan c with requester := .hsq } n) hcs
      (fun d hd => by rw [hother d hd]; exact hready d (List.mem_cons_of_mem c hd)) hh
    have he : requestOwn (c :: cs) n = requestOwn cs (enqueue c { n.chan c with requester := .hsq } n) := by
      rw [requestOwn, requestHall_accepted hrole hst hh]
    dsimp only; rw [he]
    refine ⟨hq.trans (List.append_assoc ..), hhsq, ?_, fun d hd => ?_⟩
    · refine List.forall_mem_cons.2 ⟨?_, hin⟩
      rw [hout c hc, enqueue_chan_same]; exact ⟨rfl, rfl⟩
    · obtain ⟨hdc, hdcs⟩ := not_or.1 (List.mem_cons.not.1 hd)
      rw [hout d hdcs, enqueue_chan_other _ n hdc]

theorem allChans_nodup : allChans.Nodup := by decide

theorem Node.readyHall_nodup (n : Node) : n.readyHall.Nodup := List.Nodup.filter (fun c => decide ((n.chan c).role = .hall) && decide ((n.chan c).state = .ready))
    allChans_nodup

theorem Node.mem_readyHall {n : Node} {c : ChanId} (h : c ∈ n.readyHall) :
    (n.chan c).role = .hall ∧ (n.chan c).state = .ready := by
  have := (List.mem_filter.1 h).2
  simpa using this

/-- Own pulses requested for a part of the READY HALL channels: one PENDING entry each, queued in order. -/
theorem fireOwn_accepts {cs : List ChanId} {n : Node} (hsub : cs.Sublist n.readyHall)
    (hh : n.hsq.hall = .discharging) :
    let t := fireOwn cs n
    t.hsq.firing = cs.map (fun c => (c, FireStatus.pending)) ∧ t.vcu.queue = n.vcu.queue ++ cs ∧
      ∀ c ∈ cs, (t.chan c).state = .queued ∧ (t.chan c).requester = .hsq := by
  obtain ⟨hq, hhsq, hin, -⟩ := requestOwn_accepts (hsub.nodup n.readyHall_nodup)
    (n := { n with hsq.firing := cs.map (fun c => (c, FireStatus.pending)) })
    (fun c hc => Node.mem_readyHall (hsub.subset hc)) hh
  exact ⟨congrArg Hsq.firing hhsq, hq, hin⟩

/-! ## The release record -/

theorem releaseWrite_release (a b c : Nat) (n : Node) : (releaseWrite a b c n).cfs.release =
    { state := .released, hallId := n.cfg.hallId, wd := a, nOwn := b, nRes := c } := by
  unfold releaseWrite; dsimp only; split <;> rfl

theorem releaseWrite_void (a b c : Nat) (n : Node) : ((releaseWrite a b c n).row 12).void = true := by
  have hset : ∀ m : Node, ((voidRow 12 m).row 12).void = true := fun m => by
    rw [voidRow, Node.row_setRow_same]
  unfold releaseWrite; dsimp only; split <;> exact hset _

theorem releaseWrite_readyHall (a b c : Nat) (n : Node) :
    (releaseWrite a b c n).readyHall = n.readyHall := by rw [releaseWrite_eq]; rfl

/-- What the entry to DISCHARGING from `n` leaves in `t` of the groups `cs` and the mass `wd`. -/
structure dischargedAs (cs : List ChanId) (wd : Nat) (n t : Node) : Prop where
  firing : t.hsq.firing = cs.map (fun c => (c, FireStatus.pending))
  queue : t.vcu.queue = n.vcu.queue ++ cs
  queued : ∀ c ∈ cs, (t.chan c).state = .queued ∧ (t.chan c).requester = .hsq
  void : (t.row 12).void = true
  released : t.cfs.release.state = .released
  hallId : t.cfs.release.hallId = n.cfg.hallId
  mass : t.cfs.release.wd = wd
  duration : t.hsq.duration = some (n.now + 1000 * n.cfg.duration)
  elapsed : t.hsq.elapsed = false
  flag : t.flag .released = true

/-- The reserve phase and the release flag leave the own groups and the release record. -/
theorem dischargedAs_of {a : Nat} (b c : Nat) {cs : List ChanId} {n m t : Node}
    (hsub : cs.Sublist n.readyHall)
    (hm : m.sansClient = (fireOwn cs (releaseWrite a b c (toDischarging n))).sansClient)
    (ht : t = (startDuration m).setFlag .released) : dischargedAs cs a n t := by
  have hhall : (releaseWrite a b c (toDischarging n)).hsq.hall = .discharging := by rw [releaseWrite_eq]; rfl
  obtain ⟨hfiring, hqueue, hqueued⟩ := fireOwn_accepts (cs := cs)
    (n := releaseWrite a b c (toDischarging n)) (by rw [releaseWrite_readyHall]; exact hsub) hhall
  have hq0 : (releaseWrite a b c (toDischarging n)).vcu.queue = n.vcu.queue := by rw [releaseWrite_eq]; rfl
  have hcfs : m.cfs = (releaseWrite a b c (toDischarging n)).cfs :=
    (congrArg (fun x => x.cfs) hm).trans (congrArg (fun x => x.cfs) (fireOwn_sansFire cs _))
  have hchan : m.vcu.channels = (fireOwn cs (releaseWrite a b c (toDischarging n))).vcu.channels :=
    congrArg (fun x => x.vcu.channels) hm
  have hnow : m.now = n.now :=
    (congrArg (fun x => x.now) hm).trans ((congrArg (fun x => x.now) (fireOwn_sansFire cs _)).trans (by
      rw [releaseWrite_eq]; rfl))
  have hcfg : m.cfg = n.cfg :=
    (congrArg (fun x => x.cfg) (sansCourse_of_sansClient hm)).trans (by
      rw [fireOwn_sansCourse, releaseWrite_sansCourse]; rfl)
  have hrel := releaseWrite_release a b c (toDischarging n)
  subst ht
  exact {
    firing := (congrArg (fun x => x.hsq.firing) hm).trans hfiring
    queue := (congrArg (fun x => x.vcu.queue) hm).trans (hqueue.trans (by rw [hq0]))
    queued := fun d hd => by
      have := hqueued d hd
      simpa only [Node.chan, Node.setFlag_vcu, startDuration, hchan] using this
    void := by
      have := releaseWrite_void a b c (toDischarging n)
      simpa only [Node.row, Node.setFlag_cfs, startDuration, hcfs] using this
    released := (congrArg (fun x => x.release.state) hcfs).trans (congrArg ReleaseRec.state hrel)
    hallId := (congrArg (fun x => x.release.hallId) hcfs).trans (congrArg ReleaseRec.hallId hrel)
    mass := (congrArg (fun x => x.release.wd) hcfs).trans (congrArg ReleaseRec.wd hrel)
    duration := by
      change some (m.now + 1000 * m.cfg.duration) = _
      rw [hnow, hcfg]
    elapsed := rfl
    flag := Node.flag_setFlag_same _ _ }

theorem enterDischarging_dischargedAs (n : Node) :
    dischargedAs (n.readyHall.take n.apl.nOwn) n.apl.wd n (enterDischarging n) := by
  have hready : (dischargeWritten n).readyHall = n.readyHall := by
    rw [dischargeWritten, releaseWrite_readyHall]; rfl
  have hown : (dischargeWritten n).apl.nOwn = n.apl.nOwn := by rw [dischargeWritten, releaseWrite_eq]; rfl
  refine dischargedAs_of n.apl.nOwn n.apl.nRes (List.take_sublist _ _) ?_ (enterDischarging_eq n)
  rw [openReserve_sansClient, dischargeFired, hready, hown, dischargeWritten]

theorem enterFallback_dischargedAs (n : Node) : dischargedAs n.readyHall 0 n (enterFallback n) := by
  have hready : (fallbackWritten n).readyHall = n.readyHall := by
    rw [fallbackWritten, releaseWrite_readyHall]; rfl
  refine dischargedAs_of n.readyHall.length 0 (List.Sublist.refl _) ?_ (enterFallback_eq n)
  change (fallbackFired n).sansClient = _
  rw [fallbackFired, hready, fallbackWritten]; rfl

/-! ## The reserve phase opened -/

/-- What RCL's bid is read from. -/
def Node.bidPart (n : Node) : BidState × Nat × Option BidContent × Option NodeId :=
  (n.rcl.bid, n.rcl.n, n.lkc.outbox.bid, n.lkc.outbox.yieldTo)

theorem selOpen_eq (n : Node) : selOpen n = { n with vcu.selector := (selOpen n).vcu.selector } := by
  unfold selOpen; repeat' split
  all_goals rfl

theorem queueWayopen_eq (h : NodeId) (k : Nat) (n : Node) : queueWayopen h k n =
    { n with lkc.outbox.wayopen := (queueWayopen h k n).lkc.outbox.wayopen } := by
  unfold queueWayopen; split <;> rfl

theorem sendWayopen_keeps (n : Node) :
    (sendWayopen n).hsq = n.hsq ∧ (sendWayopen n).bidPart = n.bidPart := by
  unfold sendWayopen; split
  · exact ⟨rfl, rfl⟩
  · dsimp only; rw [queueWayopen_eq]; exact ⟨rfl, rfl⟩

/-- Short of a JAMMED selector RCL's act leaves the sequencer's record and the bid. -/
theorem rclAct_keeps {n : Node} (h : n.vcu.selector.state ≠ .jammed) :
    (rclAct n).hsq = n.hsq ∧ (rclAct n).bidPart = n.bidPart := by
  unfold rclAct; split
  · split
    · rw [selOpen_eq]; exact ⟨rfl, rfl⟩
    · rw [selOpen_eq]; exact ⟨rfl, rfl⟩
    · exact ⟨rfl, rfl⟩
    · exact sendWayopen_keeps n
    next hj => exact absurd hj h
  · exact ⟨rfl, rfl⟩

theorem openReserve_none {n : Node} (h : n.apl.nRes = 0) : openReserve n = noReservePhase n :=
  if_neg (by omega)

theorem openReserve_opens {n : Node} (h : 0 < n.apl.nRes) (hj : n.vcu.selector.state ≠ .jammed) :
    (openReserve n).hsq.reservePhase = .opened ∧ (openReserve n).bidPart = n.bidPart := by
  have he : openReserve n = rclBegin { n with hsq.reservePhase := .opened } := if_pos h
  obtain ⟨hhsq, hbid⟩ := rclAct_keeps (n := { n with
    hsq.reservePhase := .opened,
    rcl.wait := .running (n.now + 1000 * n.cfg.reserveWait), rcl.phase := .waitingGrant }) hj
  rw [he]
  exact ⟨congrArg Hsq.reservePhase hhsq, hbid⟩

theorem dischargeFired_sansFire (n : Node) : (dischargeFired n).sansFire = (dischargeWritten n).sansFire :=
  fireOwn_sansFire _ _

theorem dischargeFired_apl (n : Node) : (dischargeFired n).apl = n.apl :=
  (congrArg (fun m => m.apl) (dischargeFired_sansFire n)).trans (by
    rw [dischargeWritten, releaseWrite_eq]; rfl)

theorem dischargeFired_selector (n : Node) : (dischargeFired n).vcu.selector = n.vcu.selector :=
  (congrArg (fun m => m.vcu.selector) (dischargeFired_sansFire n)).trans (by
    rw [dischargeWritten, releaseWrite_eq]; rfl)

theorem dischargeFired_bidPart (n : Node) : (dischargeFired n).bidPart = n.bidPart :=
  (congrArg (fun m => m.bidPart) (dischargeFired_sansFire n)).trans (by
    rw [dischargeWritten, releaseWrite_eq]; rfl)

theorem enterDischarging_apl (n : Node) : (enterDischarging n).apl = n.apl :=
  (congrArg (fun m => m.apl) (openReserve_sansClient (dischargeFired n))).trans (dischargeFired_apl n)

theorem enterFallback_apl (n : Node) : (enterFallback n).apl = n.apl :=
  (congrArg (fun m => m.apl) (fireOwn_sansFire (fallbackWritten n).readyHall (fallbackWritten n))).trans (by
    rw [fallbackWritten, releaseWrite_eq]; rfl)

theorem enterDischarging_resolved {n : Node} (h : n.apl.nRes = 0) :
    (enterDischarging n).hsq.reservePhase = .resolved := by
  rw [enterDischarging_eq, openReserve_none (by rw [dischargeFired_apl, h])]; rfl

theorem enterDischarging_opens {n : Node} (h : 0 < n.apl.nRes) (hj : n.vcu.selector.state ≠ .jammed) :
    (enterDischarging n).hsq.reservePhase = .opened :=
  (openReserve_opens (n := dischargeFired n) (by rwa [dischargeFired_apl])
    (by rwa [dischargeFired_selector])).1

theorem enterDischarging_bidPart {n : Node} (hj : n.vcu.selector.state ≠ .jammed) :
    (enterDischarging n).bidPart = n.bidPart := by
  rw [enterDischarging_eq, ← dischargeFired_bidPart n]
  refine (show _ = (openReserve (dischargeFired n)).bidPart from rfl).trans ?_
  rcases Nat.eq_zero_or_pos n.apl.nRes with h | h
  · rw [openReserve_none (by rw [dischargeFired_apl, h])]; rfl
  · exact (openReserve_opens (by rwa [dischargeFired_apl]) (by rwa [dischargeFired_selector])).2

/-! ## The node at countdown expiry -/

/-- The node whose bid was brought to the re-plan's count. -/
def bidRenewed (n : Node) : Node := rclNewCount (aplReplan n).apl.nRes (aplReplan n)

theorem atExpiry_eq (n : Node) : atExpiry n =
    { bidRenewed n with hsq := { (bidRenewed n).hsq with
      hall := .awaitSlot, countdown := .off, epoReached := (atExpiry n).hsq.epoReached } } := by
  unfold atExpiry epoAtExpiry bidRenewed; dsimp only; split <;> rfl

theorem bidRenewed_sansClient (n : Node) : (bidRenewed n).sansClient = (aplReplan n).sansClient :=
  rclNewCount_sansClient _ _

theorem rclNewCount_selector (k : Nat) (n : Node) :
    (rclNewCount k n).vcu.selector = n.vcu.selector := by
  unfold rclNewCount placeOrHold sendBid sendYield queueBid queueYield; dsimp only; repeat' split
  all_goals rfl

theorem atExpiry_apl (n : Node) : (atExpiry n).apl = (aplReplan n).apl := by
  rw [atExpiry_eq]; exact congrArg (fun m => m.apl) (bidRenewed_sansClient n)

theorem atExpiry_selector (n : Node) : (atExpiry n).vcu.selector = n.vcu.selector := by
  rw [atExpiry_eq]; exact rclNewCount_selector _ _

theorem atExpiry_readyHall (n : Node) : (atExpiry n).readyHall = n.readyHall := by
  rw [atExpiry_eq]; exact congrArg (fun m => m.readyHall) (bidRenewed_sansClient n)

theorem atExpiry_queue (n : Node) : (atExpiry n).vcu.queue = n.vcu.queue := by
  rw [atExpiry_eq]; exact congrArg (fun m => m.vcu.queue) (bidRenewed_sansClient n)

theorem atExpiry_hall (n : Node) : (atExpiry n).hsq.hall = .awaitSlot := rfl

theorem atExpiry_now (n : Node) : (atExpiry n).now = n.now :=
  congrArg (fun m => m.now) (atExpiry_sansCourse n)

theorem atExpiry_cfg (n : Node) : (atExpiry n).cfg = n.cfg :=
  congrArg (fun m => m.cfg) (atExpiry_sansCourse n)

theorem atExpiry_mode (n : Node) : (atExpiry n).hsq.mode = n.hsq.mode :=
  congrArg (fun m => m.hsq.mode) (atExpiry_sansCourse n)

theorem atExpiry_epoReached (n : Node) : (atExpiry n).hsq.epoReached =
    (n.hsq.epoReached || (n.cfg.epoEnable && decide (n.cfg.epoLead = 0))) := by
  have hcfg : (bidRenewed n).cfg = n.cfg := congrArg (fun m => m.cfg) (bidRenewed_sansClient n)
  have hepo : (bidRenewed n).hsq.epoReached = n.hsq.epoReached :=
    congrArg (fun m => m.hsq.epoReached) (bidRenewed_sansClient n)
  change (epoAtExpiry (bidRenewed n)).hsq.epoReached = _
  unfold epoAtExpiry; rw [hcfg]
  split
  next h => simp [h.1, h.2]
  next h =>
    rw [hepo]
    have : (n.cfg.epoEnable && decide (n.cfg.epoLead = 0)) = false := by
      simpa using fun he hl => h ⟨he, hl⟩
    rw [this, Bool.or_false]

/-! ## The expiry -/

theorem countdownOver_expires {n : Node} {ends : Time} (hh : n.hsq.hall = .countdown)
    (hc : n.hsq.countdown = .running ends) (hle : ends ≤ n.now) : countdownOver n = expire n := by
  unfold countdownOver; rw [hc]; exact if_pos ⟨hh, hle⟩

theorem vsuAsk_inactive {n : Node} (h : n.cfg.ventGroup = 0) : vsuAsk n = (n, true) :=
  if_neg (by simp [Node.vsuActive, h])

theorem expire_ungrouped {n : Node} (h : n.normal = true) (hl : n.lkc.link ≠ .lost)
    (hg : n.cfg.ventGroup = 0) : expire n = enterDischarging (atExpiry n) := by
  rw [expire_normal h hl, vsuAsk_inactive (by rw [atExpiry_cfg]; exact hg),
    takeSlot_true rfl (atExpiry_hall n)]

end Sys2Proof.Machine

/-! # Countdown expiry -/

namespace Sys2Proof.Machine

/-! ## The bid brought to the re-plan's count -/

theorem Node.bidInFlight_eq_false {n : Node} (h : ∀ i j k c, n.lkc.inFlight ≠ some (.bid i j k c)) :
    n.bidInFlight = false := by
  unfold Node.bidInFlight
  split
  next i j k c hx => exact absurd hx (h i j k c)
  next => rfl

/-- A YIELD handed over writes the waiting BID and YIELD alone. -/
theorem queueYield_eq (h : NodeId) (n : Node) : queueYield h n = { n with
    lkc.outbox.bid := (queueYield h n).lkc.outbox.bid,
    lkc.outbox.yieldTo := (queueYield h n).lkc.outbox.yieldTo } := by
  unfold queueYield; repeat' split
  all_goals rfl

theorem sendYield_eq (n : Node) : sendYield n = { n with
    lkc.outbox.bid := (sendYield n).lkc.outbox.bid,
    lkc.outbox.yieldTo := (sendYield n).lkc.outbox.yieldTo } := by
  unfold sendYield; split
  · rfl
  · exact queueYield_eq _ n

theorem sendYield_handed (n : Node) : yieldHanded n (sendYield n) := by
  intro h hh hl
  have href : ¬ n.refusesFrames = true := by simp [Node.refusesFrames, hl]
  have hs : sendYield n = queueYield h n := by unfold sendYield; rw [hh]
  rw [hs]
  by_cases hw : (n.lkc.outbox.bid.isSome && !n.bidInFlight) = true
  · have he : queueYield h n = n.modOutbox (fun o => { o with bid := none }) :=
      (if_neg href).trans (if_pos hw)
    rw [he]
    refine ⟨rfl, fun hb => ?_, fun _ _ => rfl⟩
    simp [hb] at hw
  · have he : queueYield h n = n.modOutbox (fun o => { o with bid := none, yieldTo := some h }) :=
      (if_neg href).trans (if_neg hw)
    rw [he]
    refine ⟨rfl, fun _ => rfl, fun hb hf => absurd ?_ hw⟩
    simp [Node.bidInFlight_eq_false hf, Option.isSome_iff_ne_none, hb]

theorem sendBid_queued {n : Node} (hh : n.cfg.holder ≠ none) (hl : n.lkc.link ≠ .lost) :
    (sendBid n).rcl.bid = .queued ∧ (sendBid n).rcl.n = n.rcl.n ∧ bidWaits n.rcl.n (sendBid n) := by
  obtain ⟨h, hx⟩ := Option.ne_none_iff_exists'.1 hh
  rw [sendBid_of_joined hx hl]
  refine ⟨rfl, rfl, fun y hy => ?_⟩
  have : h = y := Option.some.inj (hx.symm.trans hy)
  rw [this]; rfl

theorem queueBid_rcl (b : BidContent) (n : Node) : (queueBid b n).rcl = n.rcl := by
  unfold queueBid; split <;> rfl

theorem sendBid_rcl {n : Node} (hh : n.cfg.holder ≠ none) :
    (sendBid n).rcl = { n.rcl with bid := .queued, rebid := false } := by
  obtain ⟨h, hx⟩ := Option.ne_none_iff_exists'.1 hh
  rw [sendBid_of_holder hx, queueBid_rcl]

/-- The node with the re-plan's count in its reserve record. -/
def recounted (k : Nat) (n : Node) : Node := { n with rcl.n := k }

/-- The same with the bid given up. -/
def uncounted (k : Nat) (n : Node) : Node := { n with rcl.n := k, rcl.bid := .none, rcl.rebid := false }

theorem rclNewCount_same {k : Nat} {n : Node} (h : k = n.rcl.bidCount) : rclNewCount k n = n := if_pos h

theorem rclNewCount_none {k : Nat} {n : Node} (h : k ≠ n.rcl.bidCount) (hb : n.rcl.bid = .none) :
    rclNewCount k n = placeOrHold (recounted k n) := by
  refine (if_neg h).trans ?_; rw [hb]; rfl

theorem rclNewCount_held {k : Nat} {n : Node} (h : k ≠ n.rcl.bidCount) (hb : n.rcl.bid = .held) :
    rclNewCount k n = if k = 0 then { recounted k n with rcl.bid := .none } else recounted k n := by
  refine (if_neg h).trans ?_; rw [hb]; rfl

theorem rclNewCount_claims {k : Nat} {n : Node} (h : k ≠ n.rcl.bidCount)
    (hb : n.rcl.bid = .queued ∨ n.rcl.bid = .placed) :
    rclNewCount k n = if k = 0 then sendYield (uncounted k n) else sendBid (recounted k n) := by
  refine (if_neg h).trans ?_; rcases hb with hb | hb <;> rw [hb] <;> rfl

/-- A new count of a bid that waits or was placed: a BID with it, or a YIELD for 0 (R122). -/
theorem rclNewCount_claims_brought {k : Nat} {n : Node} (h : k ≠ n.rcl.bidCount)
    (hb : n.rcl.bid = .queued ∨ n.rcl.bid = .placed) (hholder : 0 < k → n.cfg.holder ≠ none) :
    let t := rclNewCount k n
    t.rcl.n = k ∧ (0 < k → t.rcl.bid = .queued ∧ (n.lkc.link ≠ .lost → bidWaits k t)) ∧
      (k = 0 → t.rcl.bid = .none ∧ yieldHanded n t) := by
  dsimp only
  rw [rclNewCount_claims h hb]
  by_cases h0 : k = 0
  · rw [if_pos h0]
    refine ⟨?_, fun hx => by omega, fun _ => ⟨?_, sendYield_handed (uncounted k n)⟩⟩
    all_goals rw [sendYield_eq]; rfl
  · rw [if_neg h0]
    have hholder' : (recounted k n).cfg.holder ≠ none := hholder (by omega)
    have hrcl := sendBid_rcl hholder'
    exact ⟨congrArg Rcl.n hrcl, fun _ => ⟨congrArg Rcl.bid hrcl, fun hl => (sendBid_queued hholder' hl).2.2⟩,
      fun hx => absurd hx h0⟩

/-- The new count is brought to the bid by R122, given a holder for a count above 0. -/
theorem rclNewCount_brought {k : Nat} {n : Node} (hholder : 0 < k → n.cfg.holder ≠ none) :
    bidBroughtTo k n (rclNewCount k n) := by
  refine ⟨fun h => ?same, fun h => ?_⟩
  case same => rw [rclNewCount_same h]; exact ⟨rfl, rfl, rfl, rfl⟩
  cases hb : n.rcl.bid with
  | none =>
    rw [rclNewCount_none h hb]
    have hpos : 0 < k := by
      rcases Nat.eq_zero_or_pos k with h0 | h0
      · exact absurd (by simp [h0, hb]) h
      · exact h0
    by_cases hp : bidCanBePlaced n
    · rw [placeOrHold_placed (by exact hp)]
      obtain ⟨hq, hn, hw⟩ := sendBid_queued (n := recounted k n) (hholder hpos) (by
        simp [recounted, hp.1])
      exact ⟨hn, fun _ _ => ⟨hq, hw⟩, fun _ hx => absurd hp hx, by simp, by simp, by simp, by simp⟩
    · rw [placeOrHold_held (by exact hp)]
      exact ⟨rfl, fun _ hx => absurd hx hp, fun _ _ => ⟨rfl, rfl, rfl⟩, by simp, by simp, by simp, by simp⟩
  | held =>
    rw [rclNewCount_held h hb]
    by_cases h0 : k = 0
    · rw [if_pos h0]
      exact ⟨rfl, by simp, by simp, fun _ hx => by omega, fun _ _ => ⟨rfl, rfl, rfl⟩, by simp, by simp⟩
    · rw [if_neg h0]
      exact ⟨rfl, by simp, by simp, fun _ _ => ⟨hb, rfl, rfl⟩, fun _ hx => absurd hx h0, by simp, by simp⟩
  | queued =>
    obtain ⟨hn, hpos, hzero⟩ := rclNewCount_claims_brought h (.inl hb) hholder
    exact ⟨hn, by simp, by simp, by simp, by simp, fun _ => hpos, fun _ => hzero⟩
  | placed =>
    obtain ⟨hn, hpos, hzero⟩ := rclNewCount_claims_brought h (.inr hb) hholder
    exact ⟨hn, by simp, by simp, by simp, by simp, fun _ => hpos, fun _ => hzero⟩

/-- What was brought to a bid is read from the bid's part and the configuration. -/
theorem bidBroughtTo_congr {k : Nat} {n t u : Node} (h : bidBroughtTo k n t) (hbid : u.bidPart = t.bidPart)
    (hcfg : u.cfg = t.cfg) : bidBroughtTo k n u := by
  simp only [Node.bidPart, Prod.mk.injEq] at hbid
  obtain ⟨hb, hn, ho, hy⟩ := hbid
  unfold bidBroughtTo bidWaits yieldHanded at h ⊢
  rw [hb, hn, ho, hy, hcfg]; exact h

/-! ## The re-plan -/

theorem aplReplan_planned (n : Node) : groupsPlanned n (aplReplan n).apl := planCounts_planned n n.apl

theorem aplReplan_holder {n : Node} (h : 0 < (aplReplan n).apl.nRes) : n.cfg.holder ≠ none := by
  obtain ⟨-, -, hzero, -, hnone, -⟩ := aplReplan_planned n
  intro hh
  rcases Nat.eq_zero_or_pos ((aplReplan n).apl.wd - (aplReplan n).apl.nOwn * n.cfg.mh) with hw | hw
  · have := (hzero hw).1; omega
  · have := (hnone hw hh).1; omega

theorem bidRenewed_brought (n : Node) : bidBroughtTo (aplReplan n).apl.nRes n (bidRenewed n) :=
  rclNewCount_brought (n := aplReplan n) aplReplan_holder

/-- What a countdown expiry in NORMAL mode leaves of the plan and the bid, in whatever state it ends. -/
structure expiredAs (n t : Node) : Prop where
  apl : t.apl = (aplReplan n).apl
  countdown : t.hsq.countdown = .off
  epo : t.hsq.epoReached = (n.hsq.epoReached || (n.cfg.epoEnable && decide (n.cfg.epoLead = 0)))
  bid : n.vcu.selector.state ≠ .jammed → bidBroughtTo t.apl.nRes n t

theorem atExpiry_expiredAs (n : Node) : expiredAs n (atExpiry n) where
  apl := atExpiry_apl n
  countdown := rfl
  epo := atExpiry_epoReached n
  bid := fun _ => by
    rw [atExpiry_apl]
    refine bidBroughtTo_congr (bidRenewed_brought n) ?_ ?_
    · rw [atExpiry_eq]; rfl
    · rw [atExpiry_eq]

theorem expiredAs.congr {n t u : Node} (h : expiredAs n t) (hapl : u.apl = t.apl)
    (hcd : u.hsq.countdown = t.hsq.countdown) (hepo : u.hsq.epoReached = t.hsq.epoReached)
    (hbid : n.vcu.selector.state ≠ .jammed → u.bidPart = t.bidPart) (hcfg : u.cfg = t.cfg) :
    expiredAs n u where
  apl := hapl.trans h.apl
  countdown := hcd.trans h.countdown
  epo := hepo.trans h.epo
  bid := fun hj => by rw [hapl]; exact bidBroughtTo_congr (h.bid hj) (hbid hj) hcfg

theorem enterDischarging_countdown (n : Node) : (enterDischarging n).hsq.countdown = .off :=
  (congrArg (fun m => m.hsq.countdown) (enterDischarging_calm n)).trans (by rw [releaseWrite_eq]; rfl)

theorem enterDischarging_epoReached (n : Node) :
    (enterDischarging n).hsq.epoReached = n.hsq.epoReached :=
  (congrArg (fun m => m.hsq.epoReached) (enterDischarging_calm n)).trans (by rw [releaseWrite_eq]; rfl)

theorem enterFallback_hall (n : Node) : (enterFallback n).hsq.hall = .discharging :=
  (hall_of_calm (enterFallback_calm n)).trans (by rw [releaseWrite_eq]; rfl)

theorem enterFallback_countdown (n : Node) : (enterFallback n).hsq.countdown = .off :=
  (congrArg (fun m => m.hsq.countdown) (enterFallback_calm n)).trans (by rw [releaseWrite_eq]; rfl)

theorem enterDischarging_cfg (n : Node) : (enterDischarging n).cfg = n.cfg :=
  congrArg (fun m => m.cfg) (enterDischarging_sansCourse n)

/-- The entry to DISCHARGING keeps the plan, the EPO point and the bid of the expiry. -/
theorem expiredAs.discharging {n m : Node} (h : expiredAs n m)
    (hsel : m.vcu.selector = n.vcu.selector) : expiredAs n (enterDischarging m) :=
  h.congr (enterDischarging_apl m) ((enterDischarging_countdown m).trans h.countdown.symm)
    (enterDischarging_epoReached m) (fun hj => enterDischarging_bidPart (by rwa [hsel]))
    (enterDischarging_cfg m)

/-! ## What the expiry ends in -/

/-- What an expiry that enters DISCHARGING at once in NORMAL mode leaves. -/
structure releasedAs (n t : Node) : Prop extends expiredAs n t,
    dischargedAs (n.readyHall.take t.apl.nOwn) t.apl.wd n t where
  hall : t.hsq.hall = .discharging
  resolved : t.apl.nRes = 0 → t.hsq.reservePhase = .resolved
  opened : 0 < t.apl.nRes → n.vcu.selector.state ≠ .jammed → t.hsq.reservePhase = .opened

theorem dischargedAs.of_node {cs : List ChanId} {wd : Nat} {n m t : Node} (h : dischargedAs cs wd m t)
    (hq : m.vcu.queue = n.vcu.queue) (hnow : m.now = n.now) (hcfg : m.cfg = n.cfg) :
    dischargedAs cs wd n t :=
  { h with
    queue := by rw [h.queue, hq]
    hallId := by rw [h.hallId, hcfg]
    duration := by rw [h.duration, hnow, hcfg] }

/-- `m` is the node at the expiry of `n`, with or without a flag set. -/
theorem enterDischarging_releasedAs {n m : Node} (h : expiredAs n m) (hsel : m.vcu.selector = n.vcu.selector)
    (hready : m.readyHall = n.readyHall) (hq : m.vcu.queue = n.vcu.queue) (hnow : m.now = n.now)
    (hcfg : m.cfg = n.cfg) : releasedAs n (enterDischarging m) where
  toexpiredAs := h.discharging hsel
  todischargedAs := by
    have hd := (enterDischarging_dischargedAs m).of_node hq hnow hcfg
    rwa [← enterDischarging_apl m, hready] at hd
  hall := enterDischarging_hall m
  resolved := fun h0 => enterDischarging_resolved (by rwa [enterDischarging_apl] at h0)
  opened := fun hpos hj => enterDischarging_opens (by rwa [enterDischarging_apl] at hpos) (by rwa [hsel])

theorem expiredAs.setFlag {n t : Node} (h : expiredAs n t) (f : Flag) : expiredAs n (t.setFlag f) :=
  h.congr rfl rfl rfl (fun _ => rfl) rfl

theorem releasedAs.isolated {n t : Node} (h : releasedAs n t) : releasedAs n (vsuIsolated t) := by
  unfold vsuIsolated; split
  · exact {
      toexpiredAs := h.toexpiredAs.congr rfl rfl rfl (fun _ => rfl) rfl
      todischargedAs := { h.todischargedAs with }
      hall := h.hall, resolved := h.resolved, opened := h.opened }
  · exact h

/-- With the link LOST, or without a vent group, the expiry enters DISCHARGING at once. -/
theorem expire_releasedAs {n : Node} (h : n.normal = true) (ha : n.lkc.link = .lost ∨ n.cfg.ventGroup = 0) :
    releasedAs n (expire n) := by
  by_cases hl : n.lkc.link = .lost
  · rw [expire_normal_lost h hl]
    exact releasedAs.isolated (enterDischarging_releasedAs ((atExpiry_expiredAs n).setFlag _)
      (atExpiry_selector n) (atExpiry_readyHall n) (atExpiry_queue n) (atExpiry_now n) (atExpiry_cfg n))
  · rw [expire_ungrouped h hl (ha.resolve_left hl)]
    exact enterDischarging_releasedAs (atExpiry_expiredAs n)
      (atExpiry_selector n) (atExpiry_readyHall n) (atExpiry_queue n) (atExpiry_now n) (atExpiry_cfg n)

theorem queueVent_eq {n : Node} (g : Nat) (hl : n.lkc.link ≠ .lost) :
    queueVent g n = { n with lkc.outbox.vent := some g } := if_neg (by simp [Node.refusesFrames, hl])

/-- The node that waits for its slot after a countdown expiry (R13, R137). -/
def slotAsked (n : Node) : Node :=
  { n with vsu := { n.vsu with sought := true, slotWait := some (n.now + 1000 * n.cfg.slotWait), own := .queued },
           lkc.outbox.vent := some n.cfg.ventGroup }

theorem expire_asks {n : Node} (h : n.normal = true) (hl : n.lkc.link ≠ .lost)
    (hg : 0 < n.cfg.ventGroup) : expire n = slotAsked (atExpiry n) := by
  have hmode : (atExpiry n).normal = true := Node.normal_iff.2 ((atExpiry_mode n).trans (Node.normal_iff.1 h))
  have hl' : (atExpiry n).lkc.link ≠ .lost := by rwa [atExpiry_link]
  have hact : (atExpiry n).vsuActive = true := by simp [Node.vsuActive, hmode, atExpiry_cfg, hg]
  have href : (atExpiry n).refusesFrames = false := by simp [Node.refusesFrames, hl']
  have hask : vsuAsk (atExpiry n) = (slotAsked (atExpiry n), false) := by
    refine (if_pos hact).trans ?_
    rw [href, queueVent_eq _ (by exact hl')]; rfl
  rw [expire_normal h hl, hask]; rfl

theorem expire_expiredAs {n : Node} (h : n.normal = true) : expiredAs n (expire n) := by
  by_cases ha : n.lkc.link = .lost ∨ n.cfg.ventGroup = 0
  · exact (expire_releasedAs h ha).toexpiredAs
  · rw [not_or] at ha
    rw [expire_asks h ha.1 (by omega)]
    exact (atExpiry_expiredAs n).congr rfl rfl rfl (fun _ => rfl) rfl

/-! ## At the end of the event -/

theorem finish_bidPart (b n : Node) : (finish b n).bidPart = n.bidPart :=
  congrArg (fun m => m.bidPart) (finish_bare b n)

theorem finish_cfg (b n : Node) : (finish b n).cfg = n.cfg :=
  congrArg (fun m => m.cfg) (finish_bare b n)

theorem expiredAs.finish {n t : Node} (h : expiredAs n t) (b : Node) : expiredAs n (finish b t) :=
  h.congr (finish_apl b t) (by rw [finish_hsq]) (by rw [finish_hsq]) (fun _ => finish_bidPart b t)
    (finish_cfg b t)

theorem dischargedAs.finish {cs : List ChanId} {wd : Nat} {n t : Node} (h : dischargedAs cs wd n t)
    (b : Node) : dischargedAs cs wd n (finish b t) where
  firing := by rw [finish_hsq, h.firing]
  queue := by rw [finish_vcu, h.queue]
  queued := fun c hc => by simpa only [Node.chan, finish_vcu] using h.queued c hc
  void := by simpa only [Node.row, finish_cfs] using h.void
  released := by rw [finish_cfs, h.released]
  hallId := by rw [finish_cfs, h.hallId]
  mass := by rw [finish_cfs, h.mass]
  duration := by rw [finish_hsq, h.duration]
  elapsed := by rw [finish_hsq, h.elapsed]
  flag := Node.raisedIn_of_svp (finish_svp b t) _ h.flag

theorem remaining_of_off {n : Node} (h : n.hsq.countdown = .off) : n.remaining = 0 := by
  unfold Node.remaining; rw [h]

/-- Only RELEASED is set at an entry to DISCHARGING that no flag explains. -/
theorem flag_of_released {n t : Node} {f : Flag} (h : t.svp = (n.setFlag .released).svp)
    (hf : f ≠ .released) : t.flag f = n.flag f := by
  rw [← Node.flag_setFlag_other n .released f hf, Node.flag, h]; rfl

theorem countdownExpiry_exec {s : State} {ends : Time} (hr : s.node.running = true)
    (hh : s.node.hsq.hall = .countdown) (hc : s.node.hsq.countdown = .running ends)
    (hle : ends ≤ s.node.now) :
    exec .countdownExpiry s = .next { s with node := finish s.node (expire s.node) } := by
  rw [← countdownOver_expires hh hc hle]; exact if_pos hr

/-- Settles O15: `dischargedAs` of the entry by the mode. -/
theorem dischargeEntryRequestsTheOwnGroups : Obligations.DischargeEntryRequestsTheOwnGroups := by
  intro s ends hr hh hc hle hatonce
  cases hmode : s.node.hsq.mode with
  | fallback =>
    have he := expire_fallback (n := s.node) (by simp [Node.normal, hmode])
    have hd := (enterFallback_dischargedAs s.node).finish s.node
    rw [← he] at hd
    refine ⟨_, _, countdownExpiry_exec hr hh hc hle, fun _ => rfl, by simp, hd.firing, hd.queue, hd.queued,
      hd.void, hd.released, hd.hallId, hd.mass, hd.duration, hd.elapsed, hd.flag, fun _ => ?_, by simp⟩
    rw [finish_hsq, he]; rfl
  | normal =>
    have hrel := expire_releasedAs (Node.normal_iff.2 hmode) (hatonce.resolve_left (by simp [hmode]))
    have hd := hrel.todischargedAs.finish s.node
    refine ⟨_, _, countdownExpiry_exec hr hh hc hle, by simp, fun _ => ?_, hd.firing, hd.queue, hd.queued,
      hd.void, hd.released, hd.hallId, ?_, hd.duration, hd.elapsed, hd.flag, fun h0 => ?_, fun _ hpos hj => ?_⟩
    · rw [finish_apl]
    · rw [finish_apl, hd.mass]; rfl
    · rw [finish_hsq]; rw [finish_apl] at h0; exact hrel.resolved (h0.resolve_left (by simp))
    · rw [finish_hsq]; rw [finish_apl] at hpos; exact hrel.opened hpos hj

/-- Settles O14: `expire` by the mode, the link and the vent group. -/
theorem countdownExpiryByModeAndLink : Obligations.CountdownExpiryByModeAndLink := by
  intro s ends hr hh hc hle
  refine ⟨_, countdownExpiry_exec hr hh hc hle, ?remaining, fun hmode => ?fallback, fun hmode => ?normal⟩
  case remaining =>
    refine remaining_of_off ?_
    rw [finish_hsq]
    cases hn : s.node.normal with
    | true => exact (expire_expiredAs hn).countdown
    | false => rw [expire_fallback hn]; exact enterFallback_countdown _
  case fallback =>
    have he := expire_fallback (n := s.node) (by simp [Node.normal, hmode])
    have hsvp : (finish s.node (expire s.node)).svp = (s.node.setFlag .released).svp := by
      rw [finish_svp, he, enterFallback_svp]
    refine ⟨?_, ?_, flag_of_released hsvp (by simp), flag_of_released hsvp (by simp)⟩
    · rw [finish_hsq, he, enterFallback_hall]
    · rw [finish_apl, he, enterFallback_apl]
  case normal =>
    have hn := Node.normal_iff.2 hmode
    have hx := (expire_expiredAs hn).finish s.node
    refine ⟨⟨?plan, ?groups, hx.epo, hx.bid⟩, fun hl => ?lost, fun hl hg => ?ungrouped, fun hl hg => ?asks⟩
    case plan => rw [hx.apl]; rfl
    case groups => rw [hx.apl]; exact aplReplan_planned s.node
    case lost =>
      refine ⟨?_, ?_⟩
      · rw [finish_hsq]; exact (expire_releasedAs hn (.inl hl)).hall
      · rw [Node.flag, finish_svp, expire_normal_lost hn hl]; exact isolatedRelease_flag _
    case ungrouped =>
      have hsvp : (finish s.node (expire s.node)).svp = (s.node.setFlag .released).svp := by
        rw [finish_svp, expire_ungrouped hn hl hg, enterDischarging_svp]
        exact setFlag_svp _ (atExpiry_svp _)
      refine ⟨?_, flag_of_released hsvp (by simp), flag_of_released hsvp (by simp)⟩
      rw [finish_hsq]; exact (expire_releasedAs hn (.inr hg)).hall
    case asks =>
      simp only [finish_hsq, finish_vsu, finish_vent]
      rw [expire_asks hn hl hg, slotAsked]
      refine ⟨rfl, rfl, rfl, ?_, ?_⟩
      · change some ((atExpiry s.node).now + 1000 * (atExpiry s.node).cfg.slotWait) = _
        rw [atExpiry_now, atExpiry_cfg]
      · change some (atExpiry s.node).cfg.ventGroup = _
        rw [atExpiry_cfg]

end Sys2Proof.Machine

/-! # The end of the reserve phase, and the loss of the holder -/

namespace Sys2Proof.Machine

/-! ## The end of the phase -/

/-- RCL's record once a bid is dropped. -/
theorem dropBid_eq (n : Node) : dropBid n = { n with
    rcl := { n.rcl with bid := .none, rebid := false }, lkc.outbox := (dropBid n).lkc.outbox } := by
  unfold dropBid; dsimp only; split
  · rw [sendYield_eq]
  · rfl

theorem closeAfterFlow_eq (n : Node) : closeAfterFlow n = { n with
    rcl := { n.rcl with closePending := (closeAfterFlow n).rcl.closePending },
    vcu.selector := (closeAfterFlow n).vcu.selector } := by
  unfold closeAfterFlow; repeat' split
  · rfl
  · rw [selClose_eq]
  · rfl

/-- The node at the end of a reserve phase before the phase is resolved. -/
def phaseLeft (n : Node) : Node := closeAfterFlow (dropBid n)

theorem phaseLeft_eq (n : Node) : phaseLeft n = { n with
    rcl := { n.rcl with bid := .none, rebid := false, closePending := (phaseLeft n).rcl.closePending },
    vcu.selector := (phaseLeft n).vcu.selector, lkc.outbox := (phaseLeft n).lkc.outbox } := by
  unfold phaseLeft; rw [closeAfterFlow_eq, dropBid_eq]

/-- The outcome a phase ends with. -/
def Rcl.ended (lost : Bool) (r : Rcl) : ReserveOutcome := if lost then .lost else r.finalOutcome

theorem rclEnd_eq (b : Bool) (n : Node) : rclEnd b n = rclResolve (n.rcl.ended b) (phaseLeft n) := rfl

theorem rclResolve_rcl (o : ReserveOutcome) (n : Node) :
    (rclResolve o n).rcl = { n.rcl with phase := .done, wait := .stopped, outcome := o } := by
  unfold rclResolve; dsimp only; split <;> rfl

theorem rclResolve_opened {o : ReserveOutcome} {n : Node} (h : n.hsq.reservePhase = .opened) :
    (rclResolve o n).hsq = { n.hsq with reservePhase := .resolved, reserveOutcome := o } := by
  unfold rclResolve; dsimp only; rw [if_pos h]

theorem rclResolve_other {o : ReserveOutcome} {n : Node} (h : n.hsq.reservePhase ≠ .opened) :
    (rclResolve o n).hsq = n.hsq := by
  unfold rclResolve; dsimp only; rw [if_neg h]

theorem rclEnd_rcl (b : Bool) (n : Node) : (rclEnd b n).rcl = { n.rcl with
    bid := .none, rebid := false, closePending := (phaseLeft n).rcl.closePending, phase := .done,
    wait := .stopped, outcome := n.rcl.ended b } := by
  rw [rclEnd_eq, rclResolve_rcl, phaseLeft_eq]

theorem rclEnd_opened {b : Bool} {n : Node} (h : n.hsq.reservePhase = .opened) :
    (rclEnd b n).hsq = { n.hsq with reservePhase := .resolved, reserveOutcome := n.rcl.ended b } := by
  rw [rclEnd_eq, rclResolve_opened (by rw [phaseLeft_eq]; exact h), phaseLeft_eq]

/-! ## The loss of the holder -/

/-- The node of a loss with its grant gone and the loss flagged. -/
def lossFlagged (n : Node) : Node := Node.setFlagIf { n with rcl.grantHeard := 0 } n.hadGrant .holderLost

theorem lossMarked_eq (b : Bool) (n : Node) : lossMarked b n =
    if b && (lossFlagged n).rcl.claims then { lossFlagged n with rcl.bid := .held } else lossFlagged n := rfl

theorem lossFlagged_rcl (n : Node) : (lossFlagged n).rcl = { n.rcl with grantHeard := 0 } :=
  Node.setFlagIf_rcl _ _ _

theorem lossMarked_rcl (b : Bool) (n : Node) : (lossMarked b n).rcl = { n.rcl with
    grantHeard := 0, bid := if b = true ∧ n.rcl.claims = true then .held else n.rcl.bid } := by
  have hclaims : (lossFlagged n).rcl.claims = n.rcl.claims := by rw [lossFlagged_rcl]; rfl
  rw [lossMarked_eq, hclaims]
  split
  next h => rw [if_pos (by simpa using h)]; dsimp only; rw [lossFlagged_rcl]
  next h => rw [if_neg (by simpa using h), lossFlagged_rcl]

theorem lossMarked_hsq (b : Bool) (n : Node) : (lossMarked b n).hsq = n.hsq := by
  rw [lossMarked_eq]; split <;> exact Node.setFlagIf_hsq _ _ _

theorem lossMarked_svp (b : Bool) (n : Node) : (lossMarked b n).svp = (lossFlagged n).svp := by
  rw [lossMarked_eq]; split <;> rfl

theorem lossMarked_flag {n : Node} (b : Bool) (h : n.hadGrant = true) :
    (lossMarked b n).flag .holderLost = true := by
  rw [Node.flag, lossMarked_svp, lossFlagged, h]; exact Node.flag_setFlag_same _ _

/-- In DISCHARGING a loss with a grant or a feed outstanding ends the phase, IDLE too (R128, log 37). -/
theorem rclLoss_ends {b : Bool} {n : Node} (hg : n.hadGrant = true) (hh : n.hsq.hall = .discharging)
    (hp : n.rcl.phase ≠ .done) : rclLoss b n =
      if n.rcl.phase = .requested then rclFeedLost true (lossMarked b n) else rclEnd true (lossMarked b n) := by
  have hhall : (lossMarked b n).hsq.hall = .discharging := by rw [lossMarked_hsq, hh]
  have hphase : (lossMarked b n).rcl.phase = n.rcl.phase := by rw [lossMarked_rcl]
  have he : rclLoss b n = match (lossMarked b n).rcl.phase with
      | .requested => rclFeedLost true (lossMarked b n)
      | .waitingGrant => rclEnd true (lossMarked b n)
      | .opening => rclEnd true (lossMarked b n)
      | .idle => rclEnd true (lossMarked b n)
      | .done => lossMarked b n := by
    refine (if_neg (c := (!n.hadGrant) = true) (by simp [hg])).trans ?_
    split
    case h_4 => rfl
    all_goals next hx => exact absurd (hhall.symm.trans hx) (by simp)
  rw [he, hphase]
  cases hc : n.rcl.phase with
  | done => exact absurd hc hp
  | _ => rfl

/-- Out of DISCHARGING a loss marks the record and no more. -/
theorem rclLoss_marks {n : Node} (b : Bool) (hh : n.hsq.hall ≠ .discharging) :
    ∃ r, rclLoss b n = { lossMarked b n with rcl.rebid := r } := by
  rcases rclLoss_cases b n with h | ⟨hd, -⟩
  · exact h
  · exact absurd hd hh

theorem rclEnd_svp (b : Bool) (n : Node) : (rclEnd b n).svp = n.svp :=
  svp_of_sansClient (rclEnd_sansClient b n)

/-- The node that a lost feed ends its phase from. -/
def feedGone (n : Node) : Node := selClose ({ n with rcl.feedTimeout := none }.setFlag .feedLost)

theorem rclFeedLost_eq (b : Bool) (n : Node) : rclFeedLost b n = rclEnd b (feedGone n) := rfl

theorem feedGone_eq (n : Node) : feedGone n = { n with
    rcl.feedTimeout := none, svp := (n.setFlag .feedLost).svp, vcu.selector := (feedGone n).vcu.selector } := by
  unfold feedGone; rw [selClose_eq]; rfl

theorem feedGone_flag (n : Node) : (feedGone n).flag .feedLost = true := by
  rw [feedGone_eq]; exact n.flag_setFlag_same .feedLost

theorem feedGone_raises (n : Node) : n.raisedIn (feedGone n) := by
  rw [feedGone_eq]; exact n.raisedIn_setFlag .feedLost

end Sys2Proof.Machine

/-! # The link lost

In LOST every frame but a STANDING is refused, so the outbox stays as it is: `mute` is what of the link
record no block may then change. -/

namespace Sys2Proof.Machine

/-! ## The outbox in LOST -/

/-- The link state, and the outbox while the link is LOST. -/
def Node.mute (n : Node) : LinkState × Option Outbox :=
  (n.lkc.link, if n.lkc.link = .lost then some n.lkc.outbox else none)

theorem mute_of_lkc {a b : Node} (h : a.lkc = b.lkc) : a.mute = b.mute := by unfold Node.mute; rw [h]

theorem mute_of_sansFire {a b : Node} (h : a.sansFire = b.sansFire) : a.mute = b.mute :=
  mute_of_lkc (congrArg (fun m => m.lkc) h)
theorem mute_of_sansPlan {a b : Node} (h : a.sansPlan = b.sansPlan) : a.mute = b.mute :=
  mute_of_lkc (congrArg (fun m => m.lkc) h)

/-- A frame handed over under R89 is refused in LOST. -/
theorem mute_modOutbox {n : Node} (f : Outbox → Outbox) (h : ¬ n.refusesFrames = true) :
    (n.modOutbox f).mute = n.mute := by
  have hl : n.lkc.link ≠ .lost := by simpa [Node.refusesFrames] using h
  simp [Node.mute, Node.modOutbox, hl]

theorem outbox_of_mute {a b : Node} (h : a.mute = b.mute) (hl : b.lkc.link = .lost) :
    a.lkc.link = .lost ∧ a.lkc.outbox = b.lkc.outbox := by
  have ha : a.lkc.link = .lost := (congrArg Prod.fst h).trans hl
  have ho := congrArg Prod.snd h
  simp only [Node.mute, ha, hl] at ho
  exact ⟨ha, Option.some.inj ho⟩

@[simp] theorem queueBid_mute (b : BidContent) (n : Node) : (queueBid b n).mute = n.mute := by
  unfold queueBid; split
  · rfl
  next h => exact mute_modOutbox _ h
@[simp] theorem queueWayopen_mute (h : NodeId) (k : Nat) (n : Node) :
    (queueWayopen h k n).mute = n.mute := by
  unfold queueWayopen; split
  · rfl
  next h => exact mute_modOutbox _ h
@[simp] theorem queueYield_mute (h : NodeId) (n : Node) : (queueYield h n).mute = n.mute := by
  unfold queueYield; split
  · rfl
  next h => split <;> exact mute_modOutbox _ h
@[simp] theorem queueVent_mute (g : Nat) (n : Node) : (queueVent g n).mute = n.mute := by
  unfold queueVent; split
  · rfl
  next h => exact mute_modOutbox _ h
@[simp] theorem queueVentfree_mute (g : Nat) (n : Node) : (queueVentfree g n).mute = n.mute := by
  unfold queueVentfree; split
  · rfl
  next h => split <;> exact mute_modOutbox _ h
@[simp] theorem mute_rcl (n : Node) (r : Rcl) : Node.mute { n with rcl := r } = n.mute := rfl
@[simp] theorem mute_hsq (n : Node) (h : Hsq) : Node.mute { n with hsq := h } = n.mute := rfl
@[simp] theorem mute_vsu (n : Node) (v : Vsu) : Node.mute { n with vsu := v } = n.mute := rfl
@[simp] theorem sendBid_mute (n : Node) : (sendBid n).mute = n.mute := by
  unfold sendBid; split <;> simp
@[simp] theorem sendYield_mute (n : Node) : (sendYield n).mute = n.mute := by
  unfold sendYield; split <;> simp
@[simp] theorem sendWayopen_mute (n : Node) : (sendWayopen n).mute = n.mute := by
  unfold sendWayopen; split <;> simp
@[simp] theorem placeOrHold_mute (n : Node) : (placeOrHold n).mute = n.mute := by
  unfold placeOrHold; split <;> simp
@[simp] theorem selClose_mute (n : Node) : (selClose n).mute = n.mute := by rw [selClose_eq]; rfl
@[simp] theorem selOpen_mute (n : Node) : (selOpen n).mute = n.mute := by rw [selOpen_eq]; rfl
@[simp] theorem rclCountdown_mute (n : Node) : (rclCountdown n).mute = n.mute := by
  unfold rclCountdown; dsimp only; repeat' split
  all_goals simp
@[simp] theorem rclNewCount_mute (k : Nat) (n : Node) : (rclNewCount k n).mute = n.mute := by
  unfold rclNewCount; dsimp only; repeat' split
  all_goals simp
@[simp] theorem rclResolve_mute (o : ReserveOutcome) (n : Node) : (rclResolve o n).mute = n.mute := by
  unfold rclResolve; dsimp only; split <;> rfl
@[simp] theorem dropBid_mute (n : Node) : (dropBid n).mute = n.mute := by
  unfold dropBid; dsimp only; split <;> simp
@[simp] theorem closeAfterFlow_mute (n : Node) : (closeAfterFlow n).mute = n.mute := by
  rw [closeAfterFlow_eq]; rfl
@[simp] theorem rclEnd_mute (b : Bool) (n : Node) : (rclEnd b n).mute = n.mute := by simp [rclEnd]
@[simp] theorem rclAct_mute (n : Node) : (rclAct n).mute = n.mute := by
  unfold rclAct; repeat' split
  all_goals simp
@[simp] theorem rclBegin_mute (n : Node) : (rclBegin n).mute = n.mute := by simp [rclBegin]
@[simp] theorem openReserve_mute (n : Node) : (openReserve n).mute = n.mute := by
  unfold openReserve; split <;> simp
@[simp] theorem releaseWrite_mute (a b c : Nat) (n : Node) : (releaseWrite a b c n).mute = n.mute := by
  rw [releaseWrite_eq]; rfl
@[simp] theorem fireOwn_mute (cs : List ChanId) (n : Node) : (fireOwn cs n).mute = n.mute :=
  mute_of_sansFire (fireOwn_sansFire cs n)
@[simp] theorem aplEvaluate_mute (n : Node) : (aplEvaluate n).mute = n.mute :=
  mute_of_sansPlan (aplEvaluate_sansPlan n)
@[simp] theorem aplPlan_mute (n : Node) : (aplPlan n).mute = n.mute :=
  mute_of_sansPlan (aplPlan_sansPlan n)
theorem setFlag_mute (n : Node) (f : Flag) : (n.setFlag f).mute = n.mute := rfl
theorem startDuration_mute (n : Node) : (startDuration n).mute = n.mute := rfl
@[simp] theorem enterDischarging_mute (n : Node) : (enterDischarging n).mute = n.mute := by
  have h : (openReserve (dischargeFired n)).mute = n.mute := by
    rw [openReserve_mute, dischargeFired, fireOwn_mute, dischargeWritten, releaseWrite_mute]; rfl
  rw [enterDischarging_eq, setFlag_mute, startDuration_mute, h]
@[simp] theorem enterFallback_mute (n : Node) : (enterFallback n).mute = n.mute := by
  have h : (fallbackFired n).mute = n.mute := by
    rw [fallbackFired, fireOwn_mute, fallbackWritten, releaseWrite_mute]; rfl
  rw [enterFallback_eq, setFlag_mute, startDuration_mute]; exact h
@[simp] theorem vsuIsolated_mute (n : Node) : (vsuIsolated n).mute = n.mute := by
  unfold vsuIsolated; split <;> rfl
@[simp] theorem isolatedRelease_mute (n : Node) : (isolatedRelease n).mute = n.mute := by
  rw [isolatedRelease, vsuIsolated_mute, enterDischarging_mute]; rfl
@[simp] theorem vsuAsk_mute (n : Node) : (vsuAsk n).1.mute = n.mute := by
  unfold vsuAsk; split <;> simp
@[simp] theorem vsuWithdraw_mute (n : Node) : (vsuWithdraw n).mute = n.mute := by
  unfold vsuWithdraw; dsimp only; split <;> simp
@[simp] theorem takeSlot_mute (r : Node × Bool) : (takeSlot r).mute = r.1.mute := by
  unfold takeSlot slotHeld; repeat' split
  all_goals simp
@[simp] theorem atExpiry_mute (n : Node) : (atExpiry n).mute = n.mute := by
  rw [atExpiry_eq, mute_hsq, bidRenewed, rclNewCount_mute]; rfl
@[simp] theorem expire_mute (n : Node) : (expire n).mute = n.mute := by
  cases hn : n.normal with
  | false => rw [expire_fallback hn, enterFallback_mute]
  | true =>
    by_cases hl : n.lkc.link = .lost
    · rw [expire_normal_lost hn hl, isolatedRelease_mute, atExpiry_mute]
    · rw [expire_normal hn hl, takeSlot_mute, vsuAsk_mute, atExpiry_mute]
@[simp] theorem expireIfDone_mute (n : Node) : (expireIfDone n).mute = n.mute := by
  unfold expireIfDone; split <;> simp
@[simp] theorem holdOperated_mute (n : Node) : (holdOperated n).mute = n.mute := by
  unfold holdOperated; repeat' split
  all_goals rfl
@[simp] theorem epoTest_mute (n : Node) : (epoTest n).mute = n.mute := by rw [epoTest_eq]; rfl
@[simp] theorem enterCountdown_mute (c : Cause) (k : Nat) (n : Node) :
    (enterCountdown c k n).mute = n.mute := by
  have hs : (startCountdown c k n).mute = n.mute := rfl
  unfold enterCountdown; dsimp only; rw [expireIfDone_mute]; repeat' split
  all_goals simp [hs]
@[simp] theorem reeval_mute (n : Node) : (reeval n).mute = n.mute := by
  unfold reeval rest; dsimp only; repeat' split
  · simp
  all_goals rfl
@[simp] theorem hsqLost_mute (n : Node) : (hsqLost n).mute = n.mute := by
  have h : (refreshAdjacent n).mute = n.mute := (reeval_mute _).trans rfl
  unfold hsqLost; dsimp only; split <;> simp [h]
@[simp] theorem soakTest_mute (n : Node) : (soakTest n).mute = n.mute := by
  unfold soakTest; split
  · rw [enterSoak_eq, mute_hsq]
    unfold soakSettled; split
    · rw [vsuWithdraw_mute, aplEvaluate_mute]; rfl
    · rfl
  · rfl
@[simp] theorem lossMarked_mute (b : Bool) (n : Node) : (lossMarked b n).mute = n.mute := by
  have h : (lossFlagged n).mute = n.mute := mute_of_lkc (Node.setFlagIf_lkc _ _ _)
  rw [lossMarked_eq]; split <;> simp [h]
@[simp] theorem feedGone_mute (n : Node) : (feedGone n).mute = n.mute := by rw [feedGone_eq]; rfl
@[simp] theorem rclLoss_mute (b : Bool) (n : Node) : (rclLoss b n).mute = n.mute := by
  obtain ⟨r, e⟩ | ⟨_, _, ⟨_, e⟩ | e⟩ := rclLoss_cases b n
  · rw [e]; exact lossMarked_mute b n
  · rw [e, rclFeedLost_eq, rclEnd_mute, feedGone_mute, lossMarked_mute]
  · rw [e, rclEnd_mute, lossMarked_mute]
@[simp] theorem holderLoss_mute (b : Bool) (n : Node) : (holderLoss b n).mute = n.mute := by
  rw [holderLoss, soakTest_mute, rclLoss_mute]

/-- A report that HSQ and RCL both take, in either order, keeps what both keep. -/
theorem hsqAndRcl_keeps {α : Type} {f g : Node → Node} (v : Node → α) (hf : ∀ m, v (f m) = v m)
    (hg : ∀ m, v (g m) = v m) (hdrawn : ∀ m : Node, v m.drawn = v m) (n : Node) :
    v (hsqAndRcl f g n) = v n := by
  unfold hsqAndRcl; split
  · rcases eitherOrder_cases f g n with e | e
    · rw [e, hf, hg, hdrawn]
    · rw [e, hg, hf, hdrawn]
  · rw [hg, hf]

/-! ## The adjacent cause -/

theorem adjacent_of_sansConfirm {a b : Node} (h : a.sansConfirm = b.sansConfirm) :
    a.hsq.adjacent = b.hsq.adjacent := congrArg (fun m => m.hsq.adjacent) h

theorem adjacent_of_sansCourse {a b : Node} (h : a.sansCourse = b.sansCourse) :
    a.hsq.adjacent = b.hsq.adjacent := congrArg (fun m => m.hsq.adjacent) h

theorem adjacentNow_of_sansCourse {a b : Node} (h : a.sansCourse = b.sansCourse) :
    a.adjacentNow = b.adjacentNow := congrArg (fun m => m.adjacentNow) h

theorem refreshAdjacent_adjacent (n : Node) : (refreshAdjacent n).hsq.adjacent = n.adjacentNow :=
  (adjacent_of_sansConfirm (reeval_sansConfirm _)).trans rfl

theorem hsqLost_adjacent (n : Node) : (hsqLost n).hsq.adjacent = n.adjacentNow := by
  unfold hsqLost; dsimp only; split
  · rw [adjacent_of_sansCourse (isolatedRelease_sansCourse _), refreshAdjacent_adjacent]
  · exact refreshAdjacent_adjacent n

theorem adjacentNow_absent {n : Node} (h : ∀ i, (n.peer i).present = false) : n.adjacentNow = false := by
  unfold Node.adjacentNow
  rw [List.any_eq_false]
  intro i _
  simp [h i]

theorem hsqAndRcl_lost_adjacent (n : Node) :
    (hsqAndRcl hsqLost (holderLoss true) n).hsq.adjacent = n.adjacentNow := by
  have hloss := fun m => holderLoss_sansCourse true m
  unfold hsqAndRcl; split
  · rcases eitherOrder_cases hsqLost (holderLoss true) n with e | e
    · rw [e, hsqLost_adjacent, adjacentNow_of_sansCourse (hloss _)]; rfl
    · rw [e, adjacent_of_sansCourse (hloss _), hsqLost_adjacent]; rfl
  · rw [adjacent_of_sansCourse (hloss _), hsqLost_adjacent]

/-! ## The grant heard -/

theorem soakTest_rcl (n : Node) : (soakTest n).rcl = n.rcl := by
  unfold soakTest; split
  · rw [enterSoak_eq]
    change (soakSettled n).rcl = _
    unfold soakSettled; split
    · exact (congrArg (fun m => m.rcl) (vsuWithdraw_sansVent _)).trans
        (congrArg (fun m => m.rcl) (aplEvaluate_sansPlan _))
    · rfl
  · rfl

theorem rclAct_grantHeard (n : Node) : (rclAct n).rcl.grantHeard = n.rcl.grantHeard := by
  unfold rclAct; split
  · split
    · rw [selOpen_eq]
    · rw [selOpen_eq]
    · rfl
    · unfold sendWayopen; split
      · rfl
      · dsimp only; rw [queueWayopen_eq]
    · rw [rclEnd_rcl]
  · rfl

theorem openReserve_grantHeard (n : Node) : (openReserve n).rcl.grantHeard = n.rcl.grantHeard := by
  unfold openReserve; split
  · exact (rclAct_grantHeard _).trans rfl
  · rfl

theorem enterDischarging_grantHeard (n : Node) :
    (enterDischarging n).rcl.grantHeard = n.rcl.grantHeard :=
  (openReserve_grantHeard (dischargeFired n)).trans
    ((congrArg (fun m => m.rcl.grantHeard) (dischargeFired_sansFire n)).trans (by
      rw [dischargeWritten, releaseWrite_eq]; rfl))

theorem vsuIsolated_rcl (n : Node) : (vsuIsolated n).rcl = n.rcl := by
  unfold vsuIsolated; split <;> rfl

theorem isolatedRelease_grantHeard (n : Node) :
    (isolatedRelease n).rcl.grantHeard = n.rcl.grantHeard := by
  rw [isolatedRelease, vsuIsolated_rcl, enterDischarging_grantHeard, Node.setFlag_rcl]

theorem rclLoss_grantHeard (b : Bool) (n : Node) : (rclLoss b n).rcl.grantHeard = 0 := by
  have hm : (lossMarked b n).rcl.grantHeard = 0 := by rw [lossMarked_rcl]
  obtain ⟨r, e⟩ | ⟨_, _, ⟨_, e⟩ | e⟩ := rclLoss_cases b n
  · rw [e]; exact hm
  · rw [e, rclFeedLost_eq, rclEnd_rcl, feedGone_eq]; exact hm
  · rw [e, rclEnd_rcl]; exact hm

theorem holderLoss_rcl (b : Bool) (n : Node) : (holderLoss b n).rcl = (rclLoss b n).rcl := soakTest_rcl _

theorem holderLoss_grantHeard (b : Bool) (n : Node) : (holderLoss b n).rcl.grantHeard = 0 := by
  rw [holderLoss_rcl, rclLoss_grantHeard]

theorem hsqLost_await {n : Node} (h : n.hsq.hall = .awaitSlot) :
    hsqLost n = isolatedRelease { n with hsq.adjacent := n.adjacentNow } := by
  have he : refreshAdjacent n = { n with hsq.adjacent := n.adjacentNow } :=
    refreshAdjacent_of_other (by simp [h]) (by simp [h])
  unfold hsqLost; rw [he]; exact if_pos h

theorem hsqAndRcl_lost_grantHeard (n : Node) :
    (hsqAndRcl hsqLost (holderLoss true) n).rcl.grantHeard = 0 := by
  unfold hsqAndRcl; split
  next h =>
    rcases eitherOrder_cases hsqLost (holderLoss true) n with e | e
    · have hd : n.drawn.hsq.hall = .awaitSlot := h
      have hh : (holderLoss true n.drawn).hsq.hall = .awaitSlot := by
        rw [holderLoss_of_other true (by simp [hd]), hall_of_calm (rclLoss_calm true _), hd]
      rw [e, hsqLost_await hh, isolatedRelease_grantHeard]
      exact holderLoss_grantHeard true _
    · rw [e, holderLoss_grantHeard]
  next => rw [holderLoss_grantHeard]

/-! ## Flags -/

theorem rest_svp (n : Node) : (rest n).svp = n.svp := by
  unfold rest; dsimp only; split <;> rfl

theorem reeval_raises (n : Node) : n.raisedIn (reeval n) := by
  unfold reeval; split
  · split
    · exact Node.raisedIn_trans (n.raisedIn_setFlag _) (enterCountdown_raises _ _ n)
    · exact Node.raisedIn_of_svp (rest_svp n)
  · exact n.raisedIn_refl

theorem refreshAdjacent_raises (n : Node) : n.raisedIn (refreshAdjacent n) := fun f hf =>
  reeval_raises { n with hsq.adjacent := n.adjacentNow } f hf

theorem hsqLost_raises (n : Node) : n.raisedIn (hsqLost n) := by
  unfold hsqLost; dsimp only; split
  · exact Node.raisedIn_trans (refreshAdjacent_raises n) (isolatedRelease_raises _)
  · exact refreshAdjacent_raises n

theorem hsqAndRcl_raises {f g : Node → Node} (hf : ∀ m : Node, m.raisedIn (f m))
    (hg : ∀ m : Node, m.raisedIn (g m))
    (n : Node) : n.raisedIn (hsqAndRcl f g n) := by
  unfold hsqAndRcl; split
  · have hd : n.raisedIn n.drawn := fun _ h => h
    rcases eitherOrder_cases f g n with e | e
    · rw [e]; exact Node.raisedIn_trans hd (Node.raisedIn_trans (hg _) (hf _))
    · rw [e]; exact Node.raisedIn_trans hd (Node.raisedIn_trans (hf _) (hg _))
  · exact Node.raisedIn_trans (hf _) (hg _)

/-! ## The hall at the loss -/

theorem hsqAndRcl_of_other {f g : Node → Node} {n : Node} (h : n.hsq.hall ≠ .awaitSlot) :
    hsqAndRcl f g n = g (f n) := if_neg h

theorem hsqLost_of_other {n : Node} (hq : n.hsq.hall ≠ .quiet) (ha : n.hsq.hall ≠ .alert)
    (hs : n.hsq.hall ≠ .awaitSlot) : hsqLost n = { n with hsq.adjacent := n.adjacentNow } := by
  unfold hsqLost; rw [refreshAdjacent_of_other hq ha]; exact if_neg hs

theorem reeval_rests {n : Node} (hrest : n.hsq.hall = .quiet ∨ n.hsq.hall = .alert)
    (hc : ¬ crossZone n.hsq) : (reeval n).hsq.hall = .quiet ∨ (reeval n).hsq.hall = .alert := by
  rw [reeval_of_rest hrest hc]
  by_cases h : n.hsq.caused
  · rw [rest_caused h]; exact .inr rfl
  · rw [rest_uncaused h]; exact .inl rfl

/-- The node with the adjacent cause worked out afresh, before the sequencer acts on it. -/
def adjacentTaken (n : Node) : Node := { n with hsq.adjacent := n.adjacentNow }

theorem refreshAdjacent_eq (n : Node) : refreshAdjacent n = reeval (adjacentTaken n) := rfl

theorem hsqLost_rests {n : Node} (hrest : n.hsq.hall = .quiet ∨ n.hsq.hall = .alert)
    (hc : ¬ crossZone n.hsq) : hsqLost n = reeval (adjacentTaken n) := by
  refine if_neg ?_
  rw [refreshAdjacent_eq]
  rcases reeval_rests (n := adjacentTaken n) hrest hc with h | h <;> rw [h] <;> simp

theorem rclLoss_hsq {n : Node} (b : Bool) (h : n.hsq.hall ≠ .discharging) :
    (rclLoss b n).hsq = n.hsq := by
  obtain ⟨r, e⟩ := rclLoss_marks b h
  rw [e]; exact lossMarked_hsq b n

theorem holderLoss_hsq {n : Node} (b : Bool) (h : n.hsq.hall ≠ .discharging) :
    (holderLoss b n).hsq = n.hsq := by
  rw [holderLoss_of_other b h, rclLoss_hsq b h]

/-- What a loss with a grant or a feed outstanding leaves of the reserve phase in DISCHARGING. -/
theorem rclLoss_ended {b : Bool} {n : Node} (hg : n.hadGrant = true) (hh : n.hsq.hall = .discharging)
    (hp : n.rcl.phase ≠ .done) :
    let t := rclLoss b n
    t.rcl.phase = .done ∧ t.rcl.outcome = .lost ∧ t.rcl.bid = .none ∧ t.rcl.wait = .stopped ∧
      t.flag .holderLost = true ∧ (n.rcl.phase = .requested → t.flag .feedLost = true) ∧
      (n.hsq.reservePhase = .opened → t.hsq.reservePhase = .resolved ∧ t.hsq.reserveOutcome = .lost) := by
  have hflag := lossMarked_flag b hg
  dsimp only
  rw [rclLoss_ends hg hh hp]
  split
  next hreq =>
    rw [rclFeedLost_eq, rclEnd_rcl]
    have hsvp := rclEnd_svp true (feedGone (lossMarked b n))
    refine ⟨rfl, rfl, rfl, rfl, ?_, fun _ => ?_, fun ho => ?_⟩
    · exact Node.raisedIn_of_svp hsvp _ (feedGone_raises _ _ hflag)
    · exact Node.raisedIn_of_svp hsvp _ (feedGone_flag _)
    · rw [rclEnd_opened (by rw [feedGone_eq]; dsimp only; rw [lossMarked_hsq, ho])]; exact ⟨rfl, rfl⟩
  next hreq =>
    rw [rclEnd_rcl]
    refine ⟨rfl, rfl, rfl, rfl, ?_, (absurd · hreq), fun ho => ?_⟩
    · exact Node.raisedIn_of_svp (rclEnd_svp true _) _ hflag
    · rw [rclEnd_opened (by rw [lossMarked_hsq, ho])]; exact ⟨rfl, rfl⟩

/-! ## The node of a lost link -/

/-- The lost link after the report to HSQ and RCL. -/
def lossReported (n : Node) : Node := hsqAndRcl hsqLost (holderLoss true) (lkcLost n)

theorem linkLost_eq (n : Node) : linkLost n = vsuLost (rvaLost (lossReported n)) := rfl

theorem lossReported_still (n : Node) : (lossReported n).still = (lkcLost n).still :=
  hsqAndRcl_keeps Node.still hsqLost_still (fun m => by rw [holderLoss, soakTest_still, rclLoss_still])
    (fun _ => rfl) _

theorem linkLost_still (n : Node) : (linkLost n).still = (lkcLost n).still := by
  rw [linkLost_eq, vsuLost_still, rvaLost_still, lossReported_still]

theorem lossReported_mute (n : Node) : (lossReported n).mute = (lkcLost n).mute :=
  hsqAndRcl_keeps Node.mute hsqLost_mute (holderLoss_mute true) (fun _ => rfl) _

theorem uncommit_lkc (c : ChanId) (n : Node) : (uncommit c n).lkc = n.lkc := by
  unfold uncommit; dsimp only; split <;> rfl

theorem uncommitAll_lkc (cs : List ChanId) (n : Node) : (uncommitAll cs n).lkc = n.lkc := by
  induction cs generalizing n with
  | nil => rfl
  | cons c cs ih => exact (ih (uncommit c n)).trans (uncommit_lkc c n)

theorem rvaLost_lkc (n : Node) : (rvaLost n).lkc = n.lkc := uncommitAll_lkc _ n

theorem linkLost_outbox (n : Node) : (linkLost n).lkc.outbox = Outbox.empty := by
  have h := (outbox_of_mute (lossReported_mute n) rfl).2
  change (rvaLost (lossReported n)).lkc.outbox = _
  rw [rvaLost_lkc, h]; rfl

theorem linkLost_rcl (n : Node) : (linkLost n).rcl = (lossReported n).rcl :=
  congrArg (fun m => m.rcl) (rvaLost_sansBank (lossReported n))

theorem linkLost_hsq (n : Node) : (linkLost n).hsq = (lossReported n).hsq :=
  congrArg (fun m => m.hsq) (rvaLost_sansBank (lossReported n))

theorem linkLost_svp (n : Node) : (linkLost n).svp = (lossReported n).svp :=
  congrArg (fun m => m.svp) (rvaLost_sansBank (lossReported n))

theorem linkLost_raises (n : Node) : (lkcLost n).raisedIn (linkLost n) :=
  Node.raisedIn_trans (hsqAndRcl_raises hsqLost_raises (holderLoss_raises true) _)
    (Node.raisedIn_of_svp (linkLost_svp n))

theorem linkLost_peer (n : Node) (i : NodeId) : (linkLost n).peer i = (n.peer i).absent := by
  have h : (linkLost n).lkc.peers = (lkcLost n).lkc.peers := congrArg (fun m => m.lkc.peers) (linkLost_still n)
  rw [Node.peer, h]; exact mapVec_get ..

theorem linkLost_adjacent (n : Node) : (linkLost n).hsq.adjacent = false := by
  rw [linkLost_hsq]
  refine (hsqAndRcl_lost_adjacent (lkcLost n)).trans (adjacentNow_absent fun i => ?_)
  exact congrArg Peer.present (mapVec_get Peer.absent n.lkc.peers i)

/-- In LOST, with no placement timer, the end of the event leaves the link record. -/
theorem finish_lkc_of_lost {b n : Node} (hl : n.lkc.link = .lost) (hp : n.lkc.placement = none) :
    (finish b n).lkc = n.lkc := by
  unfold finish; split
  · have ha : announce b (pouEval n) = pouEval n := if_pos (.inr hl)
    rw [ha]
    refine (congrArg (fun m : Node => m.lkc) (if_neg (fun h => h.1 hl))).trans ?_
    change { n.lkc with placement := none } = n.lkc
    rw [← hp]
  · rfl

theorem linkLost_lkc (n : Node) : (linkLost n).lkc = { (lkcLost n).lkc with outbox := Outbox.empty } := by
  have h : ({ (linkLost n).lkc with outbox := Outbox.empty } : Lkc) =
      { (lkcLost n).lkc with outbox := Outbox.empty } := congrArg (fun m => m.lkc) (linkLost_still n)
  rw [← h, ← linkLost_outbox n]

theorem linkLost_rests {n : Node} (hrest : n.hsq.hall = .quiet ∨ n.hsq.hall = .alert)
    (hc : ¬ crossZone n.hsq) :
    followsCauses n { n.hsq with adjacent := false } (linkLost n).hsq := by
  have habs : (lkcLost n).adjacentNow = false :=
    adjacentNow_absent fun i => congrArg Peer.present (mapVec_get Peer.absent n.lkc.peers i)
  have hhsq : (adjacentTaken (lkcLost n)).hsq = { n.hsq with adjacent := false } := by
    unfold adjacentTaken; rw [habs]; rfl
  obtain ⟨x, hx, he⟩ := reeval_followsCauses (n := adjacentTaken (lkcLost n)) hc
  have hr := reeval_rests (n := adjacentTaken (lkcLost n)) hrest hc
  have hrep : lossReported n = holderLoss true (reeval (adjacentTaken (lkcLost n))) := by
    rw [← hsqLost_rests (n := lkcLost n) hrest hc]
    exact hsqAndRcl_of_other (by rcases hrest with h | h <;> exact fun hx => by simp [lkcLost, h] at hx)
  rw [linkLost_hsq, hrep, holderLoss_hsq true (by rcases hr with h | h <;> simp [h]), he, ← hhsq]
  exact hx

/-- Out of QUIET, ALERT and AWAIT_SLOT the report is the client's part with the adjacent cause cleared. -/
theorem lossReported_of_other {n : Node} (hq : n.hsq.hall ≠ .quiet) (ha : n.hsq.hall ≠ .alert)
    (hs : n.hsq.hall ≠ .awaitSlot) :
    lossReported n = holderLoss true (adjacentTaken (lkcLost n)) := by
  rw [← show hsqLost (lkcLost n) = adjacentTaken (lkcLost n) from hsqLost_of_other hq ha hs]
  exact hsqAndRcl_of_other hs

theorem linkLost_holds_bid {n : Node} (hh : n.hsq.hall = .countdown ∨ n.hsq.hall = .hold)
    (hb : n.rcl.claims = true) : (linkLost n).rcl.bid = .held := by
  have hd : (adjacentTaken (lkcLost n)).hsq.hall ≠ .discharging := by
    rcases hh with h | h <;> exact fun hx => by simp [adjacentTaken, lkcLost, h] at hx
  have hrep : lossReported n = holderLoss true (adjacentTaken (lkcLost n)) := by
    refine lossReported_of_other ?_ ?_ ?_ <;> rcases hh with h | h <;> simp [h]
  obtain ⟨r, he⟩ := rclLoss_marks true hd
  rw [linkLost_rcl, hrep, holderLoss_rcl, he]
  change (lossMarked true (adjacentTaken (lkcLost n))).rcl.bid = _
  rw [lossMarked_rcl]
  exact if_pos ⟨rfl, hb⟩

theorem linkLost_ends_phase {n : Node} (hh : n.hsq.hall = .discharging) (hg : n.hadGrant = true)
    (hp : n.rcl.phase ≠ .done) :
    (linkLost n).rcl.phase = .done ∧ (linkLost n).rcl.outcome = .lost ∧ (linkLost n).rcl.bid = .none ∧
      (linkLost n).flag .holderLost = true := by
  have hrep : lossReported n = holderLoss true (adjacentTaken (lkcLost n)) :=
    lossReported_of_other (by simp [hh]) (by simp [hh]) (by simp [hh])
  obtain ⟨hphase, hout, hbid, -, hflag, -⟩ :=
    rclLoss_ended (b := true) (n := adjacentTaken (lkcLost n)) hg hh hp
  rw [linkLost_rcl, hrep, holderLoss_rcl]
  refine ⟨hphase, hout, hbid, ?_⟩
  rw [Node.flag, linkLost_svp, hrep]
  exact soakTest_raises _ _ hflag

theorem link_timer_expires {c : Instr} {s : State} {ends : Time} (hr : s.node.running = true)
    (hl : s.node.lkc.link ≠ .lost)
    (hc : (c = .silenceTimerExpiry ∧ s.node.lkc.silence = some ends) ∨
      (c = .placementTimerExpiry ∧ s.node.lkc.placement = some ends)) (hle : ends ≤ s.node.now) :
    exec c s = .next { s with node := finish s.node (linkLost s.node) } := by
  rcases hc with ⟨rfl, ht⟩ | ⟨rfl, ht⟩
  · have he : silenceOver s.node = linkLost s.node := if_pos (by simp [due, ht, hle, hl])
    rw [← he]; exact if_pos hr
  · have he : placementOver s.node = linkLost s.node := if_pos (by simp [due, ht, hle, hl])
    rw [← he]; exact if_pos hr

/-- Settles O26: either timer ends in `linkLost`, and each block's part of it has a lemma. -/
theorem silenceOrPlacementExpiryLosesTheLink : Obligations.SilenceOrPlacementExpiryLosesTheLink := by
  intro c s ends hr hl hc hle
  have hlkc := linkLost_lkc s.node
  have hfin : (finish s.node (linkLost s.node)).lkc = { (lkcLost s.node).lkc with outbox := Outbox.empty } :=
    (finish_lkc_of_lost (congrArg Lkc.link hlkc) (congrArg Lkc.placement hlkc)).trans hlkc
  have hflag : ∀ f, (linkLost s.node).flag f = true → (finish s.node (linkLost s.node)).flag f = true :=
    fun f hf => Node.raisedIn_of_svp (finish_svp _ _) f hf
  refine ⟨_, link_timer_expires hr hl hc hle, ?_⟩
  dsimp only
  rw [hfin, finish_hsq, finish_rva, finish_vsu, finish_rcl]
  refine ⟨rfl, rfl, rfl, rfl, rfl, rfl, rfl, rfl, rfl, fun i => ?peer, linkLost_adjacent _,
    fun hrest hx => linkLost_rests hrest hx, rfl, rfl, rfl, rfl, rfl, ?grant, ?flag, fun hh hb => ?held,
    fun hh hg hp => ?ended, fun hh => ?await⟩
  case peer =>
    have hp : (finish s.node (linkLost s.node)).peer i = (linkLost s.node).peer i := by
      rw [Node.peer, finish_peers]; rfl
    rw [hp, linkLost_peer]; rfl
  case grant => rw [linkLost_rcl]; exact hsqAndRcl_lost_grantHeard _
  case flag => exact hflag _ (linkLost_raises _ _ (Node.flag_setFlag_same _ _))
  case held => exact linkLost_holds_bid hh (by simpa [Rcl.claims] using hb)
  case ended =>
    obtain ⟨hphase, hout, hbid, hf⟩ := linkLost_ends_phase hh (by simpa [Node.hadGrant] using hg) hp
    exact ⟨hphase, hout, hbid, hflag _ hf⟩
  case await =>
    obtain ⟨hd, -, hf⟩ := linkLost_await hh
    exact ⟨hd, hflag _ hf⟩

end Sys2Proof.Machine

/-! # A peer gone absent -/

namespace Sys2Proof.Machine

/-! ## The bid queue's nodes -/

/-- The nodes with an entry in the bid queue, in its order. -/
def Node.bidders (n : Node) : List NodeId := n.rva.bids.map BidEntry.node

theorem Node.entry_none {n : Node} {i : NodeId} : n.entry i = none ↔ i ∉ n.bidders := by
  simp [Node.entry, Node.bidders]

theorem bidders_of_rva {a b : Node} (h : a.rva.bids = b.rva.bids) : a.bidders = b.bidders := by
  unfold Node.bidders; rw [h]

theorem uncommit_rva (c : ChanId) (n : Node) : (uncommit c n).rva = n.rva := by
  unfold uncommit; dsimp only; split <;> rfl

theorem uncommitAll_rva (cs : List ChanId) (n : Node) : (uncommitAll cs n).rva = n.rva := by
  induction cs generalizing n with
  | nil => rfl
  | cons c cs ih => exact (ih (uncommit c n)).trans (uncommit_rva c n)

theorem returnEntry_bids (i : NodeId) (n : Node) :
    (returnEntry i n).rva.bids = n.rva.bids.filter (fun e => e.node ≠ i) := by
  unfold returnEntry dropEntry; rw [uncommitAll_rva]

theorem returnEntry_bidders (i : NodeId) (n : Node) : i ∉ (returnEntry i n).bidders := by
  unfold Node.bidders; rw [returnEntry_bids]
  simp

theorem commit_rva {c : ChanId} {g : NodeId} {n m : Node} (h : commit c g n = some m) : m.rva = n.rva := by
  revert h; unfold commit; dsimp only; split <;> rintro ⟨⟩; rfl

theorem commitAll_rva (i : NodeId) (cs : List ChanId) (k : Nat) (n : Node) :
    (commitAll i cs (k, n)).2.rva = n.rva := by
  induction cs generalizing k n with
  | nil => rfl
  | cons c cs ih =>
    unfold commitAll; split
    next m h => exact (ih _ m).trans (commit_rva h)
    next => exact ih _ n

theorem walkList_nodes (es : List BidEntry) (n : Node) :
    (walkList es n).1.map BidEntry.node = es.map BidEntry.node := by
  induction es generalizing n with
  | nil => rfl
  | cons e es ih => exact congrArg (e.node :: ·) (ih _)

theorem grantWalk_bidders (n : Node) : (grantWalk n).bidders = n.bidders := by
  unfold grantWalk; split
  · rfl
  · exact walkList_nodes n.rva.bids n

theorem addAnswer_bids (a : Answer) (n : Node) : (addAnswer a n).rva.bids = n.rva.bids := by
  unfold addAnswer; split <;> rfl

theorem lapseWaiting_bids (i : NodeId) (n : Node) : (lapseWaiting i n).rva.bids = n.rva.bids := by
  unfold lapseWaiting; split
  · rw [addAnswer_bids]
  · rfl

theorem queueFed_rva (a : Answer) (n : Node) : (queueFed a n).rva = n.rva := by
  unfold queueFed; split <;> rfl

theorem sendAnswer_rva (n : Node) : (sendAnswer n).rva = n.rva := by
  unfold sendAnswer; repeat' split
  · rfl
  · rfl
  · exact queueFed_rva _ n

theorem removeEntry_bidders (i : NodeId) (n : Node) : i ∉ (removeEntry i n).bidders := by
  unfold removeEntry; split
  next h => exact Node.entry_none.1 h
  next =>
    rw [bidders_of_rva (congrArg Rva.bids (sendAnswer_rva _)), grantWalk_bidders,
      bidders_of_rva (lapseWaiting_bids i _)]
    exact returnEntry_bidders i n

/-! ## The adjacent cause -/

theorem warns_iff {h : Option HallState} : warns h = true ↔
    h = some .countdown ∨ h = some .hold ∨ h = some .awaitSlot ∨ h = some .discharging := by
  unfold warns; split <;> simp

theorem mem_allNodes (i : NodeId) : i ∈ allNodes := by
  revert i; decide

theorem adjacentNow_iff {n : Node} : n.adjacentNow = true ↔ adjacentStands n := by
  unfold Node.adjacentNow adjacentStands
  simp only [List.any_eq_true, mem_allNodes, true_and, Bool.and_eq_true, decide_eq_true_eq, warns_iff,
    and_assoc, ne_eq]

/-- Whether an adjacent cause stands is read from the peer table and the configuration. -/
theorem adjacentStands_congr {a b : Node} (hp : a.lkc.peers = b.lkc.peers) (hc : a.cfs.still = b.cfs.still) :
    adjacentStands a ↔ adjacentStands b := by
  have hid : a.id = b.id := congrArg (fun c => c.nodeId) hc
  have hn : a.cfg.neighbours = b.cfg.neighbours := congrArg (fun c => c.cfg.neighbours) hc
  unfold adjacentStands Node.peer; rw [hid, hn, hp]

/-! ## The absence reported -/

/-- The node with the peer's entry ABSENT and the adjacent cause taken. -/
def absenceMarked (i : NodeId) (n : Node) : Node := n.setPeer i (n.peer i).absent

/-- The node of an absence after HSQ's and RVA's parts. -/
def absenceTaken (i : NodeId) (n : Node) : Node := rvaPeer i (refreshAdjacent (absenceMarked i n))

/-- RCL's part of an absence: a loss of the holder where the node is the configured one. -/
def holderAbsent (i : NodeId) (n : Node) : Node :=
  if n.cfg.holder = some i then holderLoss false n else n

/-- VSU's part of an absence. -/
def slotAbsent (i : NodeId) (n : Node) : Node := takeSlot (vsuAbsent i n)

theorem peerAbsent_eq (i : NodeId) (n : Node) :
    peerAbsent i n = hsqAndRcl (slotAbsent i) (holderAbsent i) (absenceTaken i n) := rfl

theorem holderAbsent_sansCourse (i : NodeId) (n : Node) : (holderAbsent i n).sansCourse = n.sansCourse := by
  unfold holderAbsent; split <;> simp

theorem slotAbsent_sansCourse (i : NodeId) (n : Node) : (slotAbsent i n).sansCourse = n.sansCourse := by
  rw [slotAbsent, takeSlot_sansCourse, sansCourse_of_sansVent (vsuAbsent_sansVent i n)]

theorem peerAbsent_sansCourse (i : NodeId) (n : Node) :
    (peerAbsent i n).sansCourse = (absenceTaken i n).sansCourse :=
  hsqAndRcl_keeps Node.sansCourse (slotAbsent_sansCourse i) (holderAbsent_sansCourse i) (fun _ => rfl) _

theorem peerAbsent_still (i : NodeId) (n : Node) : (peerAbsent i n).still = (absenceMarked i n).still := by
  rw [peerAbsent_eq, hsqAndRcl_keeps Node.still (f := slotAbsent i) (g := holderAbsent i) ?_ ?_ fun _ => rfl]
  · rw [absenceTaken, rvaPeer_still, refreshAdjacent_still]
  · intro m; rw [slotAbsent, takeSlot_still, vsuAbsent_still]
  · intro m; unfold holderAbsent; split
    · rw [holderLoss, soakTest_still, rclLoss_still]
    · rfl

theorem peerAbsent_peers (i : NodeId) (n : Node) :
    (peerAbsent i n).lkc.peers = (absenceMarked i n).lkc.peers :=
  congrArg (fun m => m.lkc.peers) (peerAbsent_still i n)

theorem absenceTaken_hsq (i : NodeId) (n : Node) :
    (absenceTaken i n).hsq = (refreshAdjacent (absenceMarked i n)).hsq :=
  congrArg (fun m => m.hsq) (rvaPeer_sansBank i _)

theorem absenceTaken_rcl (i : NodeId) (n : Node) :
    (absenceTaken i n).rcl = (refreshAdjacent (absenceMarked i n)).rcl :=
  congrArg (fun m => m.rcl) (rvaPeer_sansBank i _)

theorem peerAbsent_adjacent (i : NodeId) (n : Node) :
    (peerAbsent i n).hsq.adjacent = (absenceMarked i n).adjacentNow := by
  rw [adjacent_of_sansCourse (peerAbsent_sansCourse i n), absenceTaken_hsq, refreshAdjacent_adjacent]

theorem peerAbsent_adjacentStands (i : NodeId) (n : Node) :
    (peerAbsent i n).hsq.adjacent = true ↔ adjacentStands (peerAbsent i n) := by
  rw [peerAbsent_adjacent, adjacentNow_iff]
  exact adjacentStands_congr (peerAbsent_peers i n).symm
    (congrArg (fun m => m.cfs) (peerAbsent_still i n)).symm

/-! ## HSQ's part -/

/-- Without a confirmation the sequencer's record alone follows the adjacent cause. -/
theorem refreshAdjacent_follows {n : Node} (h : ¬ crossZone n.hsq) :
    ∃ x, followsCauses n { n.hsq with adjacent := n.adjacentNow } x ∧
      refreshAdjacent n = { n with hsq := x } :=
  reeval_followsCauses (n := adjacentTaken n) h

theorem slotAbsent_of_other {i : NodeId} {n : Node} (h : n.hsq.hall ≠ .awaitSlot) :
    slotAbsent i n = (vsuAbsent i n).1 := by
  refine takeSlot_of_other ?_
  rw [show (vsuAbsent i n).1.hsq = n.hsq from congrArg (fun m => m.hsq) (vsuAbsent_sansVent i n)]
  exact h

theorem slotAbsent_hsq {i : NodeId} {n : Node} (h : n.hsq.hall ≠ .awaitSlot) :
    (slotAbsent i n).hsq = n.hsq := by
  rw [slotAbsent_of_other h]; exact congrArg (fun m => m.hsq) (vsuAbsent_sansVent i n)

theorem slotAbsent_rcl {i : NodeId} {n : Node} (h : n.hsq.hall ≠ .awaitSlot) :
    (slotAbsent i n).rcl = n.rcl := by
  rw [slotAbsent_of_other h]; exact congrArg (fun m => m.rcl) (vsuAbsent_sansVent i n)

theorem holderAbsent_hsq {i : NodeId} {n : Node} (h : n.hsq.hall ≠ .discharging) :
    (holderAbsent i n).hsq = n.hsq := by
  unfold holderAbsent; split
  · exact holderLoss_hsq false h
  · rfl

theorem peerAbsent_follows {i : NodeId} {n : Node} (hrest : n.hsq.hall = .quiet ∨ n.hsq.hall = .alert)
    (hc : ¬ crossZone n.hsq) :
    followsCauses n { n.hsq with adjacent := (peerAbsent i n).hsq.adjacent } (peerAbsent i n).hsq := by
  obtain ⟨x, hx, he⟩ := refreshAdjacent_follows (n := absenceMarked i n) hc
  have hm : (absenceTaken i n).hsq = x := by rw [absenceTaken_hsq, he]
  have hr : x.hall = .quiet ∨ x.hall = .alert := by
    have h := reeval_rests (n := adjacentTaken (absenceMarked i n)) hrest hc
    rwa [← refreshAdjacent_eq, he] at h
  have hna : (absenceTaken i n).hsq.hall ≠ .awaitSlot := by
    rw [hm]; rcases hr with h | h <;> simp [h]
  have hnd : (slotAbsent i (absenceTaken i n)).hsq.hall ≠ .discharging := by
    rw [slotAbsent_hsq hna, hm]; rcases hr with h | h <;> simp [h]
  rw [peerAbsent_adjacent, peerAbsent_eq, hsqAndRcl_of_other hna, holderAbsent_hsq hnd,
    slotAbsent_hsq hna, hm]
  exact hx

/-! ## RVA's and VSU's parts -/

theorem absenceTaken_entry {i : NodeId} {n : Node} (hl : n.lkc.link = .joined) :
    (absenceTaken i n).entry i = none := by
  have hlink : (refreshAdjacent (absenceMarked i n)).lkc.link = .joined :=
    (congrArg (fun m => m.lkc.link) (refreshAdjacent_still (absenceMarked i n))).trans hl
  have habs : ((refreshAdjacent (absenceMarked i n)).peer i).present = false := by
    have hp : (refreshAdjacent (absenceMarked i n)).peer i = (absenceMarked i n).peer i :=
      congrArg (fun m => m.peer i) (refreshAdjacent_still (absenceMarked i n))
    rw [hp, absenceMarked, Node.peer_setPeer_same]; rfl
  have he : absenceTaken i n = removeEntry i (refreshAdjacent (absenceMarked i n)) :=
    (if_neg (by simp [hlink])).trans (if_pos (by simp [habs]))
  rw [he]; exact Node.entry_none.2 (removeEntry_bidders i _)

theorem peerAbsent_entry {i : NodeId} {n : Node} (hl : n.lkc.link = .joined) :
    (peerAbsent i n).entry i = none :=
  (congrArg (fun m => m.entry i) (peerAbsent_sansCourse i n)).trans (absenceTaken_entry hl)

/-- VSU takes what its mode, vent group and link let it. -/
theorem vsuTakes_of_sansConfirm {a b : Node} (h : a.sansConfirm = b.sansConfirm) :
    a.vsuTakes = b.vsuTakes := congrArg (fun m => m.vsuTakes) h

theorem ventRemove_queue (i : NodeId) (n : Node) : i ∉ (ventRemove i n).1.vsu.queue := by
  unfold ventRemove; split
  · rw [ventReeval_queue]; simp
  next h => exact h

theorem takeSlot_queue (r : Node × Bool) : (takeSlot r).vsu.queue = r.1.vsu.queue := by
  unfold takeSlot slotHeld; repeat' split
  · rw [enterDischarging_vsu]
  all_goals rfl

theorem slotAbsent_queue {i : NodeId} {n : Node} (ht : n.vsuTakes = true) (hi : i ≠ n.id) :
    i ∉ (slotAbsent i n).vsu.queue := by
  have he : vsuAbsent i n = ventRemove i n := if_pos (by simp [ht, hi])
  rw [slotAbsent, takeSlot_queue, he]; exact ventRemove_queue i n

theorem holderAbsent_queue (i : NodeId) (n : Node) : (holderAbsent i n).vsu.queue = n.vsu.queue := by
  unfold holderAbsent; split
  · exact holderLoss_queue false n
  · rfl

theorem absenceTaken_vsuTakes (i : NodeId) (n : Node) : (absenceTaken i n).vsuTakes = n.vsuTakes :=
  (congrArg (fun m => m.vsuTakes) (rvaPeer_sansBank i _)).trans
    ((vsuTakes_of_sansConfirm (reeval_sansConfirm (adjacentTaken (absenceMarked i n)))).trans rfl)

theorem absenceTaken_cfs (i : NodeId) (n : Node) : (absenceTaken i n).cfs.still = n.cfs.still := by
  have h : (absenceTaken i n).still = (absenceMarked i n).still := by
    rw [absenceTaken, rvaPeer_still, refreshAdjacent_still]
  exact congrArg (fun m => m.cfs) h

theorem id_of_cfs {a b : Node} (h : a.cfs.still = b.cfs.still) : a.id = b.id :=
  congrArg (fun c => c.nodeId) h

theorem cfg_of_cfs {a b : Node} (h : a.cfs.still = b.cfs.still) : a.cfg = b.cfg :=
  congrArg (fun c => c.cfg) h

theorem holderAbsent_cfs (i : NodeId) (n : Node) : (holderAbsent i n).cfs.still = n.cfs.still :=
  cfs_of_sansCourse (holderAbsent_sansCourse i n)

theorem slotAbsent_cfs (i : NodeId) (n : Node) : (slotAbsent i n).cfs.still = n.cfs.still :=
  cfs_of_sansCourse (slotAbsent_sansCourse i n)

theorem peerAbsent_queue {i : NodeId} {n : Node} (ht : n.vsuTakes = true) (hi : i ≠ n.id) :
    i ∉ (peerAbsent i n).vsu.queue := by
  have ht' : (absenceTaken i n).vsuTakes = true := by rw [absenceTaken_vsuTakes, ht]
  have hi' : i ≠ (absenceTaken i n).id := by rw [id_of_cfs (absenceTaken_cfs i n)]; exact hi
  rw [peerAbsent_eq]
  generalize absenceTaken i n = m at ht' hi'
  unfold hsqAndRcl; split
  · have htd : m.drawn.vsuTakes = true := ht'
    rcases eitherOrder_cases (slotAbsent i) (holderAbsent i) m with e | e
    · rw [e]
      refine slotAbsent_queue ?_ ?_
      · rw [show (holderAbsent i m.drawn).vsuTakes = m.drawn.vsuTakes from
          vsuTakes_of_sansConfirm (sansConfirm_of_sansCourse (holderAbsent_sansCourse i _)), htd]
      · rw [id_of_cfs (holderAbsent_cfs i _)]; exact hi'
    · rw [e, holderAbsent_queue]; exact slotAbsent_queue htd hi'
  · rw [holderAbsent_queue]; exact slotAbsent_queue ht' hi'

/-! ## RCL's part -/

theorem vsuAbsent_rcl (i : NodeId) (n : Node) : (vsuAbsent i n).1.rcl = n.rcl :=
  congrArg (fun m => m.rcl) (vsuAbsent_sansVent i n)

theorem slotAbsent_grantHeard (i : NodeId) (n : Node) :
    (slotAbsent i n).rcl.grantHeard = n.rcl.grantHeard := by
  rw [← vsuAbsent_rcl i n]
  unfold slotAbsent takeSlot slotHeld; repeat' split
  · exact enterDischarging_grantHeard _
  all_goals rfl

theorem holderAbsent_holder {i : NodeId} {n : Node} (h : n.cfg.holder = some i) :
    holderAbsent i n = holderLoss false n := if_pos h

theorem rclLoss_flag {n : Node} (b : Bool) (h : n.hadGrant = true) :
    (rclLoss b n).flag .holderLost = true := by
  have hm := lossMarked_flag b h
  obtain ⟨r, e⟩ | ⟨_, _, ⟨_, e⟩ | e⟩ := rclLoss_cases b n
  · rw [e]; exact hm
  · rw [e, rclFeedLost_eq]
    exact Node.raisedIn_of_svp (rclEnd_svp true _) _ (feedGone_raises _ _ hm)
  · rw [e]; exact Node.raisedIn_of_svp (rclEnd_svp true _) _ hm

theorem slotAbsent_raises (i : NodeId) (n : Node) : n.raisedIn (slotAbsent i n) :=
  Node.raisedIn_trans (Node.raisedIn_of_svp (svp_of_sansVent (vsuAbsent_sansVent i n))) (takeSlot_raises _)

theorem hadGrant_of_heard {n : Node} (h : 0 < n.rcl.grantHeard) : n.hadGrant = true := by
  simp [Node.hadGrant, h]

/-- A holder gone absent: no grant is heard any more, and one that was sets HOLDER_LOST. -/
theorem holder_absence (i : NodeId) {m : Node} (hh : m.cfg.holder = some i) :
    let t := hsqAndRcl (slotAbsent i) (holderAbsent i) m
    t.rcl.grantHeard = 0 ∧ (0 < m.rcl.grantHeard → t.flag .holderLost = true) := by
  have hloss : ∀ k : Node, k.cfg.holder = some i → (holderAbsent i k).rcl.grantHeard = 0 ∧
      (0 < k.rcl.grantHeard → (holderAbsent i k).flag .holderLost = true) := fun k hk => by
    rw [holderAbsent_holder hk]
    exact ⟨holderLoss_grantHeard false k, fun hg =>
      soakTest_raises _ _ (rclLoss_flag false (hadGrant_of_heard hg))⟩
  have hlast : ∀ k : Node, k.cfg.holder = some i →
      (holderAbsent i (slotAbsent i k)).rcl.grantHeard = 0 ∧
      (0 < k.rcl.grantHeard → (holderAbsent i (slotAbsent i k)).flag .holderLost = true) := fun k hk => by
    have h := hloss (slotAbsent i k) (by rw [cfg_of_cfs (slotAbsent_cfs i k)]; exact hk)
    rwa [slotAbsent_grantHeard] at h
  dsimp only
  unfold hsqAndRcl; split
  · rcases eitherOrder_cases (slotAbsent i) (holderAbsent i) m with e | e
    · rw [e, slotAbsent_grantHeard]
      obtain ⟨hg, hf⟩ := hloss m.drawn hh
      exact ⟨hg, fun hpos => slotAbsent_raises i _ _ (hf hpos)⟩
    · rw [e]; exact hlast m.drawn hh
  · exact hlast m hh

theorem peerAbsent_holder {i : NodeId} {n : Node} (hh : n.cfg.holder = some i) :
    (peerAbsent i n).rcl.grantHeard = 0 ∧
      (¬ crossZone n.hsq → 0 < n.rcl.grantHeard → (peerAbsent i n).flag .holderLost = true) := by
  have hcfg : (absenceTaken i n).cfg.holder = some i := by rw [cfg_of_cfs (absenceTaken_cfs i n)]; exact hh
  obtain ⟨hg, hf⟩ := holder_absence i hcfg
  refine ⟨hg, fun hc hpos => hf ?_⟩
  obtain ⟨x, -, he⟩ := refreshAdjacent_follows (n := absenceMarked i n) hc
  rw [absenceTaken_rcl, he]; exact hpos

theorem soakSettled_hsq (n : Node) : (soakSettled n).hsq = (soakMoved n).hsq := by
  unfold soakSettled; split
  · exact (congrArg (fun m => m.hsq) (vsuWithdraw_sansVent _)).trans
      (congrArg (fun m => m.hsq) (aplEvaluate_sansPlan _))
  · rfl

theorem enterSoak_hsq (n : Node) : (enterSoak n).hsq =
    { n.hsq with hall := .soak, soak := (enterSoak n).hsq.soak } := by
  rw [enterSoak_eq]; dsimp only; rw [soakSettled_hsq]; rfl

theorem soakTest_phase (n : Node) : (soakTest n).hsq.reservePhase = n.hsq.reservePhase ∧
    (soakTest n).hsq.reserveOutcome = n.hsq.reserveOutcome := by
  unfold soakTest; split
  · rw [enterSoak_hsq]; exact ⟨rfl, rfl⟩
  · exact ⟨rfl, rfl⟩

/-- In DISCHARGING an absence leaves the record as it is for RCL's part. -/
theorem peerAbsent_discharging {i : NodeId} {n : Node} (hd : n.hsq.hall = .discharging) :
    ∃ m, peerAbsent i n = holderAbsent i m ∧ m.rcl = n.rcl ∧ m.cfs.still = n.cfs.still ∧
      m.hsq = { n.hsq with adjacent := m.hsq.adjacent } := by
  have he : refreshAdjacent (absenceMarked i n) = adjacentTaken (absenceMarked i n) :=
    refreshAdjacent_of_other (n := absenceMarked i n) (fun h => by simp [absenceMarked, hd] at h)
      (fun h => by simp [absenceMarked, hd] at h)
  have hhsq : (absenceTaken i n).hsq = { n.hsq with adjacent := (absenceMarked i n).adjacentNow } := by
    rw [absenceTaken_hsq, he]; rfl
  have hna : (absenceTaken i n).hsq.hall ≠ .awaitSlot := by rw [hhsq]; simp [hd]
  refine ⟨slotAbsent i (absenceTaken i n), ?_, ?_, ?_, ?_⟩
  · rw [peerAbsent_eq, hsqAndRcl_of_other hna]
  · rw [slotAbsent_rcl hna, absenceTaken_rcl, he]; rfl
  · rw [slotAbsent_cfs, absenceTaken_cfs]
  · rw [slotAbsent_hsq hna, hhsq]

theorem presenceOver_expires {i : NodeId} {n : Node} {ends : Time} (hp : (n.peer i).presence = some ends)
    (hle : ends ≤ n.now) : presenceOver i n = peerAbsent i n := if_pos (by simp [due, hp, hle])

theorem finish_peer (b n : Node) (j : NodeId) : (finish b n).peer j = n.peer j := by
  unfold Node.peer; rw [finish_peers]

theorem peerAbsent_peer (i j : NodeId) (n : Node) :
    (peerAbsent i n).peer j = (absenceMarked i n).peer j := by
  unfold Node.peer; rw [peerAbsent_peers]

/-- Settles O27: each block's part of `peerAbsent` has a lemma. -/
theorem presenceExpiryMakesThePeerAbsent : Obligations.PresenceExpiryMakesThePeerAbsent := by
  intro s i ends hr hp hle n
  have he : exec (.presenceTimerExpiry i) s = .next { s with node := finish s.node (peerAbsent i s.node) } := by
    rw [← presenceOver_expires hp hle]; exact if_pos hr
  have hflag : ∀ f, (peerAbsent i n).flag f = true → (finish n (peerAbsent i n)).flag f = true :=
    fun f hf => Node.raisedIn_of_svp (finish_svp _ _) f hf
  refine ⟨_, he, ?_⟩
  dsimp only
  rw [finish_hsq, finish_vsu, finish_rcl, finish_peer, peerAbsent_peer]
  refine ⟨?own, fun j hj => ?others, ?adjacent, fun hrest hc => peerAbsent_follows hrest hc, fun hl => ?entry,
    fun ht hi => peerAbsent_queue ht hi, fun hh => ⟨(peerAbsent_holder hh).1,
      fun hc hg => hflag _ ((peerAbsent_holder hh).2 hc hg), fun hd hg hph => ?ended⟩⟩
  case own => rw [absenceMarked, Node.peer_setPeer_same]; rfl
  case others => rw [finish_peer, peerAbsent_peer, absenceMarked, Node.peer_setPeer_other _ _ _ _ hj]
  case adjacent =>
    rw [peerAbsent_adjacentStands]
    exact (adjacentStands_congr (finish_peers _ _) (by rw [finish_cfs])).symm
  case entry =>
    rw [Node.entry, finish_rva]; exact peerAbsent_entry hl
  case ended =>
    obtain ⟨m, hm, hrcl, hcfs, hhsq⟩ := peerAbsent_discharging (i := i) hd
    have hg' : m.hadGrant = true := by
      unfold Node.hadGrant; rw [hrcl]; simpa using hg
    obtain ⟨hphase, hout, hbid, hwait, -, hfeed, hopen⟩ := rclLoss_ended (b := false) hg'
      (by rw [hhsq]; exact hd) (by rw [hrcl]; exact hph)
    have hloss : peerAbsent i s.node = holderLoss false m := by
      rw [hm, holderAbsent_holder (by rw [cfg_of_cfs hcfs]; exact hh)]
    rw [hloss, holderLoss_rcl]
    refine ⟨hphase, hout, hbid, hwait, fun hreq => ?_, fun ho => ?_⟩
    · rw [← hloss]
      refine hflag _ ?_
      rw [show peerAbsent i n = holderLoss false m from hloss]
      exact soakTest_raises _ _ (hfeed (by rw [hrcl]; exact hreq))
    · obtain ⟨hrp, hro⟩ := soakTest_phase (rclLoss false m)
      obtain ⟨h1, h2⟩ := hopen (by rw [hhsq]; exact ho)
      exact ⟨hrp.trans h1, hro.trans h2⟩

end Sys2Proof.Machine

/-! # A STANDING of the holder at the reserve client -/

namespace Sys2Proof.Machine

/-! ## RCL's act on a grant -/

/-- RCL may act on a grant: it waits for one, one stands, and groups are still wanted (R124). -/
def Node.actsOnGrant (n : Node) : Prop :=
  n.rcl.phase = .waitingGrant ∧ 0 < n.rcl.grantHeard ∧ 0 < n.rcl.left

theorem rclAct_waits {n : Node} (h : ¬ n.actsOnGrant) : rclAct n = n := if_neg h

theorem selOpen_travels {n : Node} (hk : n.fiu.key.delivered = .normal)
    (hs : n.vcu.selector.state = .closed ∨ n.vcu.selector.state = .closing) :
    selOpen n = { n with vcu.selector := { n.vcu.selector with
      state := .opening, drive := .driveOpen, travel := some (n.now + 1000 * n.cfg.selectorTime) } } := by
  refine (if_neg (by simp [Node.isolate, hk])).trans ?_
  rcases hs with hs | hs <;> rw [hs] <;> rfl

/-- The node with its reserve phase OPENING. -/
def phaseOpening (n : Node) : Node := { n with rcl.phase := .opening }

theorem rclAct_opens {n : Node} (h : n.actsOnGrant)
    (hs : n.vcu.selector.state = .closed ∨ n.vcu.selector.state = .closing) :
    rclAct n = selOpen (phaseOpening n) := by
  refine (if_pos h).trans ?_
  rcases hs with hs | hs <;> rw [hs] <;> rfl

theorem rclAct_opening {n : Node} (h : n.actsOnGrant) (hs : n.vcu.selector.state = .opening) :
    rclAct n = phaseOpening n := by
  refine (if_pos h).trans ?_; rw [hs]; rfl

theorem rclAct_opened {n : Node} (h : n.actsOnGrant) (hs : n.vcu.selector.state = .opened) :
    rclAct n = sendWayopen n := by
  refine (if_pos h).trans ?_; rw [hs]

theorem rclAct_jammed {n : Node} (h : n.actsOnGrant) (hs : n.vcu.selector.state = .jammed) :
    rclAct n = rclEnd false n := by
  refine (if_pos h).trans ?_; rw [hs]

theorem sendWayopen_of_holder {n : Node} {h : NodeId} (hh : n.cfg.holder = some h) (hl : n.lkc.link ≠ .lost) :
    sendWayopen n = { n with
      rcl := { n.rcl with asked := min n.rcl.grantHeard n.rcl.left, phase := .requested,
                          feedTimeout := some (n.now + 1000 * n.cfg.feedTimeout) },
      lkc.outbox.wayopen := some (h, min n.rcl.grantHeard n.rcl.left) } := by
  unfold sendWayopen; rw [hh]
  exact if_neg (by simp [Node.refusesFrames, hl])

theorem Rcl.finalOutcome_byRule (r : Rcl) : r.finalOutcome = r.outcomeByRule := by
  unfold Rcl.finalOutcome Rcl.outcomeByRule
  cases r.flowTaken
  · cases r.lastAnswer <;> rfl
  · rfl

/-! ## The holder's STANDING -/

/-- The node with the grant of the holder's STANDING taken (R123). -/
def grantTaken (h : NodeId) (n : Node) : Node := { n with rcl.grantHeard := n.grantOf h }

/-- A grant that a placed bid had is gone (R122). -/
def Node.grantFell (n : Node) (h : NodeId) : Prop :=
  0 < n.rcl.grantHeard ∧ n.grantOf h = 0 ∧ n.rcl.phase ≠ .requested ∧ n.rcl.bid = .placed

/-- A bid waits to be placed, and can be (R121, R128). -/
def Node.bidRetried (n : Node) : Prop :=
  bidCanBePlaced n ∧ (n.rcl.bid = .held ∨ (n.rcl.rebid = true ∧ n.rcl.claims = true))

theorem retryBid_sends {n : Node} (h : n.bidRetried) : retryBid n = sendBid n :=
  if_pos (by simpa [Node.bidAllowed_iff, Node.bidRetried] using h)

theorem retryBid_keeps {n : Node} (h : ¬ n.bidRetried) : retryBid n = n :=
  if_neg (by simpa [Node.bidAllowed_iff, Node.bidRetried] using h)

/-- The node of the holder's STANDING before RCL acts on the grant. -/
def holderHeard (h : NodeId) (n : Node) : Node :=
  retryBid (if decide (0 < n.rcl.grantHeard) && decide (n.grantOf h = 0)
    && decide (n.rcl.phase ≠ .requested) && decide (n.rcl.bid = .placed) then sendBid (grantTaken h n)
    else grantTaken h n)

theorem rclHolder_eq (h : NodeId) (n : Node) : rclHolder h n = rclAct (holderHeard h n) := rfl

/-- The node of the holder's STANDING with a BID handed over. -/
def bidSent (h : NodeId) (n : Node) : Node :=
  { grantTaken h n with
    rcl := { (grantTaken h n).rcl with bid := .queued, rebid := false },
    lkc.outbox.bid := some (n.bidFor h) }

theorem sendBid_bidSent {h : NodeId} {n : Node} (hh : n.cfg.holder = some h) (hl : n.lkc.link ≠ .lost) :
    sendBid (grantTaken h n) = bidSent h n := sendBid_of_joined (n := grantTaken h n) hh hl

theorem holderHeard_sent {h : NodeId} {n : Node} (hh : n.cfg.holder = some h) (hl : n.lkc.link ≠ .lost)
    (hb : n.grantFell h ∨ n.bidRetried) : holderHeard h n = bidSent h n := by
  unfold holderHeard
  by_cases hf : n.grantFell h
  · rw [if_pos (by simpa [Node.grantFell, and_assoc] using hf), sendBid_bidSent hh hl]
    refine retryBid_keeps fun hr => ?_
    rcases hr.2 with hx | hx
    · simp [bidSent] at hx
    · simp [bidSent] at hx
  · rw [if_neg (by simpa [Node.grantFell, and_assoc] using hf), ← sendBid_bidSent hh hl]
    exact retryBid_sends (hb.resolve_left hf)

theorem holderHeard_kept {h : NodeId} {n : Node} (hf : ¬ n.grantFell h) (hr : ¬ n.bidRetried) :
    holderHeard h n = grantTaken h n := by
  unfold holderHeard
  rw [if_neg (by simpa [Node.grantFell, and_assoc] using hf)]
  exact retryBid_keeps hr

/-- Before RCL acts on it, a STANDING of the holder moves the grant, the bid and the waiting BID alone. -/
theorem holderHeard_moves {h : NodeId} {n : Node} (hh : n.cfg.holder = some h) (hl : n.lkc.link ≠ .lost) :
    ∃ b r o, holderHeard h n = { n with
      rcl := { n.rcl with grantHeard := n.grantOf h, bid := b, rebid := r }, lkc.outbox.bid := o } := by
  by_cases hb : n.grantFell h ∨ n.bidRetried
  · exact ⟨_, _, _, holderHeard_sent hh hl hb⟩
  · rw [not_or] at hb
    exact ⟨_, _, _, holderHeard_kept hb.1 hb.2⟩

theorem rclHolder_grantHeard {h : NodeId} {n : Node} (hh : n.cfg.holder = some h) (hl : n.lkc.link ≠ .lost) :
    (rclHolder h n).rcl.grantHeard = n.grantOf h := by
  obtain ⟨b, r, o, he⟩ := holderHeard_moves hh hl
  rw [rclHolder_eq, rclAct_grantHeard, he]

/-- The grant taken from a PRESENT entry is the one its holder part shows. -/
theorem grantOf_shown {n : Node} {h : NodeId} (hp : (n.peer h).present = true) :
    grantShown (n.peer h).holderPart n.id (n.grantOf h) := by
  unfold Node.grantOf; dsimp only; rw [if_pos hp]
  cases (n.peer h).holderPart with
  | none => rfl
  | some part =>
    have hfind : ∀ q : Grant → Bool, part.grants.find? q = (part.grants.filter q).head? := fun q =>
      (List.head?_filter ..).symm
    refine ⟨fun g hg => ?_, fun hnone => ?_⟩
    · dsimp only; rw [hfind, hg]; rfl
    · have hf : part.grants.find? (fun g => decide (g.grantee = n.id)) = none := by
        simpa using hnone
      dsimp only; rw [hf]

/-- What RCL does with a grant heard in WAITING_GRANT, by the selector (R124). -/
theorem rclHolder_acts {h : NodeId} {n : Node} (hh : n.cfg.holder = some h) (hl : n.lkc.link ≠ .lost)
    (hk : n.fiu.key.delivered = .normal) (hp : n.rcl.phase = .waitingGrant) (hg : 0 < n.grantOf h)
    (hleft : 0 < n.rcl.n - n.rcl.fed) :
    let t := rclHolder h n
    let sel := n.vcu.selector
    (sel.state = .closed ∨ sel.state = .closing → t.rcl.phase = .opening ∧
      t.vcu.selector = { sel with
        state := .opening, drive := .driveOpen, travel := some (n.now + 1000 * n.cfg.selectorTime) }) ∧
    (sel.state = .opening → t.rcl.phase = .opening ∧ t.vcu.selector = sel) ∧
    (sel.state = .opened → t.rcl.phase = .requested ∧ t.vcu.selector = sel ∧
      t.rcl.asked = min (n.grantOf h) (n.rcl.n - n.rcl.fed) ∧
      t.lkc.outbox.wayopen = some (h, min (n.grantOf h) (n.rcl.n - n.rcl.fed)) ∧
      t.rcl.feedTimeout = some (n.now + 1000 * n.cfg.feedTimeout)) ∧
    (sel.state = .jammed → t.rcl.phase = .done ∧ t.rcl.bid = .none ∧
      t.rcl.outcome = n.rcl.outcomeByRule) := by
  obtain ⟨b, r, o, he⟩ := holderHeard_moves hh hl
  have hacts : (holderHeard h n).actsOnGrant := by rw [he]; exact ⟨hp, hg, hleft⟩
  dsimp only
  rw [rclHolder_eq]
  refine ⟨fun hs => ?_, fun hs => ?_, fun hs => ?_, fun hs => ?_⟩
  · rw [rclAct_opens hacts (by rw [he]; exact hs), selOpen_travels (by rw [he]; exact hk) (by
      rw [he]; exact hs), he]
    exact ⟨rfl, rfl⟩
  · rw [rclAct_opening hacts (by rw [he]; exact hs), he]; exact ⟨rfl, rfl⟩
  · rw [rclAct_opened hacts (by rw [he]; exact hs), sendWayopen_of_holder (by rw [he]; exact hh) (by
      rw [he]; exact hl), he]
    exact ⟨rfl, rfl, rfl, rfl, rfl⟩
  · rw [rclAct_jammed hacts (by rw [he]; exact hs), rclEnd_rcl]
    refine ⟨rfl, rfl, ?_⟩
    rw [he]; exact Rcl.finalOutcome_byRule _

/-! ## The bid after the holder's STANDING -/

theorem rclAct_unjammed {n : Node} (h : n.vcu.selector.state ≠ .jammed) :
    (rclAct n).vcu.selector.state ≠ .jammed := by
  have hopen : ∀ m : Node, m.vcu.selector.state ≠ .jammed → (selOpen m).vcu.selector.state ≠ .jammed := by
    intro m hm
    unfold selOpen; split
    · exact hm
    · split
      case h_5 hj => exact absurd hj hm
      all_goals simp_all [selTravel]
  unfold rclAct; split
  · split
    next => exact hopen _ h
    next => exact hopen _ h
    next => exact h
    next =>
      unfold sendWayopen; split
      · exact h
      · dsimp only; rw [queueWayopen_eq]; exact h
    next hj => exact absurd hj h
  · exact h

theorem holderHeard_vcu {h : NodeId} {n : Node} (hh : n.cfg.holder = some h) (hl : n.lkc.link ≠ .lost) :
    (holderHeard h n).vcu = n.vcu := by
  obtain ⟨b, r, o, he⟩ := holderHeard_moves hh hl
  rw [he]

/-- The bid is handed over again, and RCL's act on the grant leaves it; after it the reserve phase can be
opened without a loss of the bid. -/
theorem rclHolder_sent {h : NodeId} {n : Node} (hh : n.cfg.holder = some h) (hl : n.lkc.link ≠ .lost)
    (hb : n.grantFell h ∨ n.bidRetried) :
    (rclHolder h n).bidPart = (bidSent h n).bidPart ∧
      ((rclHolder h n).vcu.selector.state ≠ .jammed ∨ (rclHolder h n).rcl.grantHeard = 0) := by
  have he := holderHeard_sent hh hl hb
  have hg : (holderHeard h n).rcl.grantHeard = n.grantOf h := by rw [he]; rfl
  rw [rclHolder_grantHeard hh hl, rclHolder_eq, ← he]
  by_cases h0 : n.grantOf h = 0
  · rw [rclAct_waits fun hx => by have := hx.2.1; omega]
    exact ⟨rfl, .inr h0⟩
  · have hr : n.bidRetried := hb.resolve_left fun hf => h0 hf.2.1
    have hj : (holderHeard h n).vcu.selector.state ≠ .jammed := by
      rw [holderHeard_vcu hh hl]; exact hr.1.2.1
    exact ⟨(rclAct_keeps hj).2, .inl (rclAct_unjammed hj)⟩

theorem bidSent_waits {h : NodeId} {n : Node} (hh : n.cfg.holder = some h) :
    (bidSent h n).rcl.bid = .queued ∧ bidWaits n.rcl.n (bidSent h n) := by
  refine ⟨rfl, fun y hy => ?_⟩
  have : h = y := Option.some.inj (hh.symm.trans hy)
  rw [this]; rfl

theorem rclHolder_bid_kept {h : NodeId} {n : Node} (hf : ¬ n.grantFell h) (hr : ¬ n.bidRetried)
    (hp : n.rcl.phase ≠ .waitingGrant) : (rclHolder h n).rcl.bid = n.rcl.bid := by
  rw [rclHolder_eq, holderHeard_kept hf hr, rclAct_waits (n := grantTaken h n) fun hx => hp hx.1]; rfl

theorem openReserve_bidPart {n : Node} (h : n.vcu.selector.state ≠ .jammed ∨ n.rcl.grantHeard = 0) :
    (openReserve n).bidPart = n.bidPart := by
  rcases Nat.eq_zero_or_pos n.apl.nRes with h0 | hpos
  · rw [openReserve_none h0]; rfl
  · rcases h with hj | hg
    · exact (openReserve_opens hpos hj).2
    · have he : openReserve n = rclBegin { n with hsq.reservePhase := .opened } := if_pos hpos
      rw [he]
      refine (congrArg Node.bidPart (rclAct_waits (n := { n with
        hsq.reservePhase := .opened, rcl.phase := .waitingGrant,
        rcl.wait := .running (n.now + 1000 * n.cfg.reserveWait) }) fun hx => ?_)).trans rfl
      exact Nat.ne_of_gt hx.2.1 hg

theorem setFlag_bidPart (n : Node) (f : Flag) : (n.setFlag f).bidPart = n.bidPart := rfl
theorem startDuration_bidPart (n : Node) : (startDuration n).bidPart = n.bidPart := rfl

theorem dischargeFired_grantHeard (n : Node) : (dischargeFired n).rcl.grantHeard = n.rcl.grantHeard :=
  (congrArg (fun m => m.rcl.grantHeard) (dischargeFired_sansFire n)).trans (by
    rw [dischargeWritten, releaseWrite_eq]; rfl)

/-- An entry to DISCHARGING that finds the selector free or no grant keeps the bid. -/
theorem enterDischarging_keeps_bid {n : Node}
    (h : n.vcu.selector.state ≠ .jammed ∨ n.rcl.grantHeard = 0) :
    (enterDischarging n).bidPart = n.bidPart := by
  rw [enterDischarging_eq, setFlag_bidPart, startDuration_bidPart, openReserve_bidPart,
    dischargeFired_bidPart]
  rwa [dischargeFired_selector, dischargeFired_grantHeard]

theorem takeSlot_keeps_bid {r : Node × Bool}
    (h : r.1.vcu.selector.state ≠ .jammed ∨ r.1.rcl.grantHeard = 0) :
    (takeSlot r).bidPart = r.1.bidPart := by
  unfold takeSlot slotHeld; repeat' split
  · exact enterDischarging_keeps_bid h
  all_goals rfl

/-- The withdrawal writes VSU's record and its waiting frames alone. -/
theorem vsuWithdraw_eq (n : Node) : vsuWithdraw n = { n with
    vsu := (vsuWithdraw n).vsu, lkc.outbox.vent := (vsuWithdraw n).lkc.outbox.vent,
    lkc.outbox.ventfree := (vsuWithdraw n).lkc.outbox.ventfree } := by
  by_cases h : n.vsu.own = .placed ∨ n.vsu.own = .queued
  · rw [vsuWithdraw_announced h, queueVentfree_eq]; rfl
  · rw [vsuWithdraw_unannounced h]; rfl

/-- The move to SOAK writes the hall, the deferral, the plan, the flags and VSU's part alone. -/
theorem soakSettled_eq (n : Node) : soakSettled n = { n with
    hsq.hall := .soak, vcu.deferral := .inactive, vcu.deferTimer := none, apl := (soakSettled n).apl,
    svp := (soakSettled n).svp, vsu := (soakSettled n).vsu,
    lkc.outbox.vent := (soakSettled n).lkc.outbox.vent,
    lkc.outbox.ventfree := (soakSettled n).lkc.outbox.ventfree } := by
  unfold soakSettled; split
  · rw [vsuWithdraw_eq, aplEvaluate_eq]; rfl
  · rfl

theorem soakTest_bidPart (n : Node) : (soakTest n).bidPart = n.bidPart := by
  unfold soakTest; split
  · rw [enterSoak_eq, soakSettled_eq]; rfl
  · rfl

theorem soakTest_selector (n : Node) : (soakTest n).vcu.selector = n.vcu.selector := by
  unfold soakTest; split
  · rw [enterSoak_eq, soakSettled_eq]
  · rfl

theorem soakTest_wayopen (n : Node) : (soakTest n).lkc.outbox.wayopen = n.lkc.outbox.wayopen := by
  unfold soakTest; split
  · rw [enterSoak_eq, soakSettled_eq]
  · rfl

end Sys2Proof.Machine

/-! # Committed channels, and the vent queue

Which channels stay committed to a node through RVA's operations and the sequencer's requests, and what
leaves the vent queue. -/

namespace Sys2Proof.Machine

/-! ## Committed channels -/

/-- The channel is committed to the node. -/
def Node.committedAt (n : Node) (i : NodeId) (c : ChanId) : Prop :=
  (n.chan c).state = .committed ∧ (n.chan c).committedTo = some i

theorem mem_allChans (c : ChanId) : c ∈ allChans := by revert c; decide

theorem Node.mem_committedTo {n : Node} {i : NodeId} {c : ChanId} :
    c ∈ n.committedTo i ↔ n.committedAt i c := by
  simp [Node.committedTo, Node.chansWith, Node.committedAt, mem_allChans]

theorem Node.committedTo_nil {n : Node} {i : NodeId} (h : ∀ c, ¬ n.committedAt i c) :
    n.committedTo i = [] :=
  List.eq_nil_iff_forall_not_mem.2 fun c hc => h c (Node.mem_committedTo.1 hc)

theorem committedAt_of_channels {a b : Node} (h : a.vcu.channels = b.vcu.channels) {i : NodeId} {c : ChanId} :
    a.committedAt i c ↔ b.committedAt i c := by
  unfold Node.committedAt Node.chan; rw [h]

theorem Node.restState_ne (n : Node) : n.restState ≠ .committed := by
  unfold Node.restState; split <;> simp

theorem uncommit_chan_other {c d : ChanId} {n : Node} (h : d ≠ c) : (uncommit c n).chan d = n.chan d := by
  unfold uncommit; dsimp only; split
  · exact Node.chan_setChan_other n c d _ h
  · rfl

theorem uncommit_chan_same (c : ChanId) (n : Node) : ((uncommit c n).chan c).state ≠ .committed := by
  unfold uncommit; dsimp only; split
  · rw [Node.chan_setChan_same]; exact n.restState_ne
  next h => exact h

/-- What is still committed after a list of channels was returned was committed before, and is not of the
list. -/
theorem uncommitAll_committed {cs : List ChanId} {n : Node} {c : ChanId}
    (h : ((uncommitAll cs n).chan c).state = .committed) :
    c ∉ cs ∧ (uncommitAll cs n).chan c = n.chan c := by
  induction cs generalizing n with
  | nil => exact ⟨List.not_mem_nil, rfl⟩
  | cons d ds ih =>
    obtain ⟨hds, hc⟩ := ih (n := uncommit d n) h
    change (uncommitAll ds (uncommit d n)).chan c = _ at hc
    by_cases hd : c = d
    · refine absurd ?_ (uncommit_chan_same d n)
      subst hd
      rw [← hc]; exact h
    · exact ⟨fun hx => (List.mem_cons.1 hx).elim hd hds, hc.trans (uncommit_chan_other hd)⟩

theorem returnEntry_committed (i : NodeId) (n : Node) (c : ChanId) : ¬ (returnEntry i n).committedAt i c := by
  intro h
  have h' : (uncommitAll (n.committedTo i) n).committedAt i c := h
  obtain ⟨hc, he⟩ := uncommitAll_committed h'.1
  exact hc (Node.mem_committedTo.2 (by unfold Node.committedAt at h' ⊢; rwa [he] at h'))

theorem commit_committed {c d : ChanId} {g i : NodeId} {n m : Node} (h : commit c g n = some m)
    (hd : m.committedAt i d) : n.committedAt i d ∨ g = i := by
  revert h; unfold commit; dsimp only; split <;> rintro ⟨⟩
  by_cases hdc : d = c
  · subst hdc
    unfold Node.committedAt at hd
    rw [Node.chan_setChan_same] at hd
    exact .inr (Option.some.inj hd.2)
  · unfold Node.committedAt at hd ⊢
    rw [Node.chan_setChan_other n c d _ hdc] at hd
    exact .inl hd

theorem commitAll_committed {i j : NodeId} {cs : List ChanId} {k : Nat} {n : Node} {d : ChanId}
    (h : (commitAll i cs (k, n)).2.committedAt j d) : n.committedAt j d ∨ i = j := by
  induction cs generalizing k n with
  | nil => exact .inl h
  | cons c cs ih =>
    unfold commitAll at h; split at h
    next m hm =>
      rcases ih h with h' | h'
      · exact commit_committed hm h'
      · exact .inr h'
    next => exact ih h

theorem walkList_committed {es : List BidEntry} {n : Node} {j : NodeId} {d : ChanId}
    (h : (walkList es n).2.committedAt j d) : n.committedAt j d ∨ j ∈ es.map BidEntry.node := by
  induction es generalizing n with
  | nil => exact .inl h
  | cons e es ih =>
    rcases ih h with h' | h'
    · rcases commitAll_committed h' with h'' | h''
      · exact .inl h''
      · exact .inr (by simp [h''])
    · exact .inr (List.mem_cons_of_mem _ h')

/-- The walk commits channels to nodes in the bid queue alone. -/
theorem grantWalk_committed {n : Node} {j : NodeId} {d : ChanId} (h : (grantWalk n).committedAt j d) :
    n.committedAt j d ∨ j ∈ n.bidders := by
  unfold grantWalk at h; split at h
  · exact .inl h
  · exact walkList_committed h

theorem addAnswer_vcu (a : Answer) (n : Node) : (addAnswer a n).vcu = n.vcu := by
  unfold addAnswer; split <;> rfl

theorem lapseWaiting_vcu (i : NodeId) (n : Node) : (lapseWaiting i n).vcu = n.vcu := by
  unfold lapseWaiting; split
  · rw [addAnswer_vcu]
  · rfl

theorem queueFed_vcu (a : Answer) (n : Node) : (queueFed a n).vcu = n.vcu := by
  unfold queueFed; split <;> rfl

theorem sendAnswer_vcu (n : Node) : (sendAnswer n).vcu = n.vcu := by
  unfold sendAnswer; repeat' split
  · rfl
  · rfl
  · exact queueFed_vcu _ n

theorem removeEntry_present {i : NodeId} {n : Node} (h : n.entry i ≠ none) :
    removeEntry i n = sendAnswer (grantWalk (lapseWaiting i (returnEntry i n))) := by
  obtain ⟨e, he⟩ := Option.ne_none_iff_exists'.1 h
  unfold removeEntry; rw [he]

theorem removeEntry_committed {i : NodeId} {n : Node} (h : n.entry i ≠ none) (c : ChanId) :
    ¬ (removeEntry i n).committedAt i c := by
  rw [removeEntry_present h, committedAt_of_channels (congrArg Vcu.channels (sendAnswer_vcu _))]
  intro hc
  rcases grantWalk_committed hc with hc | hc
  · rw [committedAt_of_channels (congrArg Vcu.channels (lapseWaiting_vcu i _))] at hc
    exact returnEntry_committed i n c hc
  · rw [bidders_of_rva (lapseWaiting_bids i _)] at hc
    exact returnEntry_bidders i n hc

/-! ## The feed queue -/

theorem walkList_rva (es : List BidEntry) (n : Node) : (walkList es n).2.rva = n.rva := by
  induction es generalizing n with
  | nil => rfl
  | cons e es ih => exact (ih _).trans (commitAll_rva _ _ _ _)

theorem grantWalk_feedQueue (n : Node) : (grantWalk n).rva.feedQueue = n.rva.feedQueue := by
  unfold grantWalk; split
  · rfl
  · exact (congrArg Rva.feedQueue (walkList_rva n.rva.bids n) :
      (walkList n.rva.bids n).2.rva.feedQueue = n.rva.feedQueue)

theorem addAnswer_feedQueue (a : Answer) (n : Node) : (addAnswer a n).rva.feedQueue = n.rva.feedQueue := by
  unfold addAnswer; split <;> rfl

theorem lapseWaiting_feedQueue (i : NodeId) (n : Node) :
    ∀ w ∈ (lapseWaiting i n).rva.feedQueue, w.1 ≠ i := by
  unfold lapseWaiting; split
  · rw [addAnswer_feedQueue]
    intro w hw
    simpa using (List.mem_filter.1 hw).2
  next h =>
    intro w hw hx
    exact h (List.any_eq_true.2 ⟨w, hw, by simpa using hx⟩)

theorem removeEntry_feedQueue {i : NodeId} {n : Node} (h : n.entry i ≠ none) :
    ∀ w ∈ (removeEntry i n).rva.feedQueue, w.1 ≠ i := by
  rw [removeEntry_present h, sendAnswer_rva, grantWalk_feedQueue]
  exact lapseWaiting_feedQueue i _

/-! ## The sequencer's requests -/

/-- An own pulse is requested on a READY channel alone, so what is committed stays as it was. -/
theorem dischargeFired_chan (n : Node) (c : ChanId) :
    (dischargeFired n).chan c = n.chan c ∨ ((dischargeFired n).chan c).state = .queued := by
  have hbase : (dischargeWritten n).chan c = n.chan c := by
    unfold dischargeWritten Node.chan; rw [releaseWrite_eq]; rfl
  have hhall : (dischargeWritten n).hsq.hall = .discharging := by
    rw [dischargeWritten, releaseWrite_eq]; rfl
  have hsub := List.take_sublist (dischargeWritten n).apl.nOwn (dischargeWritten n).readyHall
  obtain ⟨-, -, hin, hout⟩ := requestOwn_accepts (hsub.nodup (dischargeWritten n).readyHall_nodup)
    (n := { dischargeWritten n with hsq.firing := ((dischargeWritten n).readyHall.take
      (dischargeWritten n).apl.nOwn).map (fun c => (c, FireStatus.pending)) })
    (fun c hc => Node.mem_readyHall (hsub.subset hc)) hhall
  by_cases hc : c ∈ (dischargeWritten n).readyHall.take (dischargeWritten n).apl.nOwn
  · exact .inr (hin c hc).1
  · exact .inl ((hout c hc).trans hbase)

theorem enterDischarging_channels (n : Node) :
    (enterDischarging n).vcu.channels = (dischargeFired n).vcu.channels :=
  congrArg (fun m => m.vcu.channels) (openReserve_sansClient (dischargeFired n))

theorem enterDischarging_committed {n : Node} {i : NodeId} {c : ChanId}
    (h : (enterDischarging n).committedAt i c) : n.committedAt i c := by
  rw [committedAt_of_channels (enterDischarging_channels n)] at h
  unfold Node.committedAt at h ⊢
  rcases dischargeFired_chan n c with he | he
  · rwa [he] at h
  · rw [he] at h; exact absurd h.1 (by simp)

theorem takeSlot_committed {r : Node × Bool} {i : NodeId} {c : ChanId}
    (h : (takeSlot r).committedAt i c) : r.1.committedAt i c := by
  unfold takeSlot slotHeld at h; repeat' split at h
  · exact enterDischarging_committed h
  all_goals exact h

/-! ## The vent queue -/

theorem enterFallback_queue (n : Node) : (enterFallback n).vsu.queue = n.vsu.queue := by
  have hf : (fallbackFired n).sansFire = (fallbackWritten n).sansFire := fireOwn_sansFire _ _
  have hw : (fallbackWritten n).vsu.queue = n.vsu.queue := by rw [fallbackWritten, releaseWrite_eq]; rfl
  have hv : (fallbackFired n).vsu = (fallbackWritten n).vsu := congrArg (fun m => m.vsu) hf
  rw [← hw, ← hv]; rfl

theorem expire_queue (n : Node) : (expire n).vsu.queue = n.vsu.queue := by
  have hat : (atExpiry n).vsu = n.vsu := by
    rw [atExpiry_eq]; exact congrArg (fun m => m.vsu) (bidRenewed_sansClient n)
  have hask : ∀ m : Node, (vsuAsk m).1.vsu.queue = m.vsu.queue := fun m => by
    unfold vsuAsk; split
    · rw [queueVent_vsu]
    · rfl
  have hiso : ∀ m : Node, (vsuIsolated m).vsu.queue = m.vsu.queue := fun m => by
    unfold vsuIsolated; split <;> rfl
  cases hn : n.normal with
  | false =>
    rw [expire_fallback hn, enterFallback_queue]
  | true =>
    by_cases hl : n.lkc.link = .lost
    · rw [expire_normal_lost hn hl, isolatedRelease, hiso, enterDischarging_vsu]
      exact (congrArg Vsu.queue hat : (atExpiry n).vsu.queue = n.vsu.queue)
    · rw [expire_normal hn hl, takeSlot_queue, hask, hat]

theorem holdOperated_vsu (n : Node) : (holdOperated n).vsu = n.vsu := by
  unfold holdOperated; repeat' split
  all_goals rfl

theorem countdownEntered_vsu (c : Cause) (left : Nat) (n : Node) :
    (countdownEntered c left n).vsu = n.vsu := by
  have hb : (epoTest (countdownBegun c left n)).vsu = n.vsu := by rw [epoTest_eq, countdownBegun_eq]; rfl
  unfold countdownEntered; dsimp only; split
  · rw [holdOperated_vsu, hb]
  · exact hb

theorem enterCountdown_queue (c : Cause) (left : Nat) (n : Node) :
    (enterCountdown c left n).vsu.queue = n.vsu.queue := by
  rw [enterCountdown_eq, expireIfDone]; split
  · rw [expire_queue, countdownEntered_vsu]
  · rw [countdownEntered_vsu]

theorem refreshAdjacent_queue (n : Node) : (refreshAdjacent n).vsu.queue = n.vsu.queue := by
  rw [refreshAdjacent_eq, reeval]; split
  · split
    · rw [enterCountdown_queue]; rfl
    · unfold rest; dsimp only; split <;> rfl
  · rfl

theorem ventAppend_queue (i : NodeId) (n : Node) : (ventAppend i n).1.vsu.queue =
    if i ∈ n.vsu.queue then n.vsu.queue else n.vsu.queue ++ [i] := by
  unfold ventAppend; split
  · rfl
  · rw [ventReeval_queue]

theorem ventRemove_filters (i : NodeId) (n : Node) :
    (ventRemove i n).1.vsu.queue = n.vsu.queue.filter (· ≠ i) := by
  unfold ventRemove; split
  · rw [ventReeval_queue]
  next h =>
    refine (List.filter_eq_self.2 fun a ha => ?_).symm
    simpa using fun he : a = i => h (he ▸ ha)

/-- A repair that leaves the queue gives no slot. -/
theorem ventAppend_gives {i : NodeId} {n : Node} (h : (ventAppend i n).1.vsu.queue = n.vsu.queue) :
    (ventAppend i n).2 = false := by
  rw [ventAppend_queue] at h
  unfold ventAppend; split
  · rfl
  next hi => rw [if_neg hi] at h; simp at h

theorem ventRemove_gives {i : NodeId} {n : Node} (h : (ventRemove i n).1.vsu.queue = n.vsu.queue) :
    (ventRemove i n).2 = false := by
  rw [ventRemove_filters] at h
  unfold ventRemove; split
  next hi =>
    rw [← h] at hi; simp at hi
  · rfl

theorem holdsSlot_of_findIdx {n : Node} (hin : n.id ∈ n.vsu.queue)
    (hlt : n.vsu.queue.findIdx (fun i => i = n.id) < n.cfg.ventCapacity) : n.holdsSlot = true := by
  have hpos : n.ventPosition = some (n.vsu.queue.findIdx (fun i => i = n.id)) := by
    unfold Node.ventPosition
    rw [List.findIdx?_eq_some_iff_findIdx_eq]
    exact ⟨List.findIdx_lt_length_of_exists ⟨n.id, hin, by simp⟩, rfl⟩
  unfold Node.holdsSlot; rw [hpos]; simpa using hlt

end Sys2Proof.Machine

/-! # A STANDING heard -/

namespace Sys2Proof.Machine

/-! ## The frame counts as heard -/

/-- The node has heard a valid frame, with none of its own in flight any more: the link record alone moved,
as R93, R94 and R96 say. -/
def heardAs (n m : Node) : Prop :=
  ∃ l : Lkc, m = { n with lkc := l } ∧ l.peers = n.lkc.peers ∧
    l.silence = some (n.now + 3 * n.cfg.period) ∧ l.inFlight = none ∧
    l.link = (if n.lkc.link = .lost then .listen else n.lkc.link) ∧
    l.listen = (match n.lkc.link with
      | .lost => some (n.now + 2 * n.cfg.period)
      | .listen => some (n.lkc.listen.getD (n.now + 2 * n.cfg.period))
      | .joined => n.lkc.listen) ∧
    l.badFrames = n.lkc.badFrames ∧ l.clash = n.lkc.clash

theorem countHeard_heardAs {n : Node} (l : Lkc) (hp : l.peers = n.lkc.peers) (hf : l.inFlight = none)
    (hk : l.link = n.lkc.link) (hi : l.listen = n.lkc.listen) (hb : l.badFrames = n.lkc.badFrames)
    (hc : l.clash = n.lkc.clash) : heardAs n (countHeard { n with lkc := l }) := by
  unfold countHeard heardAs; dsimp only
  cases hl : n.lkc.link <;> rw [hl] at hk <;> rw [hk]
  case lost => exact ⟨_, rfl, hp, rfl, hf, rfl, rfl, hb, hc⟩
  case joined => exact ⟨_, rfl, hp, rfl, hf, rfl, hi, hb, hc⟩
  case listen =>
    refine ⟨_, rfl, hp, rfl, hf, rfl, ?_, hb, hc⟩
    dsimp only; rw [hi]
    cases n.lkc.listen <;> rfl

theorem countHeard_returned (n : Node) : heardAs n (countHeard (returnInFlight n)) := by
  unfold returnInFlight; split
  next h => exact countHeard_heardAs (n := n) n.lkc rfl h rfl rfl rfl rfl
  next f h =>
    exact countHeard_heardAs (n := n) { n.lkc with inFlight := none, outbox := returnFrame f n.lkc.outbox }
      rfl rfl rfl rfl rfl rfl

/-- A valid STANDING that is no clash counts as heard, and goes to the peer table. -/
theorem hear_standing {n : Node} {src : NodeId} {c : Standing} (hv : c.valid = true)
    (hc : n.lkc.clash = false)
    (hs : src ≠ n.id ∨ n.lkc.inFlight = some (.standing src c) ∨
      (n.lkc.link = .lost ∧ n.lkc.dropped = some (.standing src c))) :
    ∃ m, heardAs n m ∧ hear (.standing src c) n = peerStanding src c m := by
  have hhear : hear (.standing src c) n =
      if n.lkc.inFlight = some (.standing src c) then hearEcho (.standing src c) n
      else hearForeign (.standing src c) n := (if_pos hv).trans (if_neg (by simp [hc]))
  by_cases he : n.lkc.inFlight = some (.standing src c)
  · exact ⟨_, countHeard_heardAs (n := n) { n.lkc with inFlight := none, placement := none } rfl rfl rfl rfl rfl rfl,
      hhear.trans (if_pos he)⟩
  · refine ⟨_, countHeard_returned n, (hhear.trans (if_neg he)).trans ?_⟩
    by_cases hid : src = n.id
    · obtain ⟨hl, hd⟩ := (hs.resolve_left fun h => h hid).resolve_left he
      exact (if_pos hid).trans (if_pos (by simp [Node.lateEcho, hl, hd]))
    · exact if_neg hid

/-! ## The stages of a report -/

theorem when_true {b : Bool} (h : b = true) (f : Node → Node) (n : Node) : when b f n = f n := if_pos h
theorem when_false {b : Bool} (h : ¬ b = true) (f : Node → Node) (n : Node) : when b f n = n := if_neg h

/-- What a step keeps is kept where the step is taken on a condition. -/
theorem when_keeps {α : Type} (v : Node → α) (b : Bool) {f : Node → Node} {n : Node} (h : v (f n) = v n) :
    v (when b f n) = v n := by
  cases b
  · rfl
  · exact h

/-- The entry that a STANDING gives at the node. -/
def Node.entryOf (n : Node) (c : Standing) : Peer := Peer.ofStanding n.now n.cfg.period c

/-- The node with the entry taken. -/
def entryTaken (src : NodeId) (c : Standing) (n : Node) : Node := n.setPeer src (n.entryOf c)

/-- The node once HSQ is told of the entry's change. -/
def hallTold (src : NodeId) (c : Standing) (n : Node) : Node :=
  when ((n.peer src).hsqChange (n.entryOf c)) refreshAdjacent (entryTaken src c n)

/-- The node once RVA is told of it too. -/
def bankTold (src : NodeId) (c : Standing) (n : Node) : Node :=
  when ((n.peer src).rvaChange (n.entryOf c)) (rvaPeer src) (hallTold src c n)

/-- RCL's part of a STANDING of the holder, with the test for SOAK. -/
def clientStep (src : NodeId) (n : Node) : Node := soakTest (rclHolder src n)

/-- The node once RCL is told too, where the source is its holder. -/
def clientTold (src : NodeId) (c : Standing) (n : Node) : Node :=
  when ((n.peer src).rclChange (n.entryOf c) && decide (n.cfg.holder = some src)) (clientStep src)
    (bankTold src c n)

/-- VSU's part of a STANDING. -/
def slotRepaired (src : NodeId) (n : Node) : Node := takeSlot (vsuRepair src n)

theorem bankTold_cfs (src : NodeId) (c : Standing) (n : Node) : (bankTold src c n).cfs.still = n.cfs.still := by
  unfold bankTold hallTold
  rw [when_keeps (fun m => m.cfs.still) _ (congrArg (fun m => m.cfs) (rvaPeer_still src _)),
    when_keeps (fun m => m.cfs.still) _ (congrArg (fun m => m.cfs) (refreshAdjacent_still _))]
  rfl

theorem peerStanding_eq (src : NodeId) (c : Standing) (n : Node) : peerStanding src c n =
    when ((n.peer src).vsuChange (n.entryOf c)) (slotRepaired src) (clientTold src c n) := rfl

theorem clientStep_sansCourse (src : NodeId) (n : Node) : (clientStep src n).sansCourse = n.sansCourse := by
  rw [clientStep, soakTest_sansCourse, sansCourse_of_sansClient (rclHolder_sansClient src n)]

theorem slotRepaired_sansCourse (src : NodeId) (n : Node) : (slotRepaired src n).sansCourse = n.sansCourse := by
  rw [slotRepaired, takeSlot_sansCourse, sansCourse_of_sansVent (vsuRepair_sansVent src n)]

theorem clientTold_sansCourse (src : NodeId) (c : Standing) (n : Node) :
    (clientTold src c n).sansCourse = (bankTold src c n).sansCourse :=
  when_keeps Node.sansCourse _ (clientStep_sansCourse src _)

theorem peerStanding_sansCourse (src : NodeId) (c : Standing) (n : Node) :
    (peerStanding src c n).sansCourse = (bankTold src c n).sansCourse := by
  rw [peerStanding_eq, when_keeps Node.sansCourse _ (slotRepaired_sansCourse src _), clientTold_sansCourse]

theorem bankTold_sansBank (src : NodeId) (c : Standing) (n : Node) :
    (bankTold src c n).sansBank = (hallTold src c n).sansBank :=
  when_keeps Node.sansBank _ (rvaPeer_sansBank src _)

theorem hallTold_still (src : NodeId) (c : Standing) (n : Node) :
    (hallTold src c n).still = (entryTaken src c n).still :=
  when_keeps Node.still _ (refreshAdjacent_still _)

theorem bankTold_still (src : NodeId) (c : Standing) (n : Node) :
    (bankTold src c n).still = (entryTaken src c n).still :=
  (when_keeps Node.still _ (rvaPeer_still src _)).trans (hallTold_still src c n)

theorem clientTold_still (src : NodeId) (c : Standing) (n : Node) :
    (clientTold src c n).still = (entryTaken src c n).still :=
  (when_keeps Node.still _ (by rw [clientStep, soakTest_still, rclHolder_still])).trans (bankTold_still src c n)

theorem peerStanding_still (src : NodeId) (c : Standing) (n : Node) :
    (peerStanding src c n).still = (entryTaken src c n).still := by
  rw [peerStanding_eq, when_keeps Node.still _ (by rw [slotRepaired, takeSlot_still, vsuRepair_still]),
    clientTold_still]

theorem peers_of_still {a b : Node} (h : a.still = b.still) : a.lkc.peers = b.lkc.peers :=
  congrArg (fun m => m.lkc.peers) h

theorem peer_of_still {a b : Node} (h : a.still = b.still) (i : NodeId) : a.peer i = b.peer i := by
  unfold Node.peer; rw [peers_of_still h]

/-! ## HSQ's part -/

theorem hallTold_adjacent {src : NodeId} {c : Standing} {n : Node}
    (h : (n.peer src).hsqChange (n.entryOf c) = true) :
    (peerStanding src c n).hsq.adjacent = (entryTaken src c n).adjacentNow := by
  have hb : (bankTold src c n).hsq = (hallTold src c n).hsq :=
    congrArg (fun m => m.hsq) (bankTold_sansBank src c n)
  rw [adjacent_of_sansCourse (peerStanding_sansCourse src c n), hb, hallTold, when_true h,
    refreshAdjacent_adjacent]

theorem reeval_phase {n : Node} (h : ¬ crossZone n.hsq) : (reeval n).hsq.reservePhase = n.hsq.reservePhase ∧
    (reeval n).hsq.reserveOutcome = n.hsq.reserveOutcome := by
  by_cases hrest : n.hsq.hall = .quiet ∨ n.hsq.hall = .alert
  · rw [reeval_of_rest hrest h]
    unfold rest; dsimp only
    split <;> exact ⟨rfl, rfl⟩
  · rw [not_or] at hrest
    rw [reeval_of_other hrest.1 hrest.2]; exact ⟨rfl, rfl⟩

theorem reeval_unmoved {n : Node} {x : HallState} (hq : x ≠ .quiet) (ha : x ≠ .alert) (h : ¬ crossZone n.hsq) :
    (reeval n).hsq.hall = x ↔ n.hsq.hall = x := by
  by_cases hrest : n.hsq.hall = .quiet ∨ n.hsq.hall = .alert
  · have hr := reeval_rests hrest h
    constructor
    · intro he; rw [he] at hr; exact absurd hr (by simp [hq, ha])
    · intro he; rw [he] at hrest; exact absurd hrest (by simp [hq, ha])
  · rw [not_or] at hrest
    rw [reeval_of_other hrest.1 hrest.2]

/-- Without a confirmation HSQ's part writes the sequencer's record alone, and the hall moves between QUIET
and ALERT at most. -/
theorem hallTold_hsq (src : NodeId) (c : Standing) {n : Node} (h : ¬ crossZone n.hsq) :
    ∃ x, hallTold src c n = { entryTaken src c n with hsq := x } ∧ x.reservePhase = n.hsq.reservePhase ∧
      x.reserveOutcome = n.hsq.reserveOutcome ∧
      (∀ y, y ≠ HallState.quiet → y ≠ .alert → (x.hall = y ↔ n.hsq.hall = y)) := by
  unfold hallTold
  by_cases hb : (n.peer src).hsqChange (n.entryOf c) = true
  · rw [when_true hb]
    obtain ⟨x, -, he⟩ := refreshAdjacent_follows (n := entryTaken src c n) h
    have hx : (reeval (adjacentTaken (entryTaken src c n))).hsq = x := by rw [← refreshAdjacent_eq, he]
    obtain ⟨hp, ho⟩ := reeval_phase (n := adjacentTaken (entryTaken src c n)) h
    rw [hx] at hp ho
    exact ⟨x, he, hp, ho, fun y hq ha => by
      have := reeval_unmoved (n := adjacentTaken (entryTaken src c n)) hq ha h
      rwa [hx] at this⟩
  · rw [when_false hb]
    exact ⟨n.hsq, rfl, rfl, rfl, fun y _ _ => Iff.rfl⟩

theorem clientStep_hall {src : NodeId} {n : Node} (h : n.hsq.hall ≠ .discharging) :
    (clientStep src n).hsq.hall = n.hsq.hall := by
  have hr := hall_of_calm (calm_of_sansClient (rclHolder_sansClient src n))
  rw [clientStep, soakTest_of_other (by rw [hr]; exact h), hr]

theorem vsuRepair_hsq (src : NodeId) (n : Node) : (vsuRepair src n).1.hsq = n.hsq :=
  congrArg (fun m => m.hsq) (vsuRepair_sansVent src n)

theorem slotRepaired_of_other {src : NodeId} {n : Node} (h : n.hsq.hall ≠ .awaitSlot) :
    slotRepaired src n = (vsuRepair src n).1 := takeSlot_of_other (by rw [vsuRepair_hsq]; exact h)

/-- The sequencer's record with the reserve phase of another one. -/
def Hsq.sansPhase (h p : Hsq) : Hsq :=
  { h with reservePhase := p.reservePhase, reserveOutcome := p.reserveOutcome }

theorem clientStep_sansPhase {src : NodeId} {n : Node} (p : Hsq) (h : n.hsq.hall ≠ .discharging) :
    (clientStep src n).hsq.sansPhase p = n.hsq.sansPhase p := by
  have hr := rclHolder_sansClient src n
  have hh := hall_of_calm (calm_of_sansClient hr)
  rw [clientStep, soakTest_of_other (by rw [hh]; exact h)]
  exact congrArg (fun m => m.hsq.sansPhase p) hr

theorem slotRepaired_hsq {src : NodeId} {n : Node} (h : n.hsq.hall ≠ .awaitSlot) :
    (slotRepaired src n).hsq = n.hsq := by rw [slotRepaired_of_other h, vsuRepair_hsq]

theorem peerStanding_sansPhase {src : NodeId} {c : Standing} {n : Node} (p : Hsq)
    (hd : (bankTold src c n).hsq.hall ≠ .discharging) (ha : (bankTold src c n).hsq.hall ≠ .awaitSlot) :
    (peerStanding src c n).hsq.sansPhase p = (bankTold src c n).hsq.sansPhase p := by
  have hk : (clientTold src c n).hsq.hall = (bankTold src c n).hsq.hall :=
    when_keeps (fun m => m.hsq.hall) _ (clientStep_hall hd)
  rw [peerStanding_eq, when_keeps (fun m => m.hsq.sansPhase p) _
    (congrArg (·.sansPhase p) (slotRepaired_hsq (by rw [hk]; exact ha)))]
  exact when_keeps (fun m => m.hsq.sansPhase p) _ (clientStep_sansPhase p hd)

/-- With the hall at rest and no confirmation, the record follows the causes but for the reserve phase. -/
theorem peerStanding_follows {src : NodeId} {c : Standing} {n : Node}
    (hch : (n.peer src).hsqChange (n.entryOf c) = true)
    (hrest : n.hsq.hall = .quiet ∨ n.hsq.hall = .alert) (hc : ¬ crossZone n.hsq) :
    followsCauses n { n.hsq with adjacent := (peerStanding src c n).hsq.adjacent }
      ((peerStanding src c n).hsq.sansPhase n.hsq) := by
  obtain ⟨x, hx, he⟩ := refreshAdjacent_follows (n := entryTaken src c n) hc
  obtain ⟨y, hy, hp, ho, hmoved⟩ := hallTold_hsq src c hc
  have hxy : y = x := by
    have := congrArg (fun m => m.hsq) (hy.symm.trans ((when_true hch _ _).trans he))
    exact this
  have hb : (bankTold src c n).hsq = x :=
    (congrArg (fun m => m.hsq) (bankTold_sansBank src c n)).trans (by rw [hy, hxy]; rfl)
  have hhall : ∀ z, z ≠ HallState.quiet → z ≠ .alert → (bankTold src c n).hsq.hall ≠ z := by
    intro z hq ha hz
    rw [hb, ← hxy, hmoved z hq ha] at hz
    rw [hz] at hrest; exact absurd hrest (by simp [hq, ha])
  rw [peerStanding_sansPhase _ (hhall _ (by decide) (by decide)) (hhall _ (by decide) (by decide)),
    hallTold_adjacent hch, hb]
  have hself : x.sansPhase n.hsq = x := by
    rw [← hxy, Hsq.sansPhase, ← hp, ← ho]
  rw [hself]
  exact hx

end Sys2Proof.Machine

/-! # A STANDING in the peer table -/

namespace Sys2Proof.Machine

/-! ## What the told nodes keep -/

section
variable {src : NodeId} {c : Standing} {n : Node}

theorem entryTaken_peer : (entryTaken src c n).peer src = n.entryOf c := Node.peer_setPeer_same _ _ _

theorem bankTold_peer : (bankTold src c n).peer src = n.entryOf c := by
  rw [peer_of_still (bankTold_still src c n), entryTaken_peer]

theorem clientTold_peer : (clientTold src c n).peer src = n.entryOf c := by
  rw [peer_of_still (clientTold_still src c n), entryTaken_peer]

theorem bankTold_cfg : (bankTold src c n).cfg = n.cfg := cfg_of_cfs (bankTold_cfs src c n)

theorem bankTold_id : (bankTold src c n).id = n.id := id_of_cfs (bankTold_cfs src c n)

theorem bankTold_link : (bankTold src c n).lkc.link = n.lkc.link :=
  congrArg (fun m => m.lkc.link) (bankTold_still src c n)

/-- Without a confirmation what RCL reads of itself and of its selector is as before the STANDING. -/
theorem bankTold_client (h : ¬ crossZone n.hsq) : (bankTold src c n).rcl = n.rcl ∧
    (bankTold src c n).vcu.selector = n.vcu.selector ∧
    (∀ y, y ≠ HallState.quiet → y ≠ .alert → ((bankTold src c n).hsq.hall = y ↔ n.hsq.hall = y)) := by
  obtain ⟨x, hx, -, -, hmoved⟩ := hallTold_hsq src c h
  have hb := bankTold_sansBank src c n
  rw [hx] at hb
  have hh : (bankTold src c n).hsq = x := congrArg (fun m => m.hsq) hb
  refine ⟨congrArg (fun m => m.rcl) hb, congrArg (fun m => m.vcu.selector) hb, ?_⟩
  rw [hh]; exact hmoved

end

/-! ## RCL's part -/

theorem rcl_of_sansVent {a b : Node} (h : a.sansVent = b.sansVent) : a.rcl = b.rcl :=
  congrArg (fun m => m.rcl) h

theorem vcu_of_sansVent {a b : Node} (h : a.sansVent = b.sansVent) : a.vcu = b.vcu :=
  congrArg (fun m => m.vcu) h

theorem wayopen_of_sansVent {a b : Node} (h : a.sansVent = b.sansVent) :
    a.lkc.outbox.wayopen = b.lkc.outbox.wayopen := congrArg (fun m => m.lkc.outbox.wayopen) h

theorem vsuRepair_rcl (src : NodeId) (n : Node) : (vsuRepair src n).1.rcl = n.rcl :=
  rcl_of_sansVent (vsuRepair_sansVent src n)

theorem vsuRepair_vcu (src : NodeId) (n : Node) : (vsuRepair src n).1.vcu = n.vcu :=
  vcu_of_sansVent (vsuRepair_sansVent src n)

theorem vsuRepair_bidPart (src : NodeId) (n : Node) : (vsuRepair src n).1.bidPart = n.bidPart :=
  congrArg (fun m => m.bidPart) (vsuRepair_sansVent src n)

theorem slotRepaired_grantHeard (src : NodeId) (n : Node) :
    (slotRepaired src n).rcl.grantHeard = n.rcl.grantHeard := by
  rw [← vsuRepair_rcl src n]
  unfold slotRepaired takeSlot slotHeld; repeat' split
  · exact enterDischarging_grantHeard _
  all_goals rfl

theorem slotRepaired_bidPart {src : NodeId} {n : Node}
    (h : n.vcu.selector.state ≠ .jammed ∨ n.rcl.grantHeard = 0) :
    (slotRepaired src n).bidPart = n.bidPart := by
  rw [← vsuRepair_bidPart src n]
  refine takeSlot_keeps_bid ?_
  rwa [vsuRepair_vcu, vsuRepair_rcl]

/-- The holder's STANDING changed what RCL is told of. -/
def clientChange (src : NodeId) (c : Standing) (n : Node) : Prop :=
  n.cfg.holder = some src ∧ (n.peer src).rclChange (n.entryOf c) = true

section
variable {src : NodeId} {c : Standing} {n : Node}

theorem clientTold_of_change (h : clientChange src c n) :
    clientTold src c n = clientStep src (bankTold src c n) :=
  when_true (by simp [h.1, h.2]) _ _

theorem peerStanding_grantHeard (hl : n.lkc.link ≠ .lost) (h : clientChange src c n) :
    (peerStanding src c n).rcl.grantHeard = (bankTold src c n).grantOf src := by
  rw [peerStanding_eq, when_keeps (fun m => m.rcl.grantHeard) _ (slotRepaired_grantHeard src _),
    clientTold_of_change h, clientStep, soakTest_rcl]
  exact rclHolder_grantHeard (by rw [bankTold_cfg]; exact h.1) (by rw [bankTold_link]; exact hl)

theorem bankTold_grantOf :
    grantShown c.holderPart n.id ((bankTold src c n).grantOf src) := by
  have h := grantOf_shown (n := bankTold src c n) (h := src) (by rw [bankTold_peer]; rfl)
  rwa [bankTold_peer, bankTold_id] at h

/-- In DISCHARGING, VSU's part writes its own record and frames alone. -/
theorem peerStanding_sansVent (h : (clientTold src c n).hsq.hall ≠ .awaitSlot) :
    (peerStanding src c n).sansVent = (clientTold src c n).sansVent := by
  rw [peerStanding_eq]
  exact when_keeps Node.sansVent _ (by rw [slotRepaired_of_other h, vsuRepair_sansVent])

theorem clientStep_discharging {m : Node} (h : m.hsq.hall = .discharging) :
    (clientStep src m).hsq.hall ≠ .awaitSlot := by
  have hr : (rclHolder src m).hsq.hall = .discharging :=
    (hall_of_calm (calm_of_sansClient (rclHolder_sansClient src m))).trans h
  unfold clientStep soakTest; split
  · rw [enterSoak_hall]; decide
  · rw [hr]; decide

/-- What RCL writes on a holder's STANDING in DISCHARGING stands at the end of the event. -/
theorem peerStanding_client (hd : (bankTold src c n).hsq.hall = .discharging) (h : clientChange src c n) :
    (peerStanding src c n).rcl = (rclHolder src (bankTold src c n)).rcl ∧
    (peerStanding src c n).vcu.selector = (rclHolder src (bankTold src c n)).vcu.selector ∧
    (peerStanding src c n).lkc.outbox.wayopen =
      (rclHolder src (bankTold src c n)).lkc.outbox.wayopen := by
  have hv := peerStanding_sansVent (src := src) (c := c) (n := n)
    (by rw [clientTold_of_change h]; exact clientStep_discharging hd)
  rw [clientTold_of_change h, clientStep] at hv
  refine ⟨?_, ?_, ?_⟩
  · rw [rcl_of_sansVent hv, soakTest_rcl]
  · rw [vcu_of_sansVent hv, soakTest_selector]
  · rw [wayopen_of_sansVent hv, soakTest_wayopen]

theorem clientStep_bidPart (m : Node) : (clientStep src m).bidPart = (rclHolder src m).bidPart :=
  soakTest_bidPart _

/-- A bid handed over on the holder's STANDING waits in the outbox at the end of the event. -/
theorem peerStanding_bids (hl : n.lkc.link ≠ .lost) (h : clientChange src c n)
    (hb : (bankTold src c n).grantFell src ∨ (bankTold src c n).bidRetried) :
    (peerStanding src c n).bidPart = (bidSent src (bankTold src c n)).bidPart := by
  obtain ⟨hbid, hfree⟩ := rclHolder_sent (h := src) (n := bankTold src c n)
    (by rw [bankTold_cfg]; exact h.1) (by rw [bankTold_link]; exact hl) hb
  rw [← hbid, ← clientStep_bidPart, ← clientTold_of_change h, peerStanding_eq]
  refine when_keeps Node.bidPart _ (slotRepaired_bidPart ?_)
  rwa [clientTold_of_change h, clientStep, soakTest_selector, soakTest_rcl]

/-- A bid that is not handed over again stays as it is where the reserve phase does not act. -/
theorem peerStanding_keeps_bid (h : clientChange src c n) (hf : ¬ (bankTold src c n).grantFell src)
    (hr : ¬ (bankTold src c n).bidRetried) (hp : (bankTold src c n).rcl.phase ≠ .waitingGrant)
    (ha : (bankTold src c n).hsq.hall ≠ .awaitSlot) :
    (peerStanding src c n).rcl.bid = (bankTold src c n).rcl.bid := by
  have hc : (clientTold src c n).hsq.hall ≠ .awaitSlot := by
    rw [clientTold_of_change h]
    by_cases hd : (bankTold src c n).hsq.hall = .discharging
    · exact clientStep_discharging hd
    · rw [clientStep_hall hd]; exact ha
  have hv : (peerStanding src c n).rcl = (clientTold src c n).rcl :=
    rcl_of_sansVent (peerStanding_sansVent hc)
  rw [hv, clientTold_of_change h, clientStep, soakTest_rcl, rclHolder_bid_kept hf hr hp]

end

/-! ## RVA's part -/

section
variable {src : NodeId} {c : Standing} {n : Node}

theorem peerStanding_rva : (peerStanding src c n).rva = (bankTold src c n).rva :=
  congrArg (fun m => m.rva) (peerStanding_sansCourse src c n)

theorem hallTold_rva : (hallTold src c n).rva = n.rva :=
  when_keeps (fun m => m.rva) _ (congrArg (fun m => m.rva) (reeval_sansConfirm _))

theorem hallTold_peer : (hallTold src c n).peer src = n.entryOf c := by
  rw [peer_of_still (hallTold_still src c n), entryTaken_peer]

theorem hallTold_id : (hallTold src c n).id = n.id :=
  congrArg (fun m => m.id) (hallTold_still src c n)

theorem hallTold_link : (hallTold src c n).lkc.link = n.lkc.link :=
  congrArg (fun m => m.lkc.link) (hallTold_still src c n)

/-- RVA's part changes nothing outside JOINED, for a node that bids here, and without a change of the bid. -/
theorem peerStanding_rva_kept
    (h : n.lkc.link ≠ .joined ∨ (0 < c.wanted ∧ c.bidHolder = n.id) ∨
      ¬ (n.peer src).rvaChange (n.entryOf c) = true) :
    (peerStanding src c n).rva = n.rva := by
  rw [peerStanding_rva, ← hallTold_rva (src := src) (c := c) (n := n), bankTold]
  rcases h with hl | ⟨hw, hid⟩ | hch
  · have hkeep : rvaPeer src (hallTold src c n) = hallTold src c n :=
      if_pos (by rw [hallTold_link]; exact hl)
    exact when_keeps (fun m => m.rva) _ (by rw [hkeep])
  · have hkeep : rvaPeer src (hallTold src c n) = hallTold src c n := by
      unfold rvaPeer; dsimp only; rw [hallTold_peer, hallTold_id]
      split
      · rfl
      · exact if_neg (by simp [Node.entryOf, Peer.ofStanding, Nat.pos_iff_ne_zero.1 hw, hid])
    exact when_keeps (fun m => m.rva) _ (by rw [hkeep])
  · rw [when_false hch]

/-- A change that shows no bid for this holder removes the node's entry. -/
theorem bankTold_removes (hl : n.lkc.link = .joined) (hb : ¬ (0 < c.wanted ∧ c.bidHolder = n.id))
    (hch : (n.peer src).rvaChange (n.entryOf c) = true) :
    bankTold src c n = removeEntry src (hallTold src c n) := by
  rw [bankTold, when_true hch, rvaPeer,
    hallTold_link, hallTold_peer, hallTold_id, if_neg (by simp [hl])]
  refine if_pos ?_
  by_cases hw : c.wanted = 0
  · simp [Node.entryOf, Peer.ofStanding, hw]
  · have hid : c.bidHolder ≠ n.id := fun he => hb ⟨Nat.pos_of_ne_zero hw, he⟩
    simp [Node.entryOf, Peer.ofStanding, hid]

theorem clientStep_committed {i : NodeId} {d : ChanId} {m : Node} (h : (clientStep src m).committedAt i d) :
    m.committedAt i d := by
  have hs : ∀ k : Node, (soakTest k).vcu.channels = k.vcu.channels := fun k => by
    unfold soakTest; split
    · rw [enterSoak_eq, soakSettled_eq]
    · rfl
  have hr : (rclHolder src m).vcu.channels = m.vcu.channels :=
    congrArg (fun k => k.vcu.channels) (rclHolder_sansClient src m)
  exact (committedAt_of_channels ((hs _).trans hr)).1 h

theorem slotRepaired_committed {i : NodeId} {d : ChanId} {m : Node} (h : (slotRepaired src m).committedAt i d) :
    m.committedAt i d :=
  (committedAt_of_channels (congrArg Vcu.channels (vsuRepair_vcu src m))).1 (takeSlot_committed h)

/-- What is committed at the end of the event was committed once RVA was told. -/
theorem peerStanding_committed {i : NodeId} {d : ChanId} (h : (peerStanding src c n).committedAt i d) :
    (bankTold src c n).committedAt i d := by
  have hwhen : ∀ (b : Bool) (f : Node → Node) (m : Node),
      ((f m).committedAt i d → m.committedAt i d) → (when b f m).committedAt i d → m.committedAt i d :=
    fun b f m hf hm => by
      cases b
      · exact hm
      · exact hf hm
  exact hwhen _ _ _ clientStep_committed (hwhen _ _ _ slotRepaired_committed h)

theorem peerStanding_unbids (hl : n.lkc.link = .joined) (hb : ¬ (0 < c.wanted ∧ c.bidHolder = n.id))
    (hch : (n.peer src).rvaChange (n.entryOf c) = true) :
    (peerStanding src c n).entry src = none ∧
      (n.entry src ≠ none → (peerStanding src c n).committedTo src = [] ∧
        ∀ w ∈ (peerStanding src c n).rva.feedQueue, w.1 ≠ src) := by
  have he := bankTold_removes hl hb hch
  refine ⟨?_, fun hin => ?_⟩
  · rw [Node.entry_none, bidders_of_rva (congrArg Rva.bids peerStanding_rva), he]
    exact removeEntry_bidders src _
  · have hin' : (hallTold src c n).entry src ≠ none := by
      rw [Ne, Node.entry_none, bidders_of_rva (congrArg Rva.bids hallTold_rva), ← Node.entry_none]
      exact hin
    refine ⟨Node.committedTo_nil fun d hd => ?_, ?_⟩
    · have h := peerStanding_committed hd
      rw [he] at h
      exact removeEntry_committed hin' d h
    · rw [peerStanding_rva, he]; exact removeEntry_feedQueue hin'

end

/-! ## VSU's part -/

section
variable {src : NodeId} {c : Standing} {n : Node}

theorem clientTold_queue : (clientTold src c n).vsu.queue = n.vsu.queue := by
  have hclient : ∀ m : Node, (clientStep src m).vsu.queue = m.vsu.queue := fun m => by
    rw [clientStep, soakTest_queue]; exact congrArg (fun k => k.vsu.queue) (rclHolder_sansClient src m)
  rw [clientTold, when_keeps (fun m => m.vsu.queue) _ (hclient _), bankTold,
    when_keeps (fun m => m.vsu.queue) _ (congrArg (fun m => m.vsu.queue) (rvaPeer_sansBank src _)), hallTold,
    when_keeps (fun m => m.vsu.queue) _ (refreshAdjacent_queue _)]
  rfl

theorem refreshAdjacent_vsuTakes (m : Node) : (refreshAdjacent m).vsuTakes = m.vsuTakes :=
  (vsuTakes_of_sansConfirm (reeval_sansConfirm (adjacentTaken m))).trans rfl

theorem clientTold_takes : (clientTold src c n).vsuTakes = n.vsuTakes := by
  rw [vsuTakes_of_sansConfirm (sansConfirm_of_sansCourse (clientTold_sansCourse src c n)),
    show (bankTold src c n).vsuTakes = (hallTold src c n).vsuTakes from
      congrArg (fun m => m.vsuTakes) (bankTold_sansBank src c n), hallTold,
    when_keeps (fun m => m.vsuTakes) _ (refreshAdjacent_vsuTakes _)]
  rfl

theorem clientTold_cfs : (clientTold src c n).cfs.still = n.cfs.still :=
  (cfs_of_sansCourse (clientTold_sansCourse src c n)).trans (bankTold_cfs src c n)

theorem clientTold_id : (clientTold src c n).id = n.id := id_of_cfs clientTold_cfs

/-- VSU takes the change: it is active and JOINED, and the entry is not the own one. -/
def Node.repairs (n : Node) (src : NodeId) : Prop := n.vsuTakes = true ∧ src ≠ n.id

/-- The entry shows a place in the own vent queue (R135). -/
def Node.ventMember (n : Node) (c : Standing) : Prop := c.ventGroup = n.cfg.ventGroup ∧ c.ventStatus ≠ .none

theorem vsuRepair_told (h : n.repairs src) : vsuRepair src (clientTold src c n) =
    (if decide (c.ventGroup = n.cfg.ventGroup) && decide (c.ventStatus ≠ .none) then
      ventAppend src (clientTold src c n) else ventRemove src (clientTold src c n)) := by
  unfold vsuRepair; dsimp only
  rw [clientTold_peer, clientTold_takes, clientTold_id, cfg_of_cfs clientTold_cfs]
  exact if_pos (by simp [h.1, h.2, Node.entryOf, Peer.ofStanding])

theorem vsuRepair_joins (h : n.repairs src) (hm : n.ventMember c) :
    vsuRepair src (clientTold src c n) = ventAppend src (clientTold src c n) :=
  (vsuRepair_told h).trans (if_pos (by simp [hm.1, hm.2]))

theorem vsuRepair_leaves (h : n.repairs src) (hm : ¬ n.ventMember c) :
    vsuRepair src (clientTold src c n) = ventRemove src (clientTold src c n) :=
  (vsuRepair_told h).trans (if_neg fun hb => hm (by simpa [Node.ventMember] using hb))

theorem vsuRepair_unmoved (h : ¬ n.repairs src) :
    vsuRepair src (clientTold src c n) = (clientTold src c n, false) := by
  unfold vsuRepair; dsimp only
  rw [clientTold_takes, clientTold_id]
  exact if_neg fun hb => h (by
    simp only [Bool.and_eq_true, decide_eq_true_eq] at hb; exact ⟨hb.1.1, hb.1.2⟩)

theorem slotRepaired_queue (m : Node) : (slotRepaired src m).vsu.queue = (vsuRepair src m).1.vsu.queue :=
  takeSlot_queue _

/-- A repair that leaves the queue gives no slot. -/
theorem vsuRepair_gives (m : Node) (h : (vsuRepair src m).1.vsu.queue = m.vsu.queue) :
    (vsuRepair src m).2 = false := by
  unfold vsuRepair at h ⊢; dsimp only at h ⊢
  split at h
  next ht =>
    rw [if_pos ht]
    split at h
    next hm => rw [if_pos hm]; exact ventAppend_gives h
    next hm => rw [if_neg hm]; exact ventRemove_gives h
  next ht => rw [if_neg ht]

theorem peerStanding_repairs (hch : (n.peer src).vsuChange (n.entryOf c) = true) :
    peerStanding src c n = slotRepaired src (clientTold src c n) :=
  (peerStanding_eq src c n).trans (when_true hch _ _)

theorem peerStanding_joins (h : n.repairs src) (hch : (n.peer src).vsuChange (n.entryOf c) = true)
    (hm : n.ventMember c) : (peerStanding src c n).vsu.queue =
      if src ∈ n.vsu.queue then n.vsu.queue else n.vsu.queue ++ [src] := by
  rw [peerStanding_repairs hch, slotRepaired_queue, vsuRepair_joins h hm, ventAppend_queue, clientTold_queue]

theorem peerStanding_leaves (h : n.repairs src) (hch : (n.peer src).vsuChange (n.entryOf c) = true)
    (hm : ¬ n.ventMember c) : (peerStanding src c n).vsu.queue = n.vsu.queue.filter (· ≠ src) := by
  rw [peerStanding_repairs hch, slotRepaired_queue, vsuRepair_leaves h hm, ventRemove_filters, clientTold_queue]

theorem peerStanding_queue_kept (h : ¬ (n.vsuTakes = true ∧ src ≠ n.id ∧
    (n.peer src).vsuChange (n.entryOf c) = true)) : (peerStanding src c n).vsu.queue = n.vsu.queue := by
  by_cases hch : (n.peer src).vsuChange (n.entryOf c) = true
  · rw [peerStanding_repairs hch, slotRepaired_queue, vsuRepair_unmoved fun hr => h ⟨hr.1, hr.2, hch⟩,
      clientTold_queue]
  · rw [peerStanding_eq, when_false hch, clientTold_queue]

theorem clientTold_await (hh : n.hsq.hall = .awaitSlot) : clientTold src c n =
    when ((n.peer src).rclChange (n.entryOf c) && decide (n.cfg.holder = some src)) (rclHolder src)
      (bankTold src c n) ∧ (bankTold src c n).hsq.hall = .awaitSlot := by
  have hb : (bankTold src c n).hsq.hall = .awaitSlot := by
    have hc : ¬ crossZone n.hsq := fun h => by rcases h.1 with h | h <;> rw [hh] at h <;> cases h
    exact ((bankTold_client hc).2.2 _ (by decide) (by decide)).2 hh
  refine ⟨?_, hb⟩
  have hs : clientStep src (bankTold src c n) = rclHolder src (bankTold src c n) :=
    soakTest_of_other (by
      rw [hall_of_calm (calm_of_sansClient (rclHolder_sansClient src _)), hb]; decide)
  unfold clientTold when; rw [hs]

theorem clientTold_vsu_await (hh : n.hsq.hall = .awaitSlot) :
    (clientTold src c n).hsq.hall = .awaitSlot ∧ (clientTold src c n).vsu = n.vsu := by
  obtain ⟨he, hb⟩ := clientTold_await (src := src) (c := c) hh
  have hc : ¬ crossZone n.hsq := fun h => by rcases h.1 with h | h <;> rw [hh] at h <;> cases h
  obtain ⟨x, hx, -⟩ := hallTold_hsq src c hc
  rw [he]
  refine ⟨?_, ?_⟩
  · rw [when_keeps (fun m => m.hsq.hall) _
      (hall_of_calm (calm_of_sansClient (rclHolder_sansClient src _)))]
    exact hb
  · rw [when_keeps (fun m => m.vsu) _ (congrArg (fun m => m.vsu) (rclHolder_sansClient src _))]
    exact (congrArg (fun m => m.vsu) (bankTold_sansBank src c n)).trans (by rw [hx])

/-- In AWAIT_SLOT a repair that frees a slot for the own announcement starts the discharge. -/
theorem peerStanding_frees (h : n.repairs src) (hch : (n.peer src).vsuChange (n.entryOf c) = true)
    (hm : ¬ n.ventMember c) (hh : n.hsq.hall = .awaitSlot) (hs : n.vsu.sought = true)
    (hsrc : src ∈ n.vsu.queue) (hin : n.id ∈ n.vsu.queue)
    (hlt : (n.vsu.queue.filter (· ≠ src)).findIdx (fun i => i = n.id) < n.cfg.ventCapacity) :
    (peerStanding src c n).hsq.hall = .discharging ∧ (peerStanding src c n).vsu.slotWait = none := by
  obtain ⟨hall, hvsu⟩ := clientTold_vsu_await (src := src) (c := c) hh
  rw [peerStanding_repairs hch, slotRepaired, vsuRepair_leaves h hm]
  have hid := clientTold_id (src := src) (c := c) (n := n)
  have hcfg : (clientTold src c n).cfg = n.cfg := cfg_of_cfs clientTold_cfs
  generalize clientTold src c n = m at *
  have hremove : ventRemove src m = ventReeval { m with vsu.queue := m.vsu.queue.filter (· ≠ src) } :=
    if_pos (by rw [hvsu]; exact hsrc)
  have hslot : ({ m with vsu.queue := m.vsu.queue.filter (· ≠ src) } : Node).holdsSlot = true := by
    refine holdsSlot_of_findIdx ?_ ?_
    · refine List.mem_filter.2 ⟨?_, ?_⟩
      · rw [hvsu]; change m.id ∈ _; rw [hid]; exact hin
      · change decide (m.id ≠ src) = true
        rw [hid]; simpa using h.2.symm
    · change (m.vsu.queue.filter (· ≠ src)).findIdx (fun i => i = m.id) < m.cfg.ventCapacity
      rw [hvsu, hid, hcfg]; exact hlt
  rw [hremove]
  generalize hk : ({ m with vsu.queue := m.vsu.queue.filter (· ≠ src) } : Node) = k at hslot
  have hsk : k.vsu.sought = true := by rw [← hk]; dsimp only; rw [hvsu]; exact hs
  have hhk : k.hsq.hall = .awaitSlot := by rw [← hk]; exact hall
  have hheld : (k.holdsSlot && k.vsu.sought && decide (k.hsq.hall = .awaitSlot)) = true := by
    simp [hslot, hsk, hhk]
  have hre : ventReeval k = ({ k with
      vsu := { k.vsu with sought := false, slotWait := none,
                          status := (ventReeval k).1.vsu.status } }, true) := by
    unfold ventReeval; dsimp only; rw [if_pos hheld, hheld]
  rw [takeSlot_true (by rw [hre]) (by rw [hre]; exact hhk)]
  exact ⟨enterDischarging_hall _, by rw [enterDischarging_vsu, hre]⟩

theorem peerStanding_waits (hh : n.hsq.hall = .awaitSlot)
    (hq : (peerStanding src c n).vsu.queue = n.vsu.queue) : (peerStanding src c n).hsq.hall = .awaitSlot := by
  obtain ⟨hall, -⟩ := clientTold_vsu_await (src := src) (c := c) hh
  by_cases hch : (n.peer src).vsuChange (n.entryOf c) = true
  · rw [peerStanding_repairs hch] at hq ⊢
    have hnone : (vsuRepair src (clientTold src c n)).2 = false := by
      refine vsuRepair_gives _ ?_
      rw [← slotRepaired_queue, hq, clientTold_queue]
    rw [slotRepaired, takeSlot_false hnone, vsuRepair_hsq]
    exact hall
  · rw [peerStanding_eq, when_false hch]; exact hall

end

end Sys2Proof.Machine

/-! # A STANDING received -/

namespace Sys2Proof.Machine

section
variable {p : Peer} {c : Standing} {n : Node}

theorem hsqChange_iff : p.hsqChange (n.entryOf c) = true ↔ p.present = false ∨ p.hall ≠ some c.hall := by
  simp only [Peer.hsqChange, Bool.or_eq_true, decide_eq_true_eq]
  simp [Node.entryOf, Peer.ofStanding]

theorem rvaChange_iff : p.rvaChange (n.entryOf c) = true ↔
    p.present = false ∨ p.bidHolder ≠ c.bidHolder ∨ p.wanted ≠ c.wanted ∨ p.cls ≠ c.cls := by
  simp only [Peer.rvaChange, Bool.or_eq_true, decide_eq_true_eq, or_assoc]
  simp [Node.entryOf, Peer.ofStanding]

theorem rclChange_iff : p.rclChange (n.entryOf c) = true ↔
    p.present = false ∨ p.holderPart ≠ c.holderPart := by
  simp only [Peer.rclChange, Bool.or_eq_true, decide_eq_true_eq]
  simp [Node.entryOf, Peer.ofStanding]

theorem vsuChange_iff : p.vsuChange (n.entryOf c) = true ↔
    p.present = false ∨ p.ventGroup ≠ c.ventGroup ∨ p.ventStatus ≠ c.ventStatus := by
  simp only [Peer.vsuChange, Bool.or_eq_true, decide_eq_true_eq, or_assoc]
  simp [Node.entryOf, Peer.ofStanding]

end

section
variable {src : NodeId} {c : Standing} {n : Node}

/-- The link's own record, but for the peer table and the outbox, is no part of what a STANDING is taken
for. -/
theorem peerStanding_lkc : (peerStanding src c n).lkc =
    { n.lkc with peers := (entryTaken src c n).lkc.peers, outbox := (peerStanding src c n).lkc.outbox } :=
  congrArg (fun m : Node => { m.lkc with outbox := (peerStanding src c n).lkc.outbox })
    (peerStanding_still src c n)

theorem peerStanding_adjacentStands (h : (n.peer src).hsqChange (n.entryOf c) = true) :
    (peerStanding src c n).hsq.adjacent = true ↔ adjacentStands (peerStanding src c n) := by
  rw [hallTold_adjacent h, adjacentNow_iff]
  have hs := peerStanding_still src c n
  exact adjacentStands_congr (peers_of_still hs).symm (congrArg (fun m => m.cfs) hs).symm

/-- RCL's act on the grant of a STANDING, by the selector, for the node at the end of the event. -/
theorem peerStanding_acts (hl : n.lkc.link ≠ .lost) (h : clientChange src c n)
    (hd : n.hsq.hall = .discharging) (hk : n.fiu.key.delivered = .normal) (hp : n.rcl.phase = .waitingGrant)
    (hg : 0 < (peerStanding src c n).rcl.grantHeard) (hleft : 0 < n.rcl.n - n.rcl.fed) :
    let t := peerStanding src c n
    let g := t.rcl.grantHeard
    let left := n.rcl.n - n.rcl.fed
    let sel := n.vcu.selector
    (sel.state = .closed ∨ sel.state = .closing → t.rcl.phase = .opening ∧ t.vcu.selector = { sel with
      state := .opening, drive := .driveOpen, travel := some (n.now + 1000 * n.cfg.selectorTime) }) ∧
    (sel.state = .opening → t.rcl.phase = .opening ∧ t.vcu.selector = sel) ∧
    (sel.state = .opened → t.rcl.phase = .requested ∧ t.vcu.selector = sel ∧
      t.rcl.asked = min g left ∧ t.lkc.outbox.wayopen = some (src, min g left) ∧
      t.rcl.feedTimeout = some (n.now + 1000 * n.cfg.feedTimeout)) ∧
    (sel.state = .jammed → t.rcl.phase = .done ∧ t.rcl.bid = .none ∧ t.rcl.outcome = n.rcl.outcomeByRule) := by
  have hc : ¬ crossZone n.hsq := fun hx => by rcases hx.1 with hx | hx <;> rw [hd] at hx <;> cases hx
  obtain ⟨hrcl, hsel, hall⟩ := bankTold_client (src := src) (c := c) hc
  have hdb := (hall _ (by decide) (by decide)).2 hd
  rw [peerStanding_grantHeard hl h] at hg
  have hact := rclHolder_acts (h := src) (n := bankTold src c n) (by rw [bankTold_cfg]; exact h.1)
    (by rw [bankTold_link]; exact hl)
    ((congrArg (fun m => m.fiu.key.delivered) (bankTold_still src c n)).trans hk) (by rw [hrcl]; exact hp) hg
    (by rw [hrcl]; exact hleft)
  have hnow : (bankTold src c n).now = n.now := congrArg (fun m => m.now) (bankTold_still src c n)
  dsimp only at hact ⊢
  rw [hrcl, hsel, hnow, bankTold_cfg] at hact
  obtain ⟨hr, hs, hw⟩ := peerStanding_client hdb h
  rw [peerStanding_grantHeard hl h, hr, hs, hw]
  exact hact

/-- The grant of the placed bid vanished (R122). -/
def Node.vanished (n : Node) (g : Nat) : Prop :=
  n.rcl.bid = .placed ∧ 0 < n.rcl.grantHeard ∧ g = 0 ∧ n.rcl.phase ≠ .requested

/-- The bid waits to be placed, and the STANDING lets it (R121, R128). -/
def Node.placeable (n : Node) (c : Standing) : Prop :=
  (n.rcl.bid = .held ∨ (n.rcl.rebid = true ∧ n.rcl.bid ≠ .none)) ∧
    n.lkc.link = .joined ∧ c.holderPart ≠ none ∧ n.vcu.selector.state ≠ .jammed

theorem claims_iff {r : Rcl} : r.claims = true ↔ r.bid = .queued ∨ r.bid = .placed := by
  simp [Rcl.claims]

theorem bankTold_fell (hc : ¬ crossZone n.hsq) :
    (bankTold src c n).grantFell src ↔ n.vanished ((bankTold src c n).grantOf src) := by
  obtain ⟨hrcl, -, -⟩ := bankTold_client (src := src) (c := c) hc
  unfold Node.grantFell Node.vanished
  rw [hrcl]
  constructor
  · rintro ⟨hg, h0, hp, hb⟩; exact ⟨hb, hg, h0, hp⟩
  · rintro ⟨hb, hg, h0, hp⟩; exact ⟨hg, h0, hp, hb⟩

theorem bankTold_retried (hc : ¬ crossZone n.hsq) (hh : n.cfg.holder = some src) (h : n.placeable c) :
    (bankTold src c n).bidRetried := by
  obtain ⟨hrcl, hsel, -⟩ := bankTold_client (src := src) (c := c) hc
  obtain ⟨hbid, hl, hpart, hj⟩ := h
  refine ⟨⟨by rw [bankTold_link]; exact hl, by rw [hsel]; exact hj, src, by rw [bankTold_cfg]; exact hh,
    by rw [bankTold_peer]; rfl, by rw [bankTold_peer]; exact hpart⟩, ?_⟩
  rw [hrcl, claims_iff]
  rcases hbid with hb | ⟨hr, hb⟩
  · exact .inl hb
  · cases hx : n.rcl.bid
    case none => exact absurd hx hb
    case held => exact .inl rfl
    case queued => exact .inr ⟨hr, .inl rfl⟩
    case placed => exact .inr ⟨hr, .inr rfl⟩

theorem peerStanding_rebids (hl : n.lkc.link ≠ .lost) (h : clientChange src c n) (hc : ¬ crossZone n.hsq)
    (hb : n.vanished (peerStanding src c n).rcl.grantHeard ∨ n.placeable c) :
    (peerStanding src c n).rcl.bid = .queued ∧ bidWaits n.rcl.n (peerStanding src c n) := by
  rw [peerStanding_grantHeard hl h] at hb
  obtain ⟨hrcl, -, -⟩ := bankTold_client (src := src) (c := c) hc
  have hpart := peerStanding_bids hl h
    (hb.imp (bankTold_fell hc).2 (bankTold_retried hc h.1))
  obtain ⟨hq, hw⟩ := bidSent_waits (h := src) (n := bankTold src c n) (by rw [bankTold_cfg]; exact h.1)
  rw [hrcl] at hw
  have hcfg : (peerStanding src c n).cfg = n.cfg :=
    congrArg (fun m => m.cfg) (peerStanding_still src c n)
  refine ⟨(congrArg Prod.fst hpart).trans hq, fun y hy => ?_⟩
  rw [hcfg] at hy ⊢
  refine (congrArg (fun q => q.2.2.1) hpart).trans ((hw y ?_).trans ?_)
  · exact (congrArg (fun k => k.holder) bankTold_cfg).trans hy
  · exact congrArg (fun k : Cfg => some (⟨y, n.rcl.n, k.cls⟩ : BidContent)) (bankTold_cfg (src := src) (c := c))

theorem peerStanding_bid_stays (hl : n.lkc.link ≠ .lost) (h : clientChange src c n) (hc : ¬ crossZone n.hsq)
    (hb : n.rcl.bid ≠ .held) (hr : n.rcl.rebid = false)
    (hv : ¬ n.vanished (peerStanding src c n).rcl.grantHeard) (ha : n.hsq.hall ≠ .awaitSlot)
    (hp : n.rcl.phase ≠ .waitingGrant) : (peerStanding src c n).rcl.bid = n.rcl.bid := by
  obtain ⟨hrcl, -, hall⟩ := bankTold_client (src := src) (c := c) hc
  rw [peerStanding_grantHeard hl h, ← bankTold_fell hc] at hv
  rw [peerStanding_keeps_bid h hv ?_ (by rw [hrcl]; exact hp)
    fun hx => ha ((hall _ (by decide) (by decide)).1 hx), hrcl]
  rintro ⟨-, hx⟩
  rw [hrcl, hr] at hx
  simp [hb] at hx

end

theorem entry_of_rva {a b : Node} (h : a.rva = b.rva) (i : NodeId) : a.entry i = b.entry i := by
  unfold Node.entry; rw [h]

theorem finish_entry (b n : Node) (i : NodeId) : (finish b n).entry i = n.entry i :=
  entry_of_rva (finish_rva _ _) i

theorem finish_committedTo (b n : Node) (i : NodeId) : (finish b n).committedTo i = n.committedTo i := by
  unfold Node.committedTo Node.chansWith Node.chan; rw [finish_vcu]

/-- Settles O28: each block's part of `peerStanding`, at the node that heard the frame. -/
theorem standingReceivedFillsThePeerTable : Obligations.StandingReceivedFillsThePeerTable := by
  intro s src c hr hclash hv hsrc n p member ventChange bidChange bids
  obtain ⟨m, ⟨l, hm, hpeers, hsil, hfl, hlink, hlis, hbad, hcl⟩, hhear⟩ := hear_standing hv hclash hsrc
  have he : exec (.standingReceived src c) s = .next { s with node := finish n (peerStanding src c m) } := by
    rw [← hhear]; exact if_pos hr
  have hlkc : m.lkc = l := by rw [hm]
  have hlost : m.lkc.link ≠ .lost := by
    rw [hlkc, hlink]; split
    · decide
    next h => exact h
  have hjoined : m.lkc.link = .joined ↔ n.lkc.link = .joined := by
    rw [hlkc, hlink]
    constructor
    · intro h; split at h
      · cases h
      · exact h
    · intro h; rw [if_neg (by rw [show s.node.lkc.link = .joined from h]; decide)]; exact h
  have hpeer : ∀ i, m.peer i = n.peer i := fun i => by unfold Node.peer; rw [hlkc, hpeers]
  have htakes : m.vsuTakes = n.vsuTakes := by
    have hact : m.vsuActive = n.vsuActive := by rw [hm]; rfl
    unfold Node.vsuTakes; rw [hact]; simp [hjoined]
  have hhsq : m.hsq = n.hsq := by rw [hm]
  have hrcl : m.rcl = n.rcl := by rw [hm]
  have hvcu : m.vcu = n.vcu := by rw [hm]
  have hfiu : m.fiu = n.fiu := by rw [hm]
  have hnow : m.now = n.now := by rw [hm]
  have hcfs : m.cfs = n.cfs := by rw [hm]
  have hrva : m.rva = n.rva := by rw [hm]
  have hvsu : m.vsu = n.vsu := by rw [hm]
  have hcfg : m.cfg = n.cfg := congrArg (fun k => k.cfg) hcfs
  have hid : m.id = n.id := congrArg (fun k => k.nodeId) hcfs
  have hk := peerStanding_lkc (src := src) (c := c) (n := m)
  have hstill := peerStanding_still src c m
  refine ⟨_, he, ?_⟩
  dsimp only
  rw [finish_peer, finish_silence, finish_inFlight, finish_link, finish_listen, finish_badFrames, finish_clash,
    finish_hsq, finish_rcl, finish_vcu, finish_wayopen, finish_rva, finish_vsu]
  refine ⟨?own, fun j hj => ?others, ?silence, ?inFlight, ?link, ?listen, ?badFrames, ?clash, fun hch => ?hall,
    fun hh hch => ?client, fun h => ?kept, fun hl hb hch => ?unbids, ?vents⟩
  case own =>
    rw [peer_of_still hstill, entryTaken_peer, Node.entryOf, hnow, hcfg]; rfl
  case others =>
    rw [finish_peer, peer_of_still hstill, entryTaken, Node.peer_setPeer_other _ _ _ _ hj, hpeer]
  case silence => rw [hk, hlkc]; exact hsil
  case inFlight => rw [hk, hlkc]; exact hfl
  case link => rw [hk, hlkc]; exact hlink
  case listen => rw [hk, hlkc]; exact hlis
  case badFrames => rw [hk, hlkc]; exact hbad
  case clash => rw [hk, hlkc]; exact hcl.trans hclash
  case hall =>
    have hch' : (m.peer src).hsqChange (m.entryOf c) = true := hsqChange_iff.2 (by rw [hpeer]; exact hch)
    refine ⟨?_, fun hrest hc => ?_⟩
    · rw [peerStanding_adjacentStands hch']
      exact (adjacentStands_congr (finish_peers _ _) (by rw [finish_cfs])).symm
    · have h := peerStanding_follows hch' (by rw [hhsq]; exact hrest) (by rw [hhsq]; exact hc)
      rw [hhsq] at h
      unfold followsCauses at h ⊢
      rw [hnow, hcfg] at h
      exact h
  case client =>
    have hch' : clientChange src c m :=
      ⟨by rw [hcfg]; exact hh, rclChange_iff.2 (by rw [hpeer]; exact hch)⟩
    refine ⟨?_, fun hd hkey hp hg hleft => ?_, fun hc hb => ?_, fun hc hb hre hva ha hp => ?_⟩
    · rw [peerStanding_grantHeard hlost hch', show s.node.id = m.id from hid.symm]
      exact bankTold_grantOf
    · have h := peerStanding_acts hlost hch' (by rw [hhsq]; exact hd) (by rw [hfiu]; exact hkey)
        (by rw [hrcl]; exact hp) hg (by rw [hrcl]; exact hleft)
      dsimp only at h
      rw [hrcl, hvcu, hnow, hcfg] at h
      exact h
    · have h := peerStanding_rebids hlost hch' (by rw [hhsq]; exact hc) (by
        unfold Node.vanished Node.placeable; rw [hrcl, hvcu, hjoined]; exact hb)
      rw [hrcl] at h
      refine ⟨h.1, ?_⟩
      unfold bidWaits; rw [finish_cfg, finish_bid]; exact h.2
    · rw [← hrcl]
      exact peerStanding_bid_stays hlost hch' (by rw [hhsq]; exact hc) (by rw [hrcl]; exact hb)
        (by rw [hrcl]; exact hre) (by unfold Node.vanished; rw [hrcl]; exact hva) (by rw [hhsq]; exact ha)
        (by rw [hrcl]; exact hp)
  case kept =>
    rw [← hrva]
    refine peerStanding_rva_kept ?_
    rw [Ne, hjoined, hid, rvaChange_iff, hpeer]; exact h
  case unbids =>
    have h := peerStanding_unbids (src := src) (c := c) (n := m) (hjoined.2 hl) (by rw [hid]; exact hb)
      (rvaChange_iff.2 (by rw [hpeer]; exact hch))
    rw [show m.entry src = n.entry src from entry_of_rva hrva src] at h
    rw [finish_entry, finish_committedTo]
    exact h
  case vents =>
    have hmember : m.ventMember c ↔ member := by unfold Node.ventMember; rw [hcfg]
    have hrepairs : n.vsuTakes = true → src ≠ n.id → m.repairs src := fun ht hne =>
      ⟨by rw [htakes]; exact ht, by rw [hid]; exact hne⟩
    have hchange : ventChange → (m.peer src).vsuChange (m.entryOf c) = true := fun hx =>
      vsuChange_iff.2 (by rw [hpeer]; exact hx)
    refine ⟨fun ht hmem => ?_, fun ht hmem => ⟨?_, fun hh hs hin hme hlt => ?_⟩, fun ht => ?_, fun hh hq => ?_⟩
    · rw [← hvsu]; exact peerStanding_joins (hrepairs ht.1 ht.2.1) (hchange ht.2.2) (hmember.2 hmem)
    · rw [← hvsu]
      exact peerStanding_leaves (hrepairs ht.1 ht.2.1) (hchange ht.2.2) fun hx => hmem (hmember.1 hx)
    · have hgone : ¬ m.ventMember c := fun hx => hmem (hmember.1 hx)
      refine peerStanding_frees (hrepairs ht.1 ht.2.1) (hchange ht.2.2) hgone (by rw [hhsq]; exact hh)
        (by rw [hvsu]; exact hs) (by rw [hvsu]; exact hin) (by rw [hvsu, hid]; exact hme) ?_
      rw [peerStanding_leaves (hrepairs ht.1 ht.2.1) (hchange ht.2.2) hgone] at hlt
      rw [hid, hcfg]; exact hlt
    · rw [← hvsu]
      refine peerStanding_queue_kept fun hx => ht ⟨by rw [← htakes]; exact hx.1, by rw [← hid]; exact hx.2.1, ?_⟩
      have h := vsuChange_iff.1 hx.2.2
      rwa [hpeer] at h
    · exact peerStanding_waits (by rw [hhsq]; exact hh) (by rw [hvsu]; exact hq)

end Sys2Proof.Machine

/-! # A FED heard -/

namespace Sys2Proof.Machine

/-! ## Hearing it -/

/-- A JOINED node with no frame in flight counts a foreign valid frame as heard and hands it on. -/
theorem hear_foreign {n : Node} {f : Frame} (hv : f.valid = true) (hc : n.lkc.clash = false)
    (hl : n.lkc.link = .joined) (hf : n.lkc.inFlight = none) (hs : frameSource f ≠ n.id) :
    hear f n = handOn f n.heard := by
  have hheard : countHeard (returnInFlight n) = n.heard := by
    have hret : returnInFlight n = n := by unfold returnInFlight; rw [hf]
    rw [hret]; unfold countHeard Node.heard; rw [hl, ← hf]
  refine (((if_pos hv).trans (if_neg (by simp [hc]))).trans (if_neg (by simp [hf]))).trans ?_
  have he : hearForeign f n = handOn f (countHeard (returnInFlight n)) := if_neg hs
  rw [he, hheard]

theorem heard_fed_valid {src g : NodeId} {k f : Nat} {o : FedOutcome} (hk : k ≤ 8) (hf : f ≤ 8) :
    (Frame.fed src g k f o).valid = true := by simp [Frame.valid, hk, hf]

/-! ## Its mass and its flow -/

/-- The plan's record with a FED's mass taken (R59). -/
def Node.fedMass (k : Nat) (n : Node) : Apl :=
  if (n.hsq.hall = .discharging ∨ n.hsq.hall = .soak) ∧ n.apl.stage ≠ .none ∧ 0 < k then
    { addMass n.cfg (k * n.cfg.mr) n.apl with resConfirmed := n.apl.resConfirmed + k }
  else n.apl

theorem aplFed_eq (k : Nat) (n : Node) : aplFed k n = { n with apl := n.fedMass k } := by
  unfold aplFed Node.fedMass
  by_cases h : (n.hsq.hall = .discharging ∨ n.hsq.hall = .soak) ∧ n.apl.stage ≠ .none ∧ 0 < k
  · rw [if_pos h, if_pos (by simpa [aplTakes, and_assoc] using h)]
  · rw [if_neg h, if_neg (by simpa [aplTakes, and_assoc] using h)]

/-- The groups fed once a FED's flow is taken, capped at 8 (R125). -/
def Node.fedCount (k : Nat) (n : Node) : Nat :=
  if 0 < k ∧ n.hsq.reservePhase = .opened then min 8 (n.rcl.fed + k) else n.rcl.fed

/-- The client's record with a FED's flow taken (R125). -/
def Node.fedClient (k : Nat) (n : Node) : Rcl :=
  if 0 < k ∧ n.hsq.reservePhase = .opened then
    { n.rcl with fed := n.fedCount k, flowTaken := true,
                 flowTimer := some (n.now + 1000 * n.cfg.duration) }
  else n.rcl

/-- The sequencer's record with a FED's flow taken (R18). -/
def Node.fedHall (k : Nat) (n : Node) : Hsq :=
  if 0 < k ∧ n.hsq.reservePhase = .opened then
    { n.hsq with duration := some (n.now + 1000 * n.cfg.duration), elapsed := false }
  else n.hsq

/-- The node with a FED's mass and flow taken. -/
def fedTaken (k : Nat) (n : Node) : Node :=
  { n with apl := n.fedMass k, rcl := n.fedClient k, hsq := n.fedHall k }

theorem rclFed_eq (k : Nat) (o : FedOutcome) (n : Node) : rclFed k o n =
    match n.rcl.phase with
    | .requested => fedAnswer o (fedTaken k n)
    | .waitingGrant => if (fedTaken k n).rcl.left = 0 then rclEnd false (fedTaken k n) else fedTaken k n
    | .opening => if (fedTaken k n).rcl.left = 0 then rclEnd false (fedTaken k n) else fedTaken k n
    | .idle => fedTaken k n
    | .done => fedTaken k n := by
  have htaken : (if 0 < k ∧ (aplFed k n).hsq.reservePhase = .opened then reserveFlow k (aplFed k n)
      else aplFed k n) = fedTaken k n := by
    rw [aplFed_eq]
    unfold fedTaken Node.fedClient Node.fedHall Node.fedCount
    by_cases h : 0 < k ∧ n.hsq.reservePhase = .opened
    · rw [if_pos h, if_pos h, if_pos h, if_pos (by exact h)]; rfl
    · rw [if_neg h, if_neg h, if_neg (by exact h)]
  have hphase : (fedTaken k n).rcl.phase = n.rcl.phase := by
    change (n.fedClient k).phase = _
    unfold Node.fedClient; split <;> rfl
  rw [← hphase, ← htaken]; rfl

theorem fedHall_phase (k : Nat) (n : Node) : (n.fedHall k).reservePhase = n.hsq.reservePhase := by
  unfold Node.fedHall; split <;> rfl

theorem fedHall_hall (k : Nat) (n : Node) : (n.fedHall k).hall = n.hsq.hall := by
  unfold Node.fedHall; split <;> rfl

theorem fedHall_firing (k : Nat) (n : Node) : (n.fedHall k).firing = n.hsq.firing := by
  unfold Node.fedHall; split <;> rfl

/-- Flow restarts the duration in an OPEN phase alone, so a settled discharge shows before it. -/
theorem fedTaken_soakDue {k : Nat} {n : Node} (h : (fedTaken k n).soakDue = true) : n.soakDue = true := by
  rw [Node.soakDue_iff] at h ⊢
  obtain ⟨hh, ⟨hf, hp⟩, he⟩ := h
  change (n.fedHall k).hall = _ at hh
  change ∀ e ∈ (n.fedHall k).firing, _ at hf
  change (n.fedHall k).reservePhase = _ at hp
  change (n.fedHall k).elapsed = _ at he
  rw [fedHall_hall] at hh
  rw [fedHall_firing] at hf
  rw [fedHall_phase] at hp
  have hself : n.fedHall k = n.hsq := if_neg fun hx => by rw [hx.2] at hp; cases hp
  rw [hself] at he
  exact ⟨hh, ⟨hf, hp⟩, he⟩

/-! ## The test for SOAK keeps -/

/-- The test for SOAK moves the hall and its timer alone. -/
theorem soakTest_hsq (n : Node) : (soakTest n).hsq =
    { n.hsq with hall := (soakTest n).hsq.hall, soak := (soakTest n).hsq.soak } := by
  unfold soakTest; split
  · rw [enterSoak_hsq]
  · rfl

theorem aplEvaluate_apl (n : Node) : (aplEvaluate n).apl = { n.apl with
    short := (aplEvaluate n).apl.short, low := (aplEvaluate n).apl.low,
    evaluated := (aplEvaluate n).apl.evaluated } := by
  by_cases h : n.apl.evaluated = true
  · rw [aplEvaluate_done h]
  · rw [(aplEvaluate_judges (by simpa using h)).1]; rfl

/-- The test for SOAK may judge the outcome, and leaves the sums. -/
theorem soakTest_sums (n : Node) : (soakTest n).apl.m = n.apl.m ∧
    (soakTest n).apl.resConfirmed = n.apl.resConfirmed := by
  have hsettled : (soakSettled n).apl.m = n.apl.m ∧ (soakSettled n).apl.resConfirmed = n.apl.resConfirmed := by
    unfold soakSettled; split
    · rw [vsuWithdraw_eq]; dsimp only; rw [aplEvaluate_apl]; exact ⟨rfl, rfl⟩
    · exact ⟨rfl, rfl⟩
  unfold soakTest; split
  · rw [enterSoak_eq]; exact hsettled
  · exact ⟨rfl, rfl⟩

/-! ## The answer to a WAYOPEN -/

/-- The node with the WAYOPEN answered, before the phase goes on or ends. -/
def answerTaken (o : FedOutcome) (n : Node) : Node :=
  { n with rcl.feedTimeout := none, rcl.lastAnswer := lastAnswerOf o, rcl.grantHeard := 0 }

theorem fedAnswer_ends {o : FedOutcome} {n : Node} (h : n.rcl.left = 0 ∨ n.rcl.wait = .expired) :
    fedAnswer o n = rclEnd false (answerTaken o n) := if_pos h

/-- The node that waits for a grant again after an answer. -/
def waitsAgain (o : FedOutcome) (n : Node) : Node := { answerTaken o n with rcl.phase := .waitingGrant }

theorem fedAnswer_goes_on {o : FedOutcome} {n : Node} (hl : 0 < n.rcl.left) (hw : n.rcl.wait ≠ .expired) :
    fedAnswer o n =
      if o = .lapsed ∧ n.rcl.claims = true then sendBid (waitsAgain o n) else waitsAgain o n := by
  have hn : ¬ (n.rcl.left = 0 ∨ n.rcl.wait = .expired) := by rintro (h | h); exacts [by omega, hw h]
  refine (if_neg (c := (answerTaken o n).rcl.left = 0 ∨ (answerTaken o n).rcl.wait = .expired) hn).trans ?_
  cases o with
  | lapsed =>
    by_cases hc : n.rcl.claims = true
    · exact (if_pos (c := (waitsAgain .lapsed n).rcl.claims = true) hc).trans
        (if_pos (c := _ ∧ n.rcl.claims = true) ⟨rfl, hc⟩).symm
    · exact (if_neg (c := (waitsAgain .lapsed n).rcl.claims = true) hc).trans
        (if_neg (c := _ ∧ n.rcl.claims = true) fun h => hc h.2).symm
  | complete => rfl
  | part => rfl
  | refused => rfl

/-! ## The whole event -/

/-- A FED of the holder to this node goes to RCL, and the test for SOAK follows. -/
theorem hear_fed {n : Node} {h : NodeId} {k f : Nat} {o : FedOutcome} (hc : n.lkc.clash = false)
    (hl : n.lkc.link = .joined) (hf : n.lkc.inFlight = none) (hs : h ≠ n.id) (hh : n.cfg.holder = some h)
    (hk : k ≤ 8) (hf8 : f ≤ 8) : hear (.fed h n.id k f o) n = soakTest (rclFed k o n.heard) :=
  (hear_foreign (heard_fed_valid hk hf8) hc hl hf hs).trans (if_pos ⟨hl, hh, rfl⟩)

theorem hear_fed_foreign {n : Node} {src g : NodeId} {k f : Nat} {o : FedOutcome} (hc : n.lkc.clash = false)
    (hl : n.lkc.link = .joined) (hf : n.lkc.inFlight = none) (hs : src ≠ n.id)
    (hh : n.cfg.holder ≠ some src ∨ g ≠ n.id) (hk : k ≤ 8) (hf8 : f ≤ 8) :
    hear (.fed src g k f o) n = n.heard := by
  refine (hear_foreign (heard_fed_valid hk hf8) hc hl hf hs).trans (if_neg ?_)
  rintro ⟨-, hx, hg⟩
  exact hh.elim (fun hne => hne hx) (fun hne => hne hg)

theorem fedClient_phase (k : Nat) (n : Node) : (n.fedClient k).phase = n.rcl.phase ∧
    (n.fedClient k).n = n.rcl.n ∧ (n.fedClient k).wait = n.rcl.wait ∧ (n.fedClient k).bid = n.rcl.bid ∧
    (n.fedClient k).fed = n.fedCount k := by
  unfold Node.fedClient
  split
  · exact ⟨rfl, rfl, rfl, rfl, rfl⟩
  next h => exact ⟨rfl, rfl, rfl, rfl, (if_neg h).symm⟩

theorem fedMass_sums {n : Node} (k : Nat) (hh : n.hsq.hall = .discharging) (hs : n.apl.stage ≠ .none) :
    (n.fedMass k).m = n.apl.m + k * n.cfg.mr ∧ (n.fedMass k).resConfirmed = n.apl.resConfirmed + k := by
  unfold Node.fedMass
  rcases Nat.eq_zero_or_pos k with h0 | hpos
  · rw [if_neg (by omega), h0]; exact ⟨by simp, rfl⟩
  · rw [if_pos ⟨.inl hh, hs, hpos⟩]; exact ⟨rfl, rfl⟩

/-- Outside REQUESTED a FED is no answer: its mass and flow are taken (log 33). -/
theorem rclFed_takes {k : Nat} {o : FedOutcome} {n : Node} (hp : n.rcl.phase ≠ .requested)
    (h : ¬ ((n.rcl.phase = .waitingGrant ∨ n.rcl.phase = .opening) ∧ (fedTaken k n).rcl.left = 0)) :
    rclFed k o n = fedTaken k n := by
  rw [rclFed_eq]
  split
  next hx => exact absurd hx hp
  next hx => exact if_neg fun h0 => h ⟨.inl hx, h0⟩
  next hx => exact if_neg fun h0 => h ⟨.inr hx, h0⟩
  · rfl
  · rfl

/-- A remaining count of 0 ends the search for a grant (log 33). -/
theorem rclFed_ends {k : Nat} {o : FedOutcome} {n : Node}
    (hs : n.rcl.phase = .waitingGrant ∨ n.rcl.phase = .opening) (h : (fedTaken k n).rcl.left = 0) :
    rclFed k o n = rclEnd false (fedTaken k n) := by
  rw [rclFed_eq]
  rcases hs with hs | hs <;> rw [hs] <;> exact if_pos h

theorem rclFed_answers {k : Nat} {o : FedOutcome} {n : Node} (h : n.rcl.phase = .requested) :
    rclFed k o n = fedAnswer o (fedTaken k n) := by rw [rclFed_eq, h]

/-- The phase ended by what was fed and answered, through the test for SOAK. -/
theorem soakTest_rclEnd (n : Node) : (soakTest (rclEnd false n)).rcl.phase = .done ∧
    (soakTest (rclEnd false n)).rcl.wait = .stopped ∧ (soakTest (rclEnd false n)).rcl.bid = .none ∧
    (soakTest (rclEnd false n)).rcl.fed = n.rcl.fed ∧
    (soakTest (rclEnd false n)).rcl.outcome = n.rcl.outcomeByRule ∧
    (n.hsq.reservePhase = .opened → (soakTest (rclEnd false n)).hsq.reservePhase = .resolved ∧
      (soakTest (rclEnd false n)).hsq.reserveOutcome = n.rcl.outcomeByRule) := by
  obtain ⟨hp, ho⟩ := soakTest_phase (rclEnd false n)
  have hout : n.rcl.ended false = n.rcl.outcomeByRule := Rcl.finalOutcome_byRule _
  rw [soakTest_rcl, rclEnd_rcl, hp, ho]
  refine ⟨rfl, rfl, rfl, rfl, hout, fun h => ?_⟩
  rw [rclEnd_opened h]; exact ⟨rfl, hout⟩

theorem fedAnswer_waits {o : FedOutcome} {n : Node} {h : NodeId} (hh : n.cfg.holder = some h)
    (hl : n.lkc.link ≠ .lost) (hleft : 0 < n.rcl.left) (hw : n.rcl.wait ≠ .expired)
    (ho : n.hsq.reservePhase = .opened) : soakTest (fedAnswer o n) =
      if o = .lapsed ∧ n.rcl.claims = true then
        { waitsAgain o n with rcl := { (waitsAgain o n).rcl with bid := .queued, rebid := false },
                              lkc.outbox.bid := some (n.bidFor h) }
      else waitsAgain o n := by
  have he : fedAnswer o n = if o = .lapsed ∧ n.rcl.claims = true then
        { waitsAgain o n with rcl := { (waitsAgain o n).rcl with bid := .queued, rebid := false },
                              lkc.outbox.bid := some (n.bidFor h) }
      else waitsAgain o n := by
    rw [fedAnswer_goes_on hleft hw, sendBid_of_joined (n := waitsAgain o n) hh hl]; rfl
  rw [← he]
  refine soakTest_waits fun hx => ?_
  have hp : (fedAnswer o n).hsq.reservePhase = .opened := by
    rw [he]; split <;> exact ho
  have hr := (Node.soakDue_iff.1 hx).2.1.2
  rw [hp] at hr; cases hr

/-- What an answer leaves of RCL's record, in whatever phase it ends. -/
theorem fedAnswer_rcl {o : FedOutcome} {n : Node} {h : NodeId} (hh : n.cfg.holder = some h)
    (hl : n.lkc.link ≠ .lost) : (fedAnswer o n).rcl.grantHeard = 0 ∧ (fedAnswer o n).rcl.feedTimeout = none ∧
    (fedAnswer o n).rcl.fed = n.rcl.fed ∧ (fedAnswer o n).rcl.lastAnswer = lastAnswerOf o ∧
    (fedAnswer o n).rcl.flowTaken = n.rcl.flowTaken ∧ (fedAnswer o n).rcl.flowTimer = n.rcl.flowTimer := by
  by_cases he : n.rcl.left = 0 ∨ n.rcl.wait = .expired
  · rw [fedAnswer_ends he, rclEnd_rcl]; exact ⟨rfl, rfl, rfl, rfl, rfl, rfl⟩
  · rw [not_or] at he
    rw [fedAnswer_goes_on (Nat.pos_of_ne_zero he.1) he.2]
    split
    · rw [sendBid_of_joined (n := waitsAgain o n) hh hl]; exact ⟨rfl, rfl, rfl, rfl, rfl, rfl⟩
    · exact ⟨rfl, rfl, rfl, rfl, rfl, rfl⟩

/-- The outcome of a phase that an answer ends: FED once flow was shown, by it or before (R127). -/
theorem outcomeByRule_answer {k : Nat} {o : FedOutcome} {n : Node} (h : n.hsq.reservePhase = .opened) :
    (answerTaken o (fedTaken k n)).rcl.outcomeByRule = if 0 < k ∨ n.rcl.flowTaken = true then .fed
      else if o = .lapsed ∨ o = .refused then .lapsed else .yielded := by
  have hflow : (n.fedClient k).flowTaken = true ↔ 0 < k ∨ n.rcl.flowTaken = true := by
    unfold Node.fedClient
    by_cases hk : 0 < k
    · rw [if_pos ⟨hk, h⟩]; simp [hk]
    · rw [if_neg fun hx => hk hx.1]; simp [hk]
  have hout : (answerTaken o (fedTaken k n)).rcl.outcomeByRule =
      if (n.fedClient k).flowTaken = true then .fed
      else if lastAnswerOf o = .lapsed ∨ lastAnswerOf o = .refused then .lapsed else .yielded := rfl
  rw [hout]
  by_cases hf : 0 < k ∨ n.rcl.flowTaken = true
  · rw [if_pos hf, if_pos (hflow.2 hf)]
  · rw [if_neg hf, if_neg fun hx => hf (hflow.1 hx)]
    cases o <;> rfl

/-- Settles O37: `rclFed` by the feed phase, with the end of the phase and the way on apart. -/
theorem fedAnswersTheWayopen : Obligations.FedAnswersTheWayopen := by
  refine ⟨?answers, ?adds, ?foreign⟩
  case foreign =>
    intro s src g k f o hr hc hl hf hs hk hf8 hh
    refine endsAs_inRun (hear (.fed src g k f o)) rfl hr (congrArg Node.bare ?_)
    rw [hear_fed_foreign hc hl hf hs hh hk hf8, Node.heard, ← hf]
  case adds =>
    intro s h k f o hr hc hl hf hs hh hk hf8 hp n c m mass apl flows ends fed taken settled seeks
    have hhear := hear_fed (o := o) hc hl hf hs hh hk hf8
    have htaken : fedTaken k s.node.heard = taken := rfl
    have hleft : (fedTaken k s.node.heard).rcl.left = n.rcl.n - fed := by
      obtain ⟨-, hn, -, -, hfed⟩ := fedClient_phase k n.heard
      exact congrArg₂ Nat.sub hn hfed
    refine ⟨fun hset hseek => ?_, fun hseek hzero => ?_⟩
    · refine endsAs_inRun (hear (.fed h n.id k f o)) rfl hr (congrArg Node.bare ?_)
      rw [hhear, rclFed_takes (n := s.node.heard) hp (by rw [hleft]; exact hseek), htaken]
      refine soakTest_waits fun hx => hset ?_
      rw [← htaken] at hx
      have hdue := Node.soakDue_iff.1 (fedTaken_soakDue hx)
      exact ⟨hdue.1, hdue.2.1.2, hdue.2.2, hdue.2.1.1⟩
    · have he : hear (.fed h n.id k f o) n = soakTest (rclEnd false taken) := by
        rw [hhear, rclFed_ends (n := s.node.heard) hseek (by rw [hleft]; exact hzero), htaken]
      refine ⟨_, if_pos hr, ?_⟩
      obtain ⟨hph, hw, hb, hfe, hout, hopen⟩ := soakTest_rclEnd taken
      obtain ⟨hm, hres⟩ := soakTest_sums (rclEnd false taken)
      have hapl : (rclEnd false taken).apl = apl := congrArg (fun x => x.apl) (rclEnd_sansClient false taken)
      rw [finish_rcl, finish_apl, finish_hsq, he, hph, hw, hb, hfe, hout, hm, hres, hapl]
      refine ⟨rfl, ?_, rfl, rfl, rfl, rfl, rfl, fun ho => ?_⟩
      · obtain ⟨-, -, -, -, hfed⟩ := fedClient_phase k n.heard
        exact hfed
      · exact hopen ((fedHall_phase k n.heard).trans ho)
  case answers =>
    intro s h k f o hr hc hl hf hs hh hk hf8 hp hopened hd n fed running
    have he : hear (.fed h n.id k f o) n = soakTest (fedAnswer o (fedTaken k s.node.heard)) := by
      rw [hear_fed hc hl hf hs hh hk hf8, rclFed_answers (n := s.node.heard) hp]
    have hlost : (fedTaken k n.heard).lkc.link ≠ .lost := by
      change s.node.lkc.link ≠ .lost; rw [hl]; decide
    obtain ⟨hg, hto, hfe, hla, hft, hfl⟩ := fedAnswer_rcl (o := o) (n := fedTaken k n.heard) hh hlost
    obtain ⟨hcp, hcn, hcw, hcb, hcf⟩ := fedClient_phase k n.heard
    have hfed : n.heard.fedCount k = fed := by
      unfold Node.fedCount
      by_cases hk0 : 0 < k
      · rw [if_pos ⟨hk0, hopened⟩]; exact (if_pos hk0).symm
      · rw [if_neg fun hx => hk0 hx.1]; exact (if_neg hk0).symm
    refine ⟨_, if_pos hr, ?_⟩
    rw [finish_rcl, finish_apl, finish_hsq, finish_vcu, finish_bid, he, soakTest_rcl]
    obtain ⟨hm, hres⟩ := soakTest_sums (fedAnswer o (fedTaken k s.node.heard))
    have hsc := fedAnswer_sansClient o (fedTaken k s.node.heard)
    have hapl : (fedAnswer o (fedTaken k s.node.heard)).apl = n.heard.fedMass k := congrArg (fun x => x.apl) hsc
    have hleft : (fedTaken k s.node.heard).rcl.left = n.rcl.n - fed :=
      congrArg₂ Nat.sub hcn (hcf.trans hfed)
    have hphase : (fedTaken k s.node.heard).hsq.reservePhase = .opened := (fedHall_phase k n.heard).trans hopened
    refine ⟨hg, hto, hfe.trans (hcf.trans hfed), hla.trans (by cases o <;> rfl), fun hk0 => ?flow,
      fun hs => ?mass, fun hl0 hrun => ?goesOn, fun hend => ?ends⟩
    case flow =>
      have hc : n.heard.fedClient k = _ := if_pos ⟨hk0, hopened⟩
      have hh : n.heard.fedHall k = _ := if_pos ⟨hk0, hopened⟩
      rw [hft, hfl, soakTest_hsq]
      refine ⟨congrArg Rcl.flowTaken hc, congrArg Rcl.flowTimer hc, ?_, ?_⟩
      · exact (congrArg (fun x => x.hsq.elapsed) hsc).trans (congrArg Hsq.elapsed hh)
      · exact (congrArg (fun x => x.hsq.duration) hsc).trans (congrArg Hsq.duration hh)
    case mass =>
      rw [hm, hres, hapl]
      exact fedMass_sums (n := n.heard) k hd hs
    case goesOn =>
      obtain ⟨ends, hrun⟩ := hrun
      have hgo := fedAnswer_waits (o := o) (n := fedTaken k s.node.heard) hh hlost (by rw [hleft]; exact hl0)
        (by rw [show (fedTaken k s.node.heard).rcl.wait = _ from hcw.trans hrun]; simp) hphase
      have hrcl : (fedAnswer o (fedTaken k s.node.heard)).rcl =
        (soakTest (fedAnswer o (fedTaken k s.node.heard))).rcl := (soakTest_rcl _).symm
      have hclaims : (fedTaken k s.node.heard).rcl.claims = n.rcl.claims := by
        unfold Rcl.claims; rw [show (fedTaken k s.node.heard).rcl.bid = n.rcl.bid from hcb]
      rw [hrcl, hgo, hclaims]
      by_cases hx : o = .lapsed ∧ n.rcl.claims = true
      · rw [if_pos hx]
        exact ⟨rfl, hcw, rfl, hphase, fun hne => absurd hx.1 hne, fun _ _ => ⟨rfl,
          congrArg (fun j => some (⟨h, j, n.cfg.cls⟩ : BidContent)) hcn⟩⟩
      · rw [if_neg hx]
        exact ⟨rfl, hcw, rfl, hphase, fun _ => ⟨hcb, rfl⟩, fun ho hb => absurd ⟨ho, claims_iff.2 hb⟩ hx⟩
    case ends =>
      have hend' : (fedTaken k s.node.heard).rcl.left = 0 ∨ (fedTaken k s.node.heard).rcl.wait = .expired := by
        rw [hleft]; exact hend.imp id fun hx => hcw.trans hx
      obtain ⟨h1, h2, h3, -, h5, h6⟩ := soakTest_rclEnd (answerTaken o (fedTaken k s.node.heard))
      obtain ⟨h7, h8⟩ := h6 hphase
      rw [soakTest_rcl] at h1 h2 h3 h5
      rw [fedAnswer_ends hend', h1, h2, h3, h5, h7, h8]
      exact ⟨rfl, rfl, rfl, outcomeByRule_answer hopened, rfl, rfl⟩

end Sys2Proof.Machine

/-! # What the operations on channels keep

The operations of RVA and of the sequencer act on the channels through six requests to VCU (R68 to R70).
A predicate that those requests keep, and that reads the channels, the pulse queue, the output and the key
alone, is kept by every operation of the two blocks, and by the course of a release. -/

namespace Sys2Proof.Machine

/-- The same channels, pulse queue, output and inputs. -/
def sameChans (a b : Node) : Prop :=
  a.vcu.channels = b.vcu.channels ∧ a.vcu.queue = b.vcu.queue ∧ a.vcu.outputOn = b.vcu.outputOn ∧
    a.fiu = b.fiu

theorem sameChans_of_vcu {a b : Node} (h : a.vcu = b.vcu) (hf : a.fiu = b.fiu) : sameChans a b :=
  ⟨congrArg Vcu.channels h, congrArg Vcu.queue h, congrArg Vcu.outputOn h, hf⟩

theorem sameChans_of_sansClient {a b : Node} (h : a.sansClient = b.sansClient) : sameChans a b :=
  ⟨congrArg (fun m => m.vcu.channels) h, congrArg (fun m => m.vcu.queue) h,
    congrArg (fun m => m.vcu.outputOn) h, congrArg (fun m => m.fiu) h⟩

theorem sameChans_of_sansVent {a b : Node} (h : a.sansVent = b.sansVent) : sameChans a b :=
  sameChans_of_vcu (congrArg (fun m => m.vcu) h) (congrArg (fun m => m.fiu) h)

theorem sameChans_of_sansPlan {a b : Node} (h : a.sansPlan = b.sansPlan) : sameChans a b :=
  sameChans_of_vcu (congrArg (fun m => m.vcu) h) (congrArg (fun m => m.fiu) h)

/-- Each waiting WAYOPEN answered REFUSED (R112). -/
def refuseAll (ws : List (NodeId × Nat)) (n : Node) : Node :=
  ws.foldl (fun x w => addAnswer (zeroAnswer w.1 .refused) x) n

/-- The node with every committed channel returned and every grant void (R112). -/
def grantsVoided (n : Node) : Node :=
  let m := returnCommitted n
  { m with rva.bids := m.rva.bids.map (fun e =>
    { e with granted := 0, hold := none,
             taken := if m.rva.feedQueue.any (fun w => w.1 = e.node) then .no else e.taken }) }

theorem rvaIsolate_eq (n : Node) : rvaIsolate n = sendAnswer
    { refuseAll (returnCommitted n).rva.feedQueue (grantsVoided n) with rva.feedQueue := [] } := rfl

/-- `P` reads the channels, the queue, the output and the key alone, and the requests of R68 to R70 keep
it. A committed pulse is requested under a delivered NORMAL key alone (R112, R116). -/
structure ChanInv (P : Node → Prop) : Prop where
  congr : ∀ {a b : Node}, sameChans b a → P a → P b
  commit : ∀ {c g n m}, commit c g n = some m → P n → P m
  uncommit : ∀ {c n}, P n → P (uncommit c n)
  requestCommitted : ∀ {c g n m}, n.isolate = false → requestCommitted c g n = some m → P n → P m
  requestSubstitute : ∀ {c g n m}, requestSubstitute c g n = some m → P n → P m
  requestHall : ∀ {c n m}, requestHall c n = some m → P n → P m
  cancelHall : ∀ {c n m}, cancelHall c n = some m → P n → P m

namespace ChanInv

variable {P : Node → Prop} (h : ChanInv P)
include h

/-! ## The Reserve Arbiter -/

theorem of_vcu {a b : Node} (hp : P a) (hv : b.vcu = a.vcu := by rfl) (hf : b.fiu = a.fiu := by rfl) : P b :=
  h.congr (sameChans_of_vcu hv hf) hp

theorem uncommitAll {cs : List ChanId} {n : Node} (hp : P n) : P (uncommitAll cs n) := by
  induction cs generalizing n with
  | nil => exact hp
  | cons c cs ih => exact ih (h.uncommit hp)

theorem commitAll {i : NodeId} {cs : List ChanId} {k : Nat} {n : Node} (hp : P n) :
    P (commitAll i cs (k, n)).2 := by
  induction cs generalizing k n with
  | nil => exact hp
  | cons c cs ih =>
    unfold Machine.commitAll; split
    next m hm => exact ih (h.commit hm hp)
    next => exact ih hp

theorem walkList {es : List BidEntry} {n : Node} (hp : P n) : P (walkList es n).2 := by
  induction es generalizing n with
  | nil => exact hp
  | cons e es ih => exact ih (h.commitAll hp)

theorem grantWalk {n : Node} (hp : P n) : P (grantWalk n) := by
  unfold Machine.grantWalk; split
  · exact hp
  · exact h.of_vcu (h.walkList hp)

theorem addAnswer {a : Answer} {n : Node} (hp : P n) : P (addAnswer a n) := by
  unfold Machine.addAnswer; split <;> exact h.of_vcu hp

theorem sendAnswer {n : Node} (hp : P n) : P (sendAnswer n) := by
  have hq : ∀ a, P (queueFed a n) := fun a => by
    unfold queueFed; split <;> exact h.of_vcu hp
  unfold Machine.sendAnswer; repeat' split
  · exact hp
  · exact hp
  · exact hq _

theorem returnEntry {i : NodeId} {n : Node} (hp : P n) : P (returnEntry i n) :=
  h.of_vcu (h.uncommitAll hp)

theorem seekSubstitute {c : ChanId} {ds : List ChanId} {f : Feed} {n : Node} (hp : P n) :
    P (seekSubstitute c ds f n) := by
  induction ds generalizing f n with
  | nil => exact h.of_vcu hp
  | cons d ds ih =>
    unfold Machine.seekSubstitute; split
    next m hm => exact h.of_vcu (h.requestSubstitute hm hp)
    next => exact ih hp

theorem placeReport {c : ChanId} {r : PulseResult} {n : Node} (hp : P n) : P (placeReport c r n) := by
  unfold Machine.placeReport; repeat' split
  · exact hp
  · exact h.of_vcu hp
  · exact h.of_vcu hp
  · exact h.seekSubstitute hp
  · exact hp

theorem requestPlaces {g : NodeId} {cs : List ChanId} {n : Node} (hi : n.isolate = false) (hp : P n) :
    P (requestPlaces g cs n) := by
  induction cs generalizing n with
  | nil => exact hp
  | cons c cs ih =>
    unfold Machine.requestPlaces; split
    next m hm =>
      refine ih ?_ (h.requestCommitted hi hm hp)
      exact (congrArg (fun k => k.isolate) (requestCommitted_sansBank hm)).trans hi
    next =>
      refine ih ?_ (h.placeReport hp)
      exact (congrArg (fun k => k.isolate) (placeReport_sansBank c .failed n)).trans hi

theorem startFeed {e : BidEntry} {k : Nat} {n : Node} (hi : n.isolate = false) (hp : P n) :
    P (startFeed e k n) := h.requestPlaces hi (h.of_vcu hp)

theorem feedEntry {f : Feed} {n : Node} (hp : P n) : P (feedEntry f n) := by
  unfold Machine.feedEntry; repeat' split
  · exact hp
  · exact h.returnEntry hp
  · exact h.of_vcu hp

theorem endFeed {f : Feed} {n : Node} (hp : P n) : P (endFeed f n) := by
  have hm : P { n with rva.feed := none } := h.of_vcu hp
  unfold Machine.endFeed; dsimp only; split
  · exact hm
  · exact h.grantWalk (h.addAnswer (h.feedEntry hm))

theorem takeWayopen {i : NodeId} {k : Nat} {n : Node} (hi : n.isolate = false) (hp : P n) :
    P (takeWayopen i k n) := by
  unfold Machine.takeWayopen; repeat' split
  · exact h.addAnswer hp
  · exact h.addAnswer (h.of_vcu hp)
  · exact h.startFeed hi hp

theorem feedRounds {k : Nat} {n : Node} (hp : P n) : P (feedRounds k n) := by
  induction k generalizing n with
  | zero => exact hp
  | succ k ih =>
    unfold Machine.feedRounds; split
    · split
      · exact hp
      · exact ih (h.endFeed hp)
    · split
      · exact hp
      next hi =>
        split
        · exact hp
        · exact ih (h.takeWayopen (Bool.not_eq_true _ ▸ hi) (h.of_vcu hp))

theorem feedTest {n : Node} (hp : P n) : P (feedTest n) := h.sendAnswer (h.feedRounds hp)

theorem rvaUncommitted {i : NodeId} {n : Node} (hp : P n) : P (rvaUncommitted i n) :=
  h.grantWalk (h.of_vcu hp)

theorem refuseAll {ws : List (NodeId × Nat)} {n : Node} (hp : P n) : P (refuseAll ws n) := by
  induction ws generalizing n with
  | nil => exact hp
  | cons w ws ih => exact ih (h.addAnswer hp)

theorem rvaIsolate {n : Node} (hp : P n) : P (rvaIsolate n) :=
  h.sendAnswer (h.of_vcu (a := Machine.refuseAll (returnCommitted n).rva.feedQueue (grantsVoided n))
    (h.refuseAll (h.of_vcu (a := returnCommitted n) (h.uncommitAll hp))))

/-! ## The sequencer's requests -/

theorem seekOwn {ds : List ChanId} {n : Node} (hp : P n) : P (seekOwn ds n) := by
  induction ds generalizing n with
  | nil => exact hp
  | cons d ds ih =>
    unfold Machine.seekOwn; split
    next m hm => exact h.of_vcu (h.requestHall hm hp)
    next => exact ih (h.of_vcu hp)

theorem ownFailed {c : ChanId} {n : Node} (hp : P n) : P (ownFailed c n) :=
  h.seekOwn (h.of_vcu hp)

theorem requestOwn {cs : List ChanId} {n : Node} (hp : P n) : P (requestOwn cs n) := by
  induction cs generalizing n with
  | nil => exact hp
  | cons c cs ih =>
    unfold Machine.requestOwn; split
    next m hm => exact ih (h.requestHall hm hp)
    next => exact ih (h.ownFailed hp)

theorem fireOwn {cs : List ChanId} {n : Node} (hp : P n) : P (fireOwn cs n) :=
  h.requestOwn (h.of_vcu hp)

theorem cancelOwn {n : Node} (hp : P n) : P (cancelOwn n) := by
  rw [cancelOwn_eq]
  generalize n.hsq.firing = es
  induction es generalizing n with
  | nil => exact hp
  | cons e es ih =>
    refine ih ?_
    unfold cancelEntry; split
    next m hm => exact h.of_vcu (h.cancelHall hm hp)
    next => exact hp

theorem ownReport {c : ChanId} {r : PulseResult} {n : Node} (hp : P n) : P (ownReport c r n) := by
  unfold Machine.ownReport; repeat' split
  · exact h.of_vcu hp
  · exact h.of_vcu hp
  · exact hp
  · exact h.ownFailed hp
  · exact hp

theorem deliver {rs : List VReport} {n : Node} (hp : P n) : P (deliver rs n) := by
  induction rs generalizing n with
  | nil => exact hp
  | cons r rs ih =>
    cases r with
    | own c r =>
      refine ih (h.ownReport ?_)
      split
      · exact h.congr (sameChans_of_sansPlan (aplOwnConfirmed_sansPlan n)) hp
      · exact hp
    | feed c r => exact ih (h.placeReport hp)
    | uncommitted i => exact ih (h.rvaUncommitted hp)
    | ready => exact ih (h.grantWalk hp)

theorem takeReports {r : Node × List VReport} (hp : P r.1) : P (takeReports r) := by
  unfold Machine.takeReports; split
  · exact h.feedTest (h.deliver hp)
  · exact h.deliver hp

/-! ## The course of a release -/

theorem of_sansClient {a b : Node} (he : b.sansClient = a.sansClient) (hp : P a) : P b :=
  h.congr (sameChans_of_sansClient he) hp

theorem of_sansVent {a b : Node} (he : b.sansVent = a.sansVent) (hp : P a) : P b :=
  h.congr (sameChans_of_sansVent he) hp

theorem releaseWrite {x y z : Nat} {n : Node} (hp : P n) : P (releaseWrite x y z n) :=
  h.of_vcu hp (by rw [releaseWrite_eq]) (by rw [releaseWrite_eq])

theorem toDischarging {n : Node} (hp : P n) : P (toDischarging n) := h.congr (a := n) ⟨rfl, rfl, rfl, rfl⟩ hp

theorem discharged {n : Node} (hp : P n) : P ((startDuration n).setFlag .released) := h.of_vcu hp

theorem enterDischarging {n : Node} (hp : P n) : P (enterDischarging n) := by
  rw [enterDischarging_eq]
  exact h.discharged (h.of_sansClient (openReserve_sansClient _)
    (h.fireOwn (h.releaseWrite (h.toDischarging hp))))

theorem noReservePhase {n : Node} (hp : P n) : P (noReservePhase n) := h.of_vcu hp

theorem enterFallback {n : Node} (hp : P n) : P (enterFallback n) := by
  rw [enterFallback_eq]
  exact h.discharged (h.noReservePhase (h.fireOwn (h.releaseWrite (h.toDischarging hp))))

theorem takeSlot {r : Node × Bool} (hp : P r.1) : P (takeSlot r) := by
  unfold Machine.takeSlot slotHeld; repeat' split
  · exact h.enterDischarging hp
  · exact hp
  · exact hp

theorem isolatedRelease {n : Node} (hp : P n) : P (isolatedRelease n) :=
  h.of_sansVent (vsuIsolated_sansVent _) (h.enterDischarging (h.of_vcu hp))

theorem atExpiry {n : Node} (hp : P n) : P (atExpiry n) := by
  rw [atExpiry_eq]
  exact h.of_vcu (a := bidRenewed n)
    (h.of_sansClient (bidRenewed_sansClient n) (h.of_vcu hp))

theorem expire {n : Node} (hp : P n) : P (expire n) := by
  cases hn : n.normal with
  | false => rw [expire_fallback hn]; exact h.enterFallback hp
  | true =>
    by_cases hl : n.lkc.link = .lost
    · rw [expire_normal_lost hn hl]; exact h.isolatedRelease (h.atExpiry hp)
    · rw [expire_normal hn hl]; exact h.takeSlot (h.of_sansVent (vsuAsk_sansVent _) (h.atExpiry hp))

theorem enterCountdown {c : Cause} {left : Nat} {n : Node} (hp : P n) : P (enterCountdown c left n) := by
  have hb : P (countdownBegun c left n) := by
    unfold countdownBegun; dsimp only; split
    · exact h.of_sansClient (rclCountdown_sansClient _)
        (h.congr (sameChans_of_sansPlan (aplPlan_sansPlan _)) (h.of_vcu hp))
    · exact h.of_vcu hp
  have he : P (countdownEntered c left n) := by
    have hepo : P (epoTest (countdownBegun c left n)) :=
      h.of_vcu hb (by rw [epoTest_eq]) (by rw [epoTest_eq])
    unfold countdownEntered; dsimp only; split
    · unfold holdOperated; repeat' split
      all_goals exact h.of_vcu hepo
    · exact hepo
  rw [enterCountdown_eq, expireIfDone]; split
  · exact h.expire he
  · exact he

theorem reeval {n : Node} (hp : P n) : P (reeval n) := by
  unfold Machine.reeval; repeat' split
  · exact h.enterCountdown hp
  · unfold rest; dsimp only; split <;> exact h.of_vcu hp
  · exact hp

theorem enterQuiet {n : Node} (hp : P n) : P (enterQuiet n) := h.reeval (h.of_vcu hp)

theorem enterSoak {n : Node} (hp : P n) : P (enterSoak n) := by
  rw [enterSoak_eq]
  exact h.congr (a := soakMoved n) ⟨congrArg Vcu.channels (soakSettled_vcu n),
    congrArg Vcu.queue (soakSettled_vcu n), congrArg Vcu.outputOn (soakSettled_vcu n),
    congrArg (fun m => m.fiu) (soakSettled_sansCourse n)⟩ (h.congr (a := n) ⟨rfl, rfl, rfl, rfl⟩ hp)

end ChanInv

end Sys2Proof.Machine

/-! # The key turned back to NORMAL -/

namespace Sys2Proof.Machine

/-! ## The key's record -/

/-- The key's record after the sample that delivers another position. -/
def KeyRec.moved (now : Time) (normalMade isolateMade : Bool) (r : KeyRec) : KeyRec :=
  let cls := keyClass normalMade isolateMade
  let runs := faultRuns now (decide (cls = .fault)) r.faultRun r.recRun r.fault
  { cls := some cls, changeRun := none, faultRun := runs.1, recRun := runs.2.1,
    delivered := cls.counted, fault := runs.2.2, sampleAt := now + Config.fieldPeriod }

theorem KeyRec.sample_moves {now since : Time} {a b : Bool} {r : KeyRec} (hrun : r.changeRun = some since)
    (hlen : since + 100 ≤ now) (hd : (keyClass a b).counted ≠ r.delivered) :
    r.sample now false a b = (r.moved now a b, true) := by
  have hstep := changeStep_delivers hrun hlen
  unfold KeyRec.sample KeyRec.moved; dsimp only
  rw [decide_eq_true hd, show Config.keyChangeTime = 100 from rfl, hstep]; rfl

/-- The node once the key's record of that sample is taken. -/
def keyTaken (a b : Bool) (n : Node) : Node := { n with fiu.key := n.fiu.key.moved n.now a b }

theorem keyEvent_moves {n : Node} {since : Time} {a b : Bool} (hrun : n.fiu.key.changeRun = some since)
    (hlen : since + 100 ≤ n.now) (hd : (keyClass a b).counted ≠ n.fiu.key.delivered) :
    keyEvent false a b n = match (keyClass a b).counted with
      | .isolate => keyIsolate (keyTaken a b n)
      | .normal => keyNormal (keyTaken a b n) := by
  unfold keyEvent; rw [KeyRec.sample_moves hrun hlen hd]; rfl

/-! ## The channels back in service -/

/-- The key is delivered NORMAL, and no channel of role HALL or RESERVE is ISOLATED (R67). -/
def Node.inService (n : Node) : Prop :=
  n.isolate = false ∧ ∀ c, (n.chan c).state = .isolated → (n.chan c).role = .unused

theorem Node.inService_setChan {n : Node} (h : n.inService) (c : ChanId) {r : Channel}
    (hr : r.state = .isolated → r.role = .unused) : (n.setChan c r).inService := by
  refine ⟨h.1, fun d => ?_⟩
  by_cases hd : d = c
  · rw [hd, Node.chan_setChan_same]; exact hr
  · rw [Node.chan_setChan_other n c d r hd]; exact h.2 d

theorem Node.inService_congr {a b : Node} (he : sameChans b a) (h : a.inService) : b.inService := by
  obtain ⟨hc, -, -, hf⟩ := he
  unfold Node.inService Node.chan Node.isolate at h ⊢
  rw [hc, hf]; exact h

theorem Node.inService_enqueue {n : Node} {c : ChanId} {r : Channel} (h : n.inService) :
    (enqueue c r n).inService :=
  ⟨h.1, (Node.inService_setChan h c (r := { r with state := .queued }) (by simp)).2⟩

theorem chanInv_inService : ChanInv Node.inService where
  congr := Node.inService_congr
  commit := by
    intro c g n m hm h
    revert hm; unfold Machine.commit; dsimp only; split <;> rintro ⟨⟩
    exact Node.inService_setChan h c (by simp)
  uncommit := by
    intro c n h
    unfold Machine.uncommit; dsimp only; split
    · exact Node.inService_setChan h c (by simp [Node.restState, h.1])
    · exact h
  requestCommitted := by
    intro c g n m _ hm h
    revert hm; unfold Machine.requestCommitted; dsimp only; split <;> rintro ⟨⟩
    exact Node.inService_enqueue h
  requestSubstitute := by
    intro c g n m hm h
    revert hm; unfold Machine.requestSubstitute; dsimp only; split <;> rintro ⟨⟩
    exact Node.inService_enqueue h
  requestHall := by
    intro c n m hm h
    revert hm; unfold Machine.requestHall; dsimp only; split <;> rintro ⟨⟩
    exact Node.inService_enqueue h
  cancelHall := by
    intro c n m hm h
    revert hm; unfold Machine.cancelHall; dsimp only; split <;> rintro ⟨⟩
    refine ⟨h.1, (Node.inService_setChan h c (r := (n.chan c).leave n.restState) ?_).2⟩
    simp [Channel.leave, Node.restState, h.1]

theorem vcuNormal_inService {n : Node} (h : n.isolate = false) : (vcuNormal n).1.inService := by
  refine ⟨h, fun c => ?_⟩
  unfold vcuNormal Node.chan; dsimp only
  rw [mapVec_get]
  split
  · intro hx; cases hx
  next hb =>
    intro hx
    simpa [hx] using hb

/-! ## The whole event -/

/-- The node of a key turned to NORMAL with its alarm runs ended (R41). -/
def alarmsEnded (n : Node) : Node :=
  { n with fiu.zoneA := n.fiu.zoneA.endAlarm, fiu.zoneB := n.fiu.zoneB.endAlarm }

/-- The node of a key turned to NORMAL after VCU's and RVA's parts. -/
def bankOpened (n : Node) : Node := feedTest (takeReports (vcuNormal (alarmsEnded n)))

theorem keyNormal_eq (n : Node) : keyNormal n = hsqNormal (bankOpened n) := rfl

theorem vcuNormal_reports (n : Node) : takeReports (vcuNormal n) = (vcuNormal n).1 ∨
    takeReports (vcuNormal n) = grantWalk (vcuNormal n).1 := by
  have hr : (vcuNormal n).2 = [.ready] ∨ (vcuNormal n).2 = [] := by
    unfold vcuNormal; dsimp only; split
    · exact .inl rfl
    · exact .inr rfl
  unfold takeReports
  rcases hr with hr | hr <;> rw [hr]
  · exact .inr rfl
  · exact .inl rfl

theorem vcuNormal_sansBank (n : Node) : (vcuNormal n).1.sansBank = n.sansBank := rfl

theorem bankOpened_sansBank (n : Node) : (bankOpened n).sansBank = (alarmsEnded n).sansBank := by
  rw [bankOpened, feedTest_sansBank]
  rcases vcuNormal_reports (alarmsEnded n) with he | he
  · rw [he, vcuNormal_sansBank]
  · rw [he, grantWalk_sansBank, vcuNormal_sansBank]

theorem bankOpened_inService {n : Node} (h : n.isolate = false) : (bankOpened n).inService :=
  chanInv_inService.feedTest (chanInv_inService.takeReports (vcuNormal_inService h))

/-- The node in QUIET on its way out of LOCKOUT (R24). -/
def lockoutLeft (n : Node) : Node :=
  { n with hsq.hall := .quiet, hsq.manualOverride := false, hsq.epoReached := false }

theorem enterQuiet_eq (n : Node) : enterQuiet n = reeval (lockoutLeft n) := rfl

theorem enterQuiet_fiu (n : Node) : (enterQuiet n).fiu = n.fiu :=
  congrArg (fun m => m.fiu) (reeval_sansConfirm (lockoutLeft n))

theorem hsqNormal_fiu (n : Node) : (hsqNormal n).fiu = n.fiu := by
  unfold hsqNormal; split
  · exact enterQuiet_fiu n
  · rfl

/-- Out of LOCKOUT without a confirmation the hall rests by its causes. -/
theorem enterQuiet_rests {n : Node}
    (h : n.hsq.latchedA = false ∨ n.hsq.latchedB = false ∨ n.hsq.mode = .fallback) :
    (enterQuiet n).hsq.manualOverride = false ∧ (enterQuiet n).hsq.hall =
      if n.hsq.latchedA = true ∨ n.hsq.latchedB = true ∨ n.hsq.adjacent = true then .alert else .quiet := by
  have hc : ¬ crossZone (lockoutLeft n).hsq := by
    rintro ⟨-, hm, ha, hb⟩
    rcases h with h | h | h
    · exact absurd (h.symm.trans ha) (by simp)
    · exact absurd (h.symm.trans hb) (by simp)
    · exact absurd (h.symm.trans hm) (by simp)
  rw [enterQuiet_eq, reeval_of_rest (.inl rfl) hc]
  by_cases hx : (lockoutLeft n).hsq.caused
  · rw [rest_caused hx]; exact ⟨rfl, (if_pos hx).symm⟩
  · rw [rest_uncaused hx]; exact ⟨rfl, (if_neg hx).symm⟩

/-- Out of LOCKOUT with both zones latched a full countdown begins. -/
theorem enterQuiet_confirms {n : Node} (ha : n.hsq.latchedA = true) (hb : n.hsq.latchedB = true)
    (hm : n.hsq.mode = .normal) : enterQuiet n =
      enterCountdown .crossZone (1000 * n.cfg.countdown) (lockoutLeft n) := by
  rw [enterQuiet_eq, reeval_of_crossZone (n := lockoutLeft n) ⟨.inl rfl, hm, ha, hb⟩]; rfl

theorem enterQuiet_override (n : Node) : (enterQuiet n).hsq.manualOverride = false := by
  by_cases h : n.hsq.latchedA = true ∧ n.hsq.latchedB = true ∧ n.hsq.mode = .normal
  · rw [enterQuiet_confirms h.1 h.2.1 h.2.2]
    exact congrArg (fun m => m.hsq.manualOverride) (enterCountdown_sansCourse _ _ _)
  · refine (enterQuiet_rests ?_).1
    by_contra hx
    rw [not_or, not_or] at hx
    refine h ⟨by simpa using hx.1, by simpa using hx.2.1, ?_⟩
    cases hm : n.hsq.mode with
    | normal => rfl
    | fallback => exact absurd hm hx.2.2

/-- Settles O11: VCU's and RVA's parts leave the sequencer, and QUIET is entered by the causes. -/
theorem keyToNormalLeavesLockout : Obligations.KeyToNormalLeavesLockout := by
  intro s since hr hd hrun hlen
  have he : keyEvent false true false s.node = keyNormal (keyTaken true false s.node) :=
    keyEvent_moves hrun hlen (by rw [hd]; decide)
  have hbank := bankOpened_sansBank (keyTaken true false s.node)
  have hserv := bankOpened_inService (n := keyTaken true false s.node) rfl
  refine ⟨_, if_pos hr, ?_⟩
  rw [he, keyNormal_eq, finish_fiu, finish_hsq, hsqNormal_fiu]
  have hfiu : (bankOpened (keyTaken true false s.node)).fiu = (alarmsEnded (keyTaken true false s.node)).fiu :=
    congrArg (fun m => m.fiu) hbank
  have hhsq : (bankOpened (keyTaken true false s.node)).hsq = s.node.hsq := congrArg (fun m => m.hsq) hbank
  have hcfg : (bankOpened (keyTaken true false s.node)).cfg = s.node.cfg := congrArg (fun m => m.cfg) hbank
  have hhold : (bankOpened (keyTaken true false s.node)).fiu.hold = s.node.fiu.hold := by rw [hfiu]; rfl
  clear hbank he
  generalize bankOpened (keyTaken true false s.node) = m at *
  refine ⟨by rw [hfiu]; rfl, by rw [hfiu]; rfl, by rw [hfiu]; rfl, fun c => ?_, fun hh => ?_, fun hh => ?_⟩
  · rw [Node.chan, finish_vcu]
    refine (?_ : (hsqNormal m).inService).2 c
    unfold hsqNormal; split
    · exact chanInv_inService.enterQuiet hserv
    · exact hserv
  · have hk : hsqNormal m = m := if_neg (by rw [hhsq]; exact hh)
    rw [hk, hhsq]
  · have hq : hsqNormal m = enterQuiet m := if_pos (by rw [hhsq]; exact hh)
    rw [hq, ← hhsq, ← hcfg]
    refine ⟨enterQuiet_override m, fun hx => (enterQuiet_rests hx).2, fun ha hb hm hpos => ?_⟩
    have ht := enterCountdown_enteredAs (c := .crossZone) (n := lockoutLeft m)
      (left := 1000 * m.cfg.countdown) (by omega)
    rw [← enterQuiet_confirms ha hb hm] at ht
    refine ⟨?_, ?_, ht.cause⟩
    · rw [ht.hall_of_clear rfl (by decide), ← hhold]; rfl
    · exact (ht.finish s.node).remaining

end Sys2Proof.Machine

/-! # The key turned to ISOLATE: the channels and the sequencer -/

namespace Sys2Proof.Machine

/-! ## What the delivery of reports may write -/

/-- The node with blanks where a delivered report may write: RVA's and the sequencer's requests, the
discharge duration and the plan. -/
def Node.sansReports (n : Node) : Node :=
  { n with vcu.channels := .replicate 12 (.start 0), vcu.queue := [], rva := .start, lkc.outbox.fed := none,
           hsq.firing := [], hsq.duration := none, hsq.elapsed := false, apl := .start, svp.flags := 0 }

theorem sansReports_of_sansBank {a b : Node} (h : a.sansBank = b.sansBank) :
    a.sansReports = b.sansReports := by
  change a.sansBank.sansReports = b.sansBank.sansReports; rw [h]

theorem sansReports_of_sansFire {a b : Node} (h : a.sansFire = b.sansFire) :
    a.sansReports = b.sansReports := by
  change a.sansFire.sansReports = b.sansFire.sansReports; rw [h]

theorem sansReports_of_sansPlan {a b : Node} (h : a.sansPlan = b.sansPlan) :
    a.sansReports = b.sansReports := by
  change a.sansPlan.sansReports = b.sansPlan.sansReports; rw [h]

theorem ownReport_sansReports (c : ChanId) (r : PulseResult) (n : Node) :
    (ownReport c r n).sansReports = n.sansReports := by
  unfold ownReport; repeat' split
  · rfl
  · rfl
  · rfl
  · exact sansReports_of_sansFire (ownFailed_sansFire c n)
  · rfl

theorem deliver_sansReports (rs : List VReport) (n : Node) : (deliver rs n).sansReports = n.sansReports := by
  induction rs generalizing n with
  | nil => rfl
  | cons r rs ih =>
    cases r with
    | own c r =>
      refine (ih _).trans ((ownReport_sansReports _ _ _).trans ?_)
      split
      · exact sansReports_of_sansPlan (aplOwnConfirmed_sansPlan n)
      · rfl
    | feed c r => exact (ih _).trans (sansReports_of_sansBank (placeReport_sansBank c r n))
    | uncommitted i => exact (ih _).trans (sansReports_of_sansBank (rvaUncommitted_sansBank i n))
    | ready => exact (ih _).trans (sansReports_of_sansBank (grantWalk_sansBank n))

theorem takeReports_sansReports (r : Node × List VReport) :
    (takeReports r).sansReports = r.1.sansReports := by
  unfold takeReports; split
  · rw [sansReports_of_sansBank (feedTest_sansBank _), deliver_sansReports]
  · exact deliver_sansReports _ _

/-! ## The channels sealed -/

/-- The key is delivered ISOLATE, no output is on, no pulse waits and no channel is READY (R67). -/
def Node.sealedUp (n : Node) : Prop :=
  n.isolate = true ∧ n.vcu.outputOn = none ∧ n.vcu.queue = [] ∧ ∀ c, (n.chan c).state ≠ .ready

theorem Node.sealedUp_congr {a b : Node} (he : sameChans b a) (h : a.sealedUp) : b.sealedUp := by
  obtain ⟨hc, hq, ho, hf⟩ := he
  unfold Node.sealedUp Node.chan Node.isolate at h ⊢
  rw [hc, hq, ho, hf]; exact h

theorem Node.sealedUp_setChan {n : Node} (h : n.sealedUp) (c : ChanId) {r : Channel} (hr : r.state ≠ .ready) :
    (n.setChan c r).sealedUp := by
  obtain ⟨hk, ho, hq, hc⟩ := h
  refine ⟨hk, ho, hq, fun d => ?_⟩
  by_cases hd : d = c
  · rw [hd, Node.chan_setChan_same]; exact hr
  · rw [Node.chan_setChan_other n c d r hd]; exact hc d

/-- No channel is COMMITTED. -/
def Node.uncommitted (n : Node) : Prop := ∀ c, (n.chan c).state ≠ .committed

theorem Node.uncommitted_setChan {n : Node} (h : n.uncommitted) (c : ChanId) {r : Channel}
    (hr : r.state ≠ .committed) : (n.setChan c r).uncommitted := by
  intro d
  by_cases hd : d = c
  · rw [hd, Node.chan_setChan_same]; exact hr
  · rw [Node.chan_setChan_other n c d r hd]; exact h d

theorem Node.restState_isolated {n : Node} (h : n.isolate = true) : n.restState = .isolated := if_pos h

section
variable {c : ChanId} {g : NodeId} {n m : Node}

/-- On a sealed node VCU refuses every pulse and every commitment. -/
theorem commit_sealed (h : n.sealedUp) : commit c g n ≠ some m := by
  unfold commit; dsimp only; rw [if_neg fun hx => h.2.2.2 c hx.2]; exact nofun

theorem requestSubstitute_sealed (h : n.sealedUp) : requestSubstitute c g n ≠ some m := by
  unfold requestSubstitute; dsimp only; rw [if_neg fun hx => h.2.2.2 c hx.2]; exact nofun

theorem requestHall_sealed (h : n.sealedUp) : requestHall c n ≠ some m := by
  unfold requestHall; dsimp only; rw [if_neg fun hx => h.2.2.2 c hx.2.1]; exact nofun

theorem cancelHall_sealed (h : n.sealedUp) (hm : cancelHall c n = some m) : m.sealedUp := by
  revert hm; unfold cancelHall; dsimp only; split <;> rintro ⟨⟩
  obtain ⟨hk, ho, hq, hc⟩ := Node.sealedUp_setChan h c (r := (n.chan c).leave n.restState)
    (by rw [Node.restState_isolated h.1]; simp [Channel.leave])
  exact ⟨hk, ho, by rw [dequeue]; dsimp only; rw [hq]; rfl, hc⟩

theorem uncommit_sealed (h : n.sealedUp) : (uncommit c n).sealedUp := by
  unfold uncommit; dsimp only; split
  · exact Node.sealedUp_setChan h c (by rw [Node.restState_isolated h.1]; simp)
  · exact h

end

theorem chanInv_sealedUp : ChanInv Node.sealedUp where
  congr := Node.sealedUp_congr
  commit hm h := absurd hm (commit_sealed h)
  uncommit := uncommit_sealed
  requestCommitted hi _ h := by rw [h.1] at hi; cases hi
  requestSubstitute hm h := absurd hm (requestSubstitute_sealed h)
  requestHall hm h := absurd hm (requestHall_sealed h)
  cancelHall hm h := cancelHall_sealed h hm

/-- A sealed node without a COMMITTED channel. -/
def Node.voided (n : Node) : Prop := n.sealedUp ∧ n.uncommitted

theorem chanInv_voided : ChanInv Node.voided where
  congr he h := ⟨Node.sealedUp_congr he h.1, fun c => by
    unfold Node.chan; rw [he.1]; exact h.2 c⟩
  commit hm h := absurd hm (commit_sealed h.1)
  uncommit {c n} h := by
    refine ⟨uncommit_sealed h.1, ?_⟩
    unfold uncommit; dsimp only; rw [if_neg (h.2 c)]; exact h.2
  requestCommitted hi _ h := by rw [h.1.1] at hi; cases hi
  requestSubstitute hm h := absurd hm (requestSubstitute_sealed h.1)
  requestHall hm h := absurd hm (requestHall_sealed h.1)
  cancelHall {c n m} hm h := by
    refine ⟨cancelHall_sealed h.1 hm, ?_⟩
    revert hm; unfold cancelHall; dsimp only; split <;> rintro ⟨⟩
    exact Node.uncommitted_setChan h.2 c (by rw [Node.restState_isolated h.1.1]; simp [Channel.leave])

/-- The roles of the channels are as given. -/
def Node.rolesAre (roles : ChanId → Role) (n : Node) : Prop := ∀ c, (n.chan c).role = roles c

theorem Node.rolesAre_setChan {roles : ChanId → Role} {n : Node} (h : n.rolesAre roles) (c : ChanId)
    {r : Channel} (hr : r.role = (n.chan c).role) : (n.setChan c r).rolesAre roles := by
  intro d
  by_cases hd : d = c
  · rw [hd, Node.chan_setChan_same, hr]; exact h c
  · rw [Node.chan_setChan_other n c d r hd]; exact h d

theorem chanInv_rolesAre (roles : ChanId → Role) : ChanInv (Node.rolesAre roles) where
  congr he h := fun c => by unfold Node.chan; rw [he.1]; exact h c
  commit {c g n m} hm h := by
    revert hm; unfold Machine.commit; dsimp only; split <;> rintro ⟨⟩
    exact Node.rolesAre_setChan h c rfl
  uncommit {c n} h := by
    unfold Machine.uncommit; dsimp only; split
    · exact Node.rolesAre_setChan h c rfl
    · exact h
  requestCommitted {c g n m} _ hm h := by
    revert hm; unfold Machine.requestCommitted; dsimp only; split <;> rintro ⟨⟩
    exact Node.rolesAre_setChan h c rfl
  requestSubstitute {c g n m} hm h := by
    revert hm; unfold Machine.requestSubstitute; dsimp only; split <;> rintro ⟨⟩
    exact Node.rolesAre_setChan h c rfl
  requestHall {c n m} hm h := by
    revert hm; unfold Machine.requestHall; dsimp only; split <;> rintro ⟨⟩
    exact Node.rolesAre_setChan h c rfl
  cancelHall {c n m} hm h := by
    revert hm; unfold Machine.cancelHall; dsimp only; split <;> rintro ⟨⟩
    exact Node.rolesAre_setChan h c rfl

theorem hasReserve_of_roles {a b : Node} (h : a.rolesAre fun c => (b.chan c).role) :
    a.hasReserve = b.hasReserve := by
  unfold Node.hasReserve Vcu.anyChan
  exact congrArg (List.any allChans) (funext fun c =>
    congrArg (fun r => decide (r = Role.reserve)) (h c))

/-! ## VCU's part -/

theorem resolveFiring_fiu (c : ChanId) (n : Node) : (resolveFiring c n).1.fiu = n.fiu :=
  congrArg (fun m => m.fiu) (resolveFiring_sansValve c n)

theorem resolveFiring_rest (c : ChanId) (n : Node) : (resolveFiring c n).1.vcu.outputOn = n.vcu.outputOn ∧
    (resolveFiring c n).1.vcu.queue = n.vcu.queue ∧
    (∀ d, d ≠ c → (resolveFiring c n).1.chan d = n.chan d) ∧
    ((resolveFiring c n).1.chan c).role = (n.chan c).role := by
  unfold resolveFiring; dsimp only; repeat' split
  · exact ⟨rfl, rfl, fun _ _ => rfl, rfl⟩
  · exact ⟨rfl, rfl, fun d hd => Node.chan_setChan_other n c d _ hd, by rw [Node.chan_setChan_same]; rfl⟩
  · exact ⟨rfl, rfl, fun d hd => Node.chan_setChan_other n c d _ hd, by rw [Node.chan_setChan_same]; rfl⟩
  · exact ⟨rfl, rfl, fun d hd => Node.chan_setChan_other n c d _ hd,
      (congrArg Channel.role (Node.chan_setChan_same n c _)).trans rfl⟩
  · exact ⟨rfl, rfl, fun _ _ => rfl, rfl⟩

/-- A pulse resolved is reported once, to its requester, and not as cancelled. -/
theorem resolveFiring_reports {c : ChanId} {n : Node} {r : VReport} (h : r ∈ (resolveFiring c n).2) :
    (n.chan c).state = .firing ∧ ∃ q, r = .own c q ∨ r = .feed c q := by
  have hpulse : ∀ q, r ∈ pulseReport c (n.chan c).requester q → ∃ q, r = .own c q ∨ r = .feed c q :=
    fun q hr => by
      unfold pulseReport at hr; split at hr
      · simp at hr
      · exact ⟨q, .inl (by simpa using hr)⟩
      · exact ⟨q, .inr (by simpa using hr)⟩
  unfold resolveFiring at h; dsimp only at h
  by_cases hf : (n.chan c).state = .firing
  · refine ⟨hf, ?_⟩
    rw [if_neg (fun hx => hx hf)] at h
    repeat' split at h
    · exact hpulse _ h
    · exact hpulse _ h
    · exact hpulse _ h
    · simp at h
  · rw [if_pos hf] at h; simp at h

/-- The output commanded off: the read of its current alone may change in its channel. -/
theorem outputOff_chan (n : Node) (d : ChanId) :
    ∃ x, (outputOff n).chan d = { n.chan d with currentSince := x } := by
  unfold outputOff; split
  · exact ⟨_, rfl⟩
  next c hc =>
    by_cases hd : d = c
    · subst hd
      refine ⟨if (n.chan d).selfDriven then (n.chan d).currentSince else none, ?_⟩
      refine (Node.chan_setChan_same _ d _).trans ?_
      change (if (n.chan d).selfDriven then n.chan d else _) = _
      split <;> rfl
    · exact ⟨(n.chan d).currentSince, Node.chan_setChan_other _ c d _ hd⟩

theorem outputOff_rest (n : Node) : (outputOff n).vcu.outputOn = none ∧
    (outputOff n).vcu.queue = n.vcu.queue ∧ (outputOff n).fiu = n.fiu := by
  unfold outputOff; split
  next h => exact ⟨h, rfl, rfl⟩
  next => exact ⟨rfl, rfl, rfl⟩

/-- What the end of the running pulse leaves: no output on, the queue, and every channel but the firing
one. -/
theorem endPulse_rest (n : Node) : (endPulse n).1.vcu.outputOn = none ∧
    (endPulse n).1.vcu.queue = n.vcu.queue ∧ (endPulse n).1.fiu = n.fiu ∧
    (∀ d, ((endPulse n).1.chan d).role = (n.chan d).role) ∧
    (∀ d, (n.chan d).state = .queued → ((endPulse n).1.chan d).requester = (n.chan d).requester) ∧
    (∀ r ∈ (endPulse n).2, ∃ c q, (n.chan c).state = .firing ∧ (r = .own c q ∨ r = .feed c q)) := by
  unfold endPulse; split
  next h => exact ⟨h, rfl, rfl, fun _ => rfl, fun _ _ => rfl, by simp⟩
  next c _ =>
    obtain ⟨ho, hq, hf⟩ := outputOff_rest n
    obtain ⟨hro, hrq, hother, hrole⟩ := resolveFiring_rest c (outputOff n)
    refine ⟨hro.trans ho, hrq.trans hq, (resolveFiring_fiu _ _).trans hf, fun d => ?_, fun d hd => ?_, fun r hr => ?_⟩
    · obtain ⟨x, hx⟩ := outputOff_chan n d
      by_cases hdc : d = c
      · subst hdc; rw [hrole, hx]
      · rw [hother d hdc, hx]
    · obtain ⟨x, hx⟩ := outputOff_chan n d
      by_cases hdc : d = c
      · subst hdc
        have hnf : (resolveFiring d (outputOff n)).1 = outputOff n := by
          unfold resolveFiring; dsimp only
          rw [if_pos (by rw [hx]; simp [hd])]
        rw [hnf, hx]
      · rw [hother d hdc, hx]
    · obtain ⟨hfire, q, hq⟩ := resolveFiring_reports hr
      obtain ⟨x, hx⟩ := outputOff_chan n c
      rw [hx] at hfire
      exact ⟨c, q, hfire, hq⟩

/-- A channel's record at the change to ISOLATE (R67). -/
def Channel.sealedOff (r : Channel) : Channel :=
  if r.state = .queued then r.leave .isolated
  else if r.state = .ready then { r with state := .isolated } else r

theorem Channel.sealedOff_state (r : Channel) : r.sealedOff.state ≠ .ready := by
  unfold Channel.sealedOff; split
  · simp [Channel.leave]
  · split
    · simp
    next h => exact h

theorem Channel.sealedOff_role (r : Channel) : r.sealedOff.role = r.role := by
  unfold Channel.sealedOff; repeat' split
  all_goals rfl

/-- The cancelled reports of the change to ISOLATE (R67). -/
def cancelledReports (n : Node) : List VReport :=
  n.vcu.queue.flatMap (fun c => pulseReport c (n.chan c).requester .cancelled)

/-- The node of the change to ISOLATE before the selector is closed. -/
def channelsSealed (n : Node) : Node :=
  { (endPulse n).1 with vcu.channels := mapVec Channel.sealedOff (endPulse n).1.vcu.channels, vcu.queue := [] }

theorem vcuIsolate_eq (n : Node) : vcuIsolate n =
    (selClose (channelsSealed n), (endPulse n).2 ++ cancelledReports (endPulse n).1) := rfl

theorem channelsSealed_chan (n : Node) (c : ChanId) :
    (channelsSealed n).chan c = ((endPulse n).1.chan c).sealedOff := by
  unfold channelsSealed Node.chan; dsimp only; rw [mapVec_get]

theorem selClose_sameChans (n : Node) : sameChans (selClose n) n :=
  sameChans_of_sansClient (selClose_sansClient n)

theorem vcuIsolate_sealedUp {n : Node} (h : n.isolate = true) : (vcuIsolate n).1.sealedUp := by
  obtain ⟨ho, -, hf, -⟩ := endPulse_rest n
  rw [vcuIsolate_eq]
  refine Node.sealedUp_congr (selClose_sameChans _) ⟨?_, ho, rfl, fun c => ?_⟩
  · unfold Node.isolate channelsSealed; dsimp only; rw [hf]; exact h
  · rw [channelsSealed_chan]; exact Channel.sealedOff_state _

theorem vcuIsolate_roles (n : Node) : (vcuIsolate n).1.rolesAre fun c => (n.chan c).role := by
  obtain ⟨-, -, -, hr, -⟩ := endPulse_rest n
  refine (chanInv_rolesAre _).congr (a := channelsSealed n) (selClose_sameChans _) fun c => ?_
  rw [channelsSealed_chan, Channel.sealedOff_role, hr]

/-- The selector neither opens nor is open. -/
def Node.selectorShut (n : Node) : Prop := n.vcu.selector.state ≠ .opening ∧ n.vcu.selector.state ≠ .opened

theorem selClose_shut (n : Node) : (selClose n).selectorShut := by
  unfold selClose Node.selectorShut
  cases h : n.vcu.selector.state <;> simp [selTravel, h]

end Sys2Proof.Machine

/-! # The key turned to ISOLATE: the sequencer's part -/

namespace Sys2Proof.Machine

/-! ## The reserve given up -/

/-- The node with RCL's timers stopped and its bid gone (R129). -/
def rclStopped (n : Node) : Node :=
  { n with rcl := { n.rcl with wait := .stopped, feedTimeout := none, flowTimer := none,
                               closePending := false, bid := .none, rebid := false } }

/-- The node of a giving up before an open phase is resolved (R129). -/
def bidGivenUp (n : Node) : Node :=
  selClose (if n.rcl.claims then sendYield (rclStopped n) else rclStopped n)

theorem rclGiveUp_eq (n : Node) : rclGiveUp n =
    if n.hsq.hall = .discharging then rclResolve n.rcl.finalOutcome (bidGivenUp n) else bidGivenUp n := rfl

theorem bidGivenUp_eq (n : Node) : bidGivenUp n = { rclStopped n with
    vcu.selector := (bidGivenUp n).vcu.selector, lkc.outbox.bid := (bidGivenUp n).lkc.outbox.bid,
    lkc.outbox.yieldTo := (bidGivenUp n).lkc.outbox.yieldTo } := by
  unfold bidGivenUp; rw [selClose_eq]
  split
  · rw [sendYield_eq]
  · rfl

theorem rclResolve_lkc (o : ReserveOutcome) (n : Node) : (rclResolve o n).lkc = n.lkc := by
  unfold rclResolve; dsimp only; split <;> rfl

theorem rclResolve_vcu (o : ReserveOutcome) (n : Node) : (rclResolve o n).vcu = n.vcu := by
  unfold rclResolve; dsimp only; split <;> rfl

/-- RCL holds no bid, and none of its timers runs (R129). -/
def Rcl.gaveUp (r : Rcl) : Prop :=
  r.bid = .none ∧ r.wait = .stopped ∧ r.feedTimeout = none ∧ r.flowTimer = none ∧ r.closePending = false

theorem rclGiveUp_gaveUp (n : Node) : (rclGiveUp n).rcl.gaveUp := by
  have hb : (bidGivenUp n).rcl = (rclStopped n).rcl := by rw [bidGivenUp_eq]
  rw [rclGiveUp_eq]; split
  · rw [rclResolve_rcl, hb]; exact ⟨rfl, rfl, rfl, rfl, rfl⟩
  · rw [hb]; exact ⟨rfl, rfl, rfl, rfl, rfl⟩

theorem rclGiveUp_shut (n : Node) : (rclGiveUp n).selectorShut := by
  have hb : (bidGivenUp n).selectorShut := selClose_shut _
  rw [rclGiveUp_eq]; split
  · unfold Node.selectorShut; rw [rclResolve_vcu]; exact hb
  · exact hb

/-- What a YIELD is judged by: the configuration, the link, the frame in flight and the two waiting
frames. -/
def Node.yieldPart (n : Node) : Cfg × LinkState × Option Frame × Option BidContent × Option NodeId :=
  (n.cfg, n.lkc.link, n.lkc.inFlight, n.lkc.outbox.bid, n.lkc.outbox.yieldTo)

theorem yieldHanded_congr {n m t u : Node} (h : yieldHanded n t) (hn : m.yieldPart = n.yieldPart)
    (hb : u.lkc.outbox.bid = t.lkc.outbox.bid) (hy : u.lkc.outbox.yieldTo = t.lkc.outbox.yieldTo) :
    yieldHanded m u := by
  simp only [Node.yieldPart, Prod.mk.injEq] at hn
  obtain ⟨hc, hl, hf, hb', hy'⟩ := hn
  unfold yieldHanded at h ⊢
  rw [hc, hl, hf, hb', hy', hb, hy]; exact h

/-- A bid placed or on its way is given up with a YIELD (R129). -/
theorem rclGiveUp_yields {n : Node} (h : n.rcl.claims = true) : yieldHanded n (rclGiveUp n) := by
  have hb : (bidGivenUp n).lkc = (sendYield (rclStopped n)).lkc := by
    unfold bidGivenUp; rw [if_pos h, selClose_eq]
  have hl : (rclGiveUp n).lkc = (sendYield (rclStopped n)).lkc := by
    rw [rclGiveUp_eq]; split
    · rw [rclResolve_lkc, hb]
    · exact hb
  exact yieldHanded_congr (sendYield_handed (rclStopped n)) rfl (by rw [hl]) (by rw [hl])

/-- In DISCHARGING an open phase is resolved with what was fed and answered (R129). -/
theorem rclGiveUp_resolves {n : Node} (hd : n.hsq.hall = .discharging) (ho : n.hsq.reservePhase = .opened) :
    (rclGiveUp n).rcl.phase = .done ∧ (rclGiveUp n).hsq.reservePhase = .resolved ∧
      (rclGiveUp n).hsq.reserveOutcome = n.rcl.outcomeByRule := by
  have hh : (bidGivenUp n).hsq = n.hsq := by rw [bidGivenUp_eq]; rfl
  rw [rclGiveUp_eq, if_pos hd, rclResolve_rcl, rclResolve_opened (by rw [hh]; exact ho),
    Rcl.finalOutcome_byRule]
  exact ⟨rfl, rfl, rfl⟩

/-! ## The withdrawal of the slot -/

/-- What a withdrawal is judged by. -/
def Node.ventPart (n : Node) : Vsu × LinkState × Option Frame × Option Nat × Option Nat × Cfg :=
  (n.vsu, n.lkc.link, n.lkc.inFlight, n.lkc.outbox.vent, n.lkc.outbox.ventfree, n.cfg)

theorem ventWithdrawn_of_ventPart {n m t : Node} (h : ventWithdrawn m t) (hn : m.ventPart = n.ventPart) :
    ventWithdrawn n t := by
  simp only [Node.ventPart, Prod.mk.injEq] at hn
  obtain ⟨hv, hl, hf, ho, hof, hc⟩ := hn
  unfold ventWithdrawn at h ⊢
  dsimp only at h ⊢
  rw [hv, hl, hf, ho, hof, hc] at h; exact h

/-! ## The hall's part -/

/-- The node once RCL and VSU gave up, before the hall enters LOCKOUT (R22). -/
def releaseGivenUp (n : Node) : Node :=
  if n.hsq.hall = .awaitSlot then vsuWithdraw (rclGiveUp n) else rclGiveUp n

/-- The node with its own pulses cancelled and RCL's open phase given up, before SOAK (R23). -/
def dischargeGivenUp (n : Node) : Node :=
  if (cancelOwn n).hsq.reservePhase = .opened then rclGiveUp (cancelOwn n) else cancelOwn n

/-- No release has begun, and the hall is not locked out. -/
def hallBefore (h : HallState) : Prop :=
  h ≠ .discharging ∧ h ≠ .soak ∧ h ≠ .spent ∧ h ≠ .lockout

theorem releaseGivenUp_isolate (n : Node) : (releaseGivenUp n).isolate = n.isolate := by
  have hr : (rclGiveUp n).isolate = n.isolate := congrArg (fun m => m.isolate) (rclGiveUp_sansClient n)
  unfold releaseGivenUp; split
  · exact (congrArg (fun m => m.isolate) (vsuWithdraw_sansVent (rclGiveUp n))).trans hr
  · exact hr

theorem hsqIsolate_before {n : Node} (hk : n.isolate = true) (hb : hallBefore n.hsq.hall) :
    hsqIsolate n = lockedOut (releaseGivenUp n) := by
  obtain ⟨hd, hs, hp, hl⟩ := hb
  have he : hsqIsolate n = enterLockout (releaseGivenUp n) := by
    unfold hsqIsolate releaseGivenUp
    cases h : n.hsq.hall with
    | discharging => exact absurd h hd
    | soak => exact absurd h hs
    | spent => exact absurd h hp
    | lockout => exact absurd h hl
    | awaitSlot => rfl
    | _ => rfl
  rw [he, enterLockout_isolated (by rw [releaseGivenUp_isolate]; exact hk)]

theorem hsqIsolate_discharging {n : Node} (h : n.hsq.hall = .discharging) :
    hsqIsolate n = enterSoak (dischargeGivenUp n) := by
  unfold hsqIsolate; rw [h]; rfl

theorem hsqIsolate_after {n : Node} (h : n.hsq.hall = .soak ∨ n.hsq.hall = .spent ∨ n.hsq.hall = .lockout) :
    hsqIsolate n = n := by
  unfold hsqIsolate; rcases h with h | h | h <;> rw [h]

theorem hallBefore_or (h : HallState) :
    hallBefore h ∨ h = .discharging ∨ h = .soak ∨ h = .spent ∨ h = .lockout := by
  unfold hallBefore; cases h <;> simp

/-- The hall's part keeps what the requests on channels keep. -/
theorem ChanInv.hsqIsolate {P : Node → Prop} (h : ChanInv P) {n : Node} (hk : n.isolate = true) (hp : P n) :
    P (hsqIsolate n) := by
  have hgive : ∀ m, P m → P (rclGiveUp m) := fun m hm => h.of_sansClient (rclGiveUp_sansClient m) hm
  rcases hallBefore_or n.hsq.hall with hb | hd | ha
  · rw [hsqIsolate_before hk hb]
    refine h.of_vcu (a := releaseGivenUp n) ?_
    unfold releaseGivenUp; split
    · exact h.of_sansVent (vsuWithdraw_sansVent _) (hgive n hp)
    · exact hgive n hp
  · rw [hsqIsolate_discharging hd]
    refine h.enterSoak ?_
    unfold dischargeGivenUp; split
    · exact hgive _ (h.cancelOwn hp)
    · exact h.cancelOwn hp
  · rw [hsqIsolate_after ha]; exact hp

/-- The hall's part leaves RVA's record and its waiting answer. -/
theorem hsqIsolate_bank {n : Node} (hk : n.isolate = true) :
    (hsqIsolate n).rva = n.rva ∧ (hsqIsolate n).lkc.outbox.fed = n.lkc.outbox.fed := by
  have hgive : ∀ m : Node, (rclGiveUp m).rva = m.rva ∧ (rclGiveUp m).lkc.outbox.fed = m.lkc.outbox.fed :=
    fun m => ⟨congrArg (fun k => k.rva) (rclGiveUp_sansClient m),
      congrArg (fun k => k.lkc.outbox.fed) (rclGiveUp_sansClient m)⟩
  rcases hallBefore_or n.hsq.hall with hb | hd | ha
  · rw [hsqIsolate_before hk hb]
    change (releaseGivenUp n).rva = _ ∧ (releaseGivenUp n).lkc.outbox.fed = _
    unfold releaseGivenUp; split
    · rw [vsuWithdraw_eq]; exact hgive n
    · exact hgive n
  · have hc : (cancelOwn n).rva = n.rva ∧ (cancelOwn n).lkc.outbox.fed = n.lkc.outbox.fed :=
      ⟨congrArg (fun k => k.rva) (cancelOwn_sansFire n),
        congrArg (fun k => k.lkc.outbox.fed) (cancelOwn_sansFire n)⟩
    rw [hsqIsolate_discharging hd, enterSoak_eq, soakSettled_eq]
    dsimp only
    unfold dischargeGivenUp; split
    · exact ⟨(hgive _).1.trans hc.1, (hgive _).2.trans hc.2⟩
    · exact hc
  · rw [hsqIsolate_after ha]; exact ⟨rfl, rfl⟩

theorem selectorShut_of_vcu {a b : Node} (h : a.vcu.selector = b.vcu.selector) (hb : b.selectorShut) :
    a.selectorShut := by unfold Node.selectorShut; rw [h]; exact hb

theorem hsqIsolate_shut {n : Node} (hk : n.isolate = true) (h : n.selectorShut) :
    (hsqIsolate n).selectorShut := by
  rcases hallBefore_or n.hsq.hall with hb | hd | ha
  · rw [hsqIsolate_before hk hb]
    refine selectorShut_of_vcu (b := releaseGivenUp n) rfl ?_
    unfold releaseGivenUp; split
    · exact selectorShut_of_vcu (by rw [vsuWithdraw_eq]) (rclGiveUp_shut n)
    · exact rclGiveUp_shut n
  · rw [hsqIsolate_discharging hd]
    refine selectorShut_of_vcu (b := dischargeGivenUp n) (by rw [enterSoak_eq, soakSettled_eq]) ?_
    unfold dischargeGivenUp; split
    · exact rclGiveUp_shut _
    · exact selectorShut_of_vcu (congrArg (fun k => k.vcu.selector) (cancelOwn_sansFire n)) h
  · rw [hsqIsolate_after ha]; exact h

end Sys2Proof.Machine

/-! # The key turned to ISOLATE: the reserve bank's part -/

namespace Sys2Proof.Machine

/-! ## Reports of pulses -/

/-- A place's report writes the current feed in RVA's record, and no frame. -/
theorem seekSubstitute_bank (c : ChanId) (ds : List ChanId) (f : Feed) (n : Node) :
    (seekSubstitute c ds f n).rva = { n.rva with feed := (seekSubstitute c ds f n).rva.feed } ∧
      (seekSubstitute c ds f n).lkc = n.lkc := by
  induction ds generalizing f n with
  | nil => exact ⟨rfl, rfl⟩
  | cons d ds ih =>
    unfold seekSubstitute; split
    next m hm =>
      revert hm; unfold requestSubstitute; dsimp only; split <;> rintro ⟨⟩
      exact ⟨rfl, rfl⟩
    next => exact ih _ n

theorem placeReport_bank (c : ChanId) (r : PulseResult) (n : Node) :
    (placeReport c r n).rva = { n.rva with feed := (placeReport c r n).rva.feed } ∧
      (placeReport c r n).lkc = n.lkc := by
  unfold placeReport; repeat' split
  · exact ⟨rfl, rfl⟩
  · exact ⟨rfl, rfl⟩
  · exact ⟨rfl, rfl⟩
  · exact seekSubstitute_bank _ _ _ n
  · exact ⟨rfl, rfl⟩

theorem ownReport_bank (c : ChanId) (r : PulseResult) (n : Node) :
    (ownReport c r n).rva = n.rva ∧ (ownReport c r n).lkc = n.lkc := by
  unfold ownReport; repeat' split
  · exact ⟨rfl, rfl⟩
  · exact ⟨rfl, rfl⟩
  · exact ⟨rfl, rfl⟩
  · exact ⟨congrArg (fun m => m.rva) (ownFailed_sansFire c n), congrArg (fun m => m.lkc) (ownFailed_sansFire c n)⟩
  · exact ⟨rfl, rfl⟩

/-- A report of an own pulse as it is delivered: APL and HSQ. -/
def ownDelivered (c : ChanId) (r : PulseResult) (n : Node) : Node :=
  ownReport c r (if r = .confirmed then aplOwnConfirmed n else n)

theorem ownDelivered_bank (c : ChanId) (r : PulseResult) (n : Node) :
    (ownDelivered c r n).rva = n.rva ∧ (ownDelivered c r n).lkc = n.lkc := by
  obtain ⟨hr, hl⟩ := ownReport_bank c r (if r = .confirmed then aplOwnConfirmed n else n)
  have ha := aplOwnConfirmed_sansPlan n
  unfold ownDelivered; rw [hr, hl]
  split
  · exact ⟨congrArg (fun m => m.rva) ha, congrArg (fun m => m.lkc) ha⟩
  · exact ⟨rfl, rfl⟩

theorem deliver_feed (c : ChanId) (r : PulseResult) (rs : List VReport) (n : Node) :
    deliver (.feed c r :: rs) n = deliver rs (placeReport c r n) := rfl

/-- The report is one of a pulse. -/
def VReport.ofPulse (r : VReport) : Prop := ∃ c q, r = .own c q ∨ r = .feed c q

theorem deliver_bank {rs : List VReport} (h : ∀ r ∈ rs, r.ofPulse) (n : Node) :
    (deliver rs n).rva = { n.rva with feed := (deliver rs n).rva.feed } ∧ (deliver rs n).lkc = n.lkc := by
  induction rs generalizing n with
  | nil => exact ⟨rfl, rfl⟩
  | cons r rs ih =>
    have hrest : ∀ x ∈ rs, x.ofPulse := fun x hx => h x (List.mem_cons_of_mem _ hx)
    obtain ⟨c, q, rfl | rfl⟩ := h r List.mem_cons_self
    · obtain ⟨h1, h2⟩ := ownDelivered_bank c q n
      obtain ⟨h3, h4⟩ := ih hrest (ownDelivered c q n)
      rw [h1] at h3; rw [h2] at h4
      exact ⟨h3, h4⟩
    · obtain ⟨h1, h2⟩ := placeReport_bank c q n
      obtain ⟨h3, h4⟩ := ih hrest (placeReport c q n)
      rw [h1] at h3; rw [h2] at h4
      exact ⟨h3, h4⟩

theorem deliver_no_feed {rs : List VReport} (h : ∀ r ∈ rs, r.ofPulse) {n : Node} (hf : n.rva.feed = none) :
    (deliver rs n).rva = n.rva := by
  induction rs generalizing n with
  | nil => rfl
  | cons r rs ih =>
    have hrest : ∀ x ∈ rs, x.ofPulse := fun x hx => h x (List.mem_cons_of_mem _ hx)
    obtain ⟨c, q, rfl | rfl⟩ := h r List.mem_cons_self
    · have h1 := (ownDelivered_bank c q n).1
      exact (ih hrest (n := ownDelivered c q n) (by rw [h1]; exact hf)).trans h1
    · have h1 : placeReport c q n = n := by unfold placeReport; rw [hf]
      rw [deliver_feed, h1]; exact ih hrest hf

/-! ## A feed cancelled -/

/-- The feed with a place cancelled. -/
def Feed.cancelAt (c : ChanId) (f : Feed) : Feed := setPlace c .cancelled { f with cancelledSeen := true }

theorem Place.awaits_iff {p : Place} {c : ChanId} : p.awaits c = true ↔ p.channel = c ∧ p.status = .pending := by
  simp [Place.awaits]

theorem Feed.mem_cancelAt {c : ChanId} {f : Feed} {p : Place} (hp : p ∈ (f.cancelAt c).places)
    (hs : p.status = .pending) : p ∈ f.places ∧ p.channel ≠ c := by
  obtain ⟨q, hq, he⟩ := List.mem_map.1 (show p ∈ List.map _ f.places from hp)
  split at he
  · rw [← he] at hs; cases hs
  next ha =>
    subst he
    exact ⟨hq, fun hc => ha (Place.awaits_iff.2 ⟨hc, hs⟩)⟩

theorem Feed.awaits_of_cancelAt {c d : ChanId} {f : Feed} (h : (f.cancelAt c).places.any (·.awaits d) = true) :
    f.places.any (·.awaits d) = true := by
  obtain ⟨p, hp, ha⟩ := List.any_eq_true.1 h
  obtain ⟨hc, hs⟩ := Place.awaits_iff.1 ha
  exact List.any_eq_true.2 ⟨p, (Feed.mem_cancelAt hp hs).1, Place.awaits_iff.2 ⟨hc, hs⟩⟩

theorem placeReport_cancelled {c : ChanId} {n : Node} {f : Feed} (hf : n.rva.feed = some f)
    (ha : f.places.any (·.awaits c) = true) : placeReport c .cancelled n =
      { n with rva.feed := some (f.cancelAt c) } := by
  unfold placeReport; rw [hf]; exact if_pos ha

theorem placeReport_unawaited {c : ChanId} {q : PulseResult} {n : Node} {f : Feed} (hf : n.rva.feed = some f)
    (ha : ¬ f.places.any (·.awaits c) = true) : placeReport c q n = n := by
  unfold placeReport; rw [hf]; exact if_neg ha

/-- What cancelled pulses leave of the feed: its counts stay, and of its places only those not reported
still wait. -/
structure cancelledAs (rs : List VReport) (f g : Feed) : Prop where
  grantee : g.grantee = f.grantee
  confirmed : g.confirmed = f.confirmed
  failed : g.failed = f.failed
  orphaned : g.orphaned = f.orphaned
  pending : ∀ p ∈ g.places, p.status = .pending → p ∈ f.places ∧ .feed p.channel .cancelled ∉ rs
  seen : g = f ∨ g.cancelledSeen = true

theorem deliver_cancels {rs : List VReport} {n : Node} {f : Feed} (hf : n.rva.feed = some f)
    (hrs : ∀ r ∈ rs, (∃ c q, r = .own c q) ∨
      ∃ c q, r = .feed c q ∧ (q = .cancelled ∨ ¬ f.places.any (·.awaits c) = true)) :
    ∃ g, (deliver rs n).rva.feed = some g ∧ cancelledAs rs f g := by
  induction rs generalizing n f with
  | nil => exact ⟨f, hf, ⟨rfl, rfl, rfl, rfl, fun p hp _ => ⟨hp, by simp⟩, .inl rfl⟩⟩
  | cons r rs ih =>
    have hrest := fun x (hx : x ∈ rs) => hrs x (List.mem_cons_of_mem _ hx)
    rcases hrs r List.mem_cons_self with ⟨c, q, rfl⟩ | ⟨c, q, rfl, hq⟩
    · have hf' : (ownDelivered c q n).rva.feed = some f := by rw [(ownDelivered_bank c q n).1]; exact hf
      obtain ⟨g, hg, h⟩ := ih hf' hrest
      exact ⟨g, hg, ⟨h.grantee, h.confirmed, h.failed, h.orphaned, fun p hp hs =>
        ⟨(h.pending p hp hs).1, by simpa using (h.pending p hp hs).2⟩, h.seen⟩⟩
    · by_cases ha : f.places.any (·.awaits c) = true
      · obtain rfl : q = .cancelled := hq.resolve_right fun hx => hx ha
        rw [deliver_feed, placeReport_cancelled hf ha]
        obtain ⟨g, hg, h⟩ := ih (n := { n with rva.feed := some (f.cancelAt c) }) (f := f.cancelAt c) rfl
          fun x hx => (hrest x hx).imp_right fun ⟨d, q, he, hd⟩ =>
            ⟨d, q, he, hd.imp_right fun hn hx => hn (Feed.awaits_of_cancelAt hx)⟩
        refine ⟨g, hg, ⟨h.grantee, h.confirmed, h.failed, h.orphaned, fun p hp hs => ?_, .inr ?_⟩⟩
        · obtain ⟨hpf, hr⟩ := h.pending p hp hs
          obtain ⟨hpf', hne⟩ := Feed.mem_cancelAt hpf hs
          exact ⟨hpf', by simp [hne, hr]⟩
        · rcases h.seen with rfl | hseen
          · rfl
          · exact hseen
      · rw [deliver_feed, placeReport_unawaited hf ha]
        obtain ⟨g, hg, h⟩ := ih hf hrest
        refine ⟨g, hg, ⟨h.grantee, h.confirmed, h.failed, h.orphaned, fun p hp hs => ?_, h.seen⟩⟩
        obtain ⟨hpf, hr⟩ := h.pending p hp hs
        have hne : p.channel ≠ c := fun hc =>
          ha (List.any_eq_true.2 ⟨p, hpf, Place.awaits_iff.2 ⟨hc, hs⟩⟩)
        exact ⟨hpf, by simp [hne, hr]⟩

/-! ## The feed's end under ISOLATE -/

theorem grantWalk_isolated {n : Node} (h : n.isolate = true) : grantWalk n = n := if_pos h

theorem isolate_of_sansBank {a b : Node} (h : a.sansBank = b.sansBank) : a.isolate = b.isolate :=
  congrArg (fun m => m.isolate) h

theorem feedRounds_no_feed {k : Nat} {n : Node} (h : n.isolate = true) (hf : n.rva.feed = none) :
    feedRounds k n = n := by
  cases k with
  | zero => rfl
  | succ k => unfold feedRounds; rw [hf]; exact if_pos h

/-- What the end of a feed does to the grantee's entry leaves the feed queue, the answers and the frames. -/
theorem feedEntry_bank (f : Feed) (n : Node) : (feedEntry f n).rva.feedQueue = n.rva.feedQueue ∧
    (feedEntry f n).rva.answers = n.rva.answers ∧ (feedEntry f n).rva.feed = n.rva.feed ∧
    (feedEntry f n).lkc = n.lkc := by
  unfold feedEntry; repeat' split
  · exact ⟨rfl, rfl, rfl, rfl⟩
  · unfold returnEntry dropEntry; dsimp only
    rw [uncommitAll_rva, uncommitAll_lkc]; exact ⟨rfl, rfl, rfl, rfl⟩
  · exact ⟨rfl, rfl, rfl, rfl⟩

theorem addAnswer_feed (a : Answer) (n : Node) : (addAnswer a n).rva.feed = n.rva.feed := by
  unfold addAnswer; split <;> rfl

theorem addAnswer_lkc (a : Answer) (n : Node) : (addAnswer a n).lkc = n.lkc := by
  unfold addAnswer; split <;> rfl

/-- The node of a feed just ended, before its end is answered. -/
def feedOff (n : Node) : Node := { n with rva.feed := none }

/-- A feed's answer. -/
def Feed.answer (f : Feed) : Answer :=
  { grantee := f.grantee, confirmed := f.confirmed, failed := f.failed, outcome := f.outcome }

theorem endFeed_isolated {f : Feed} {n : Node} (h : n.isolate = true) : endFeed f n =
    if f.orphaned then feedOff n else addAnswer f.answer (feedEntry f (feedOff n)) := by
  have hb : (addAnswer f.answer (feedEntry f (feedOff n))).isolate = true := by
    rw [isolate_of_sansBank (addAnswer_sansBank _ _), isolate_of_sansBank (feedEntry_sansBank _ _)]; exact h
  unfold endFeed; dsimp only
  split
  · rfl
  · exact grantWalk_isolated hb

theorem endFeed_feed {f : Feed} {n : Node} (h : n.isolate = true) : (endFeed f n).rva.feed = none ∧
    (endFeed f n).rva.feedQueue = n.rva.feedQueue := by
  rw [endFeed_isolated h]; split
  · exact ⟨rfl, rfl⟩
  · rw [addAnswer_feed, addAnswer_feedQueue]
    obtain ⟨hq, -, hf, -⟩ := feedEntry_bank f (feedOff n)
    exact ⟨hf, hq⟩

theorem feedRounds_isolated {k : Nat} {n : Node} (h : n.isolate = true) :
    (feedRounds k n).rva.feedQueue = n.rva.feedQueue := by
  cases k with
  | zero => rfl
  | succ k =>
    cases hf : n.rva.feed with
    | none => rw [feedRounds_no_feed h hf]
    | some f =>
      unfold feedRounds; rw [hf]; dsimp only; split
      · rfl
      · obtain ⟨hnone, hq⟩ := endFeed_feed (f := f) h
        rw [feedRounds_no_feed (by rw [isolate_of_sansBank (endFeed_sansBank f n)]; exact h) hnone, hq]

/-- With no place waiting the feed ends in the first round, and under ISOLATE nothing follows it. -/
theorem feedRounds_ends {k : Nat} {f : Feed} {n : Node} (h : n.isolate = true) (hf : n.rva.feed = some f)
    (hp : ∀ p ∈ f.places, p.status ≠ .pending) : feedRounds (k + 1) n = endFeed f n := by
  unfold feedRounds; rw [hf]; dsimp only
  rw [if_neg (by simpa using hp)]
  exact feedRounds_no_feed (by rw [isolate_of_sansBank (endFeed_sansBank f n)]; exact h) (endFeed_feed h).1

/-! ## The waiting answer -/

theorem sendAnswer_taken {n : Node} (h : n.lkc.outbox.fed.isSome = true) : sendAnswer n = n := by
  unfold sendAnswer; split
  · rfl
  · exact if_pos (by simp [h])

theorem sendAnswer_empty {n : Node} (h : n.rva.answers = []) : sendAnswer n = n := by
  unfold sendAnswer; rw [h]

/-- With none waiting or in flight the head answer goes to LKC (R119). -/
theorem sendAnswer_fed {n : Node} (ho : n.lkc.outbox.fed = none) (hf : n.lkc.inFlight = none)
    (hl : n.lkc.link ≠ .lost) : (sendAnswer n).lkc.outbox.fed = n.rva.answers.head? := by
  have hin : (n.lkc.outbox.fed.isSome || n.fedInFlight) = false := by
    unfold Node.fedInFlight; rw [ho, hf]; rfl
  unfold sendAnswer
  cases ha : n.rva.answers with
  | nil => exact ho
  | cons a as =>
    dsimp only
    rw [if_neg (by simp [hin])]
    unfold queueFed
    rw [if_neg (by simp [Node.refusesFrames, hl])]; rfl

theorem feedOutcome_cancelled {f : Feed} (h : f.cancelledSeen = true) :
    f.outcome = if f.confirmed = 0 then .refused else .part := by
  unfold Feed.outcome; simp [h]

end Sys2Proof.Machine

/-! # The key turned to ISOLATE: the whole event -/

namespace Sys2Proof.Machine

/-! ## Every waiting WAYOPEN refused -/

theorem addAnswer_answers (a : Answer) (n : Node) : (addAnswer a n).rva.answers =
    if n.rva.answers.any (fun x => x.grantee = a.grantee) then
      n.rva.answers.map (fun x => if x.grantee = a.grantee then mergeAnswer x a else x)
    else n.rva.answers ++ [a] := by
  unfold addAnswer; split <;> rfl

/-- An answer waits that refuses the node. -/
def Node.refuses (n : Node) (i : NodeId) : Prop :=
  ∃ a ∈ n.rva.answers, a.grantee = i ∧ a.outcome = .refused

theorem refuses_addAnswer_same (i : NodeId) (n : Node) : (addAnswer (zeroAnswer i .refused) n).refuses i := by
  unfold Node.refuses; rw [addAnswer_answers]; split
  next h =>
    obtain ⟨x, hx, hi⟩ := List.any_eq_true.1 h
    have hi' : x.grantee = i := of_decide_eq_true hi
    exact ⟨mergeAnswer x (zeroAnswer i .refused), List.mem_map.2 ⟨x, hx, if_pos hi'⟩, hi', rfl⟩
  next => exact ⟨zeroAnswer i .refused, by simp, rfl, rfl⟩

theorem refuses_addAnswer (j : NodeId) {i : NodeId} {n : Node} (h : n.refuses i) :
    (addAnswer (zeroAnswer j .refused) n).refuses i := by
  obtain ⟨x, hx, hi, ho⟩ := h
  unfold Node.refuses; rw [addAnswer_answers]; split
  · by_cases hj : x.grantee = j
    · exact ⟨mergeAnswer x (zeroAnswer j .refused), List.mem_map.2 ⟨x, hx, if_pos hj⟩, hi, rfl⟩
    · exact ⟨x, List.mem_map.2 ⟨x, hx, if_neg hj⟩, hi, ho⟩
  · exact ⟨x, List.mem_append_left _ hx, hi, ho⟩

theorem refuseAll_keeps {ws : List (NodeId × Nat)} {i : NodeId} {n : Node} (h : n.refuses i) :
    (refuseAll ws n).refuses i := by
  induction ws generalizing n with
  | nil => exact h
  | cons w ws ih => exact ih (refuses_addAnswer w.1 h)

theorem refuseAll_refuses {ws : List (NodeId × Nat)} {w : NodeId × Nat} (hw : w ∈ ws) (n : Node) :
    (refuseAll ws n).refuses w.1 := by
  induction ws generalizing n with
  | nil => simp at hw
  | cons v ws ih =>
    rcases List.mem_cons.1 hw with rfl | hw
    · exact refuseAll_keeps (n := addAnswer _ n) (refuses_addAnswer_same w.1 n)
    · exact ih hw _

/-- Every waiting answer counts no group. -/
def Node.answersEmpty (n : Node) : Prop := ∀ a ∈ n.rva.answers, a.confirmed = 0 ∧ a.failed = 0

theorem refuseAll_empty {ws : List (NodeId × Nat)} {n : Node} (h : n.answersEmpty) :
    (refuseAll ws n).answersEmpty := by
  induction ws generalizing n with
  | nil => exact h
  | cons w ws ih =>
    refine ih fun a ha => ?_
    rw [addAnswer_answers] at ha
    split at ha
    · obtain ⟨x, hx, rfl⟩ := List.mem_map.1 ha
      split
      · obtain ⟨hc, hf⟩ := h x hx
        exact ⟨by simp [mergeAnswer, hc, zeroAnswer, cap8], by simp [mergeAnswer, hf, zeroAnswer, cap8]⟩
      · exact h x hx
    · rcases List.mem_append.1 ha with ha | ha
      · exact h a ha
      · rw [List.mem_singleton.1 ha]; exact ⟨rfl, rfl⟩

theorem refuseAll_rest (ws : List (NodeId × Nat)) (n : Node) : (refuseAll ws n).rva.bids = n.rva.bids ∧
    (refuseAll ws n).rva.feed = n.rva.feed ∧ (refuseAll ws n).lkc = n.lkc := by
  induction ws generalizing n with
  | nil => exact ⟨rfl, rfl, rfl⟩
  | cons w ws ih =>
    obtain ⟨h1, h2, h3⟩ := ih (addAnswer (zeroAnswer w.1 .refused) n)
    exact ⟨h1.trans (addAnswer_bids _ n), h2.trans (addAnswer_feed _ n), h3.trans (addAnswer_lkc _ n)⟩

theorem returnCommitted_rva (n : Node) : (returnCommitted n).rva = n.rva := uncommitAll_rva _ n
theorem returnCommitted_lkc (n : Node) : (returnCommitted n).lkc = n.lkc := uncommitAll_lkc _ n

/-- The bid queue of a holder that grants nothing: `ws` are the WAYOPENs that waited. -/
def grantlessBids (ws : List (NodeId × Nat)) (es : List BidEntry) : List BidEntry :=
  es.map (fun e => { e with granted := 0, hold := none,
                            taken := if ws.any (fun w => w.1 = e.node) then .no else e.taken })

/-- The node with every WAYOPEN refused, before the answer is handed over. -/
def bankRefused (n : Node) : Node :=
  { refuseAll n.rva.feedQueue (grantsVoided n) with rva.feedQueue := [] }

theorem rvaIsolate_refused (n : Node) : rvaIsolate n = sendAnswer (bankRefused n) := by
  rw [rvaIsolate_eq, returnCommitted_rva]; rfl

theorem bankRefused_bids (n : Node) : (bankRefused n).rva.bids = grantlessBids n.rva.feedQueue n.rva.bids := by
  refine (refuseAll_rest n.rva.feedQueue (grantsVoided n)).1.trans ?_
  unfold grantsVoided grantlessBids; dsimp only; rw [returnCommitted_rva]

theorem bankRefused_lkc (n : Node) : (bankRefused n).lkc = n.lkc :=
  (refuseAll_rest n.rva.feedQueue (grantsVoided n)).2.2.trans (returnCommitted_lkc n)

theorem bankRefused_feed (n : Node) : (bankRefused n).rva.feed = n.rva.feed :=
  (refuseAll_rest n.rva.feedQueue (grantsVoided n)).2.1.trans
    (congrArg Rva.feed (returnCommitted_rva n) : (returnCommitted n).rva.feed = n.rva.feed)

theorem rvaIsolate_rva (n : Node) : (rvaIsolate n).rva = (bankRefused n).rva := by
  rw [rvaIsolate_refused, sendAnswer_rva]

theorem bankRefused_refuses {n : Node} {w : NodeId × Nat} (hw : w ∈ n.rva.feedQueue) :
    (bankRefused n).refuses w.1 := refuseAll_refuses hw (grantsVoided n)

theorem grantsVoided_answers (n : Node) : (grantsVoided n).rva.answers = n.rva.answers :=
  (congrArg Rva.answers (returnCommitted_rva n) : (returnCommitted n).rva.answers = n.rva.answers)

theorem bankRefused_answers {n : Node} (h : n.rva.answers = []) : (bankRefused n).answersEmpty :=
  refuseAll_empty (n := grantsVoided n) fun a ha => by rw [grantsVoided_answers, h] at ha; simp at ha

theorem grantlessBids_mem {ws : List (NodeId × Nat)} {es : List BidEntry} {e : BidEntry}
    (h : e ∈ grantlessBids ws es) : e.granted = 0 ∧ e.hold = none ∧ ∀ w ∈ ws, e.node = w.1 → e.taken = .no := by
  obtain ⟨x, -, rfl⟩ := List.mem_map.1 h
  refine ⟨rfl, rfl, fun w hw he => if_pos ?_⟩
  exact List.any_eq_true.2 ⟨w, hw, by simpa using he.symm⟩

/-! ## The channels after RVA's part -/

theorem uncommitAll_uncommitted {cs : List ChanId} {n : Node}
    (hc : ∀ c, (n.chan c).state = .committed → c ∈ cs) : (uncommitAll cs n).uncommitted := fun c hx => by
  obtain ⟨hnot, he⟩ := uncommitAll_committed hx
  rw [he] at hx
  exact hnot (hc c hx)

theorem rvaIsolate_voided {n : Node} (h : n.sealedUp) : (rvaIsolate n).voided := by
  have hvoid : (grantsVoided n).voided := by
    refine chanInv_voided.of_vcu (a := returnCommitted n) ⟨chanInv_sealedUp.uncommitAll h, ?_⟩
    refine uncommitAll_uncommitted fun c hc => ?_
    exact List.mem_filter.2 ⟨mem_allChans c, by simpa using hc⟩
  rw [rvaIsolate_refused]
  exact chanInv_voided.sendAnswer (chanInv_voided.of_vcu (a := refuseAll n.rva.feedQueue (grantsVoided n))
    (chanInv_voided.refuseAll hvoid))

/-! ## The event up to the sequencer's part -/

/-- The node of a key turned to ISOLATE once VCU's reports are taken. -/
def pulsesCancelled (n : Node) : Node := takeReports (vcuIsolate n)

/-- The node of a key turned to ISOLATE once RVA is through. -/
def bankShut (n : Node) : Node :=
  if (pulsesCancelled n).rvaActive then rvaIsolate (pulsesCancelled n) else pulsesCancelled n

theorem keyIsolate_eq (n : Node) : keyIsolate n = hsqIsolate (bankShut n) := rfl

/-- The node with blanks where VCU and its reports may write. -/
def Node.sansPulses (n : Node) : Node := { n.sansReports with vcu := .start 0 }

theorem sansPulses_of_sansBank {a b : Node} (h : a.sansBank = b.sansBank) : a.sansPulses = b.sansPulses := by
  unfold Node.sansPulses; rw [sansReports_of_sansBank h]

theorem sansPulses_of_sansValve {a b : Node} (h : a.sansValve = b.sansValve) : a.sansPulses = b.sansPulses := by
  change a.sansValve.sansPulses = b.sansValve.sansPulses; rw [h]

theorem pulsesCancelled_sansPulses (n : Node) : (pulsesCancelled n).sansPulses = n.sansPulses := by
  refine Eq.trans ?_ (sansPulses_of_sansValve (vcuIsolate_sansValve n))
  unfold Node.sansPulses pulsesCancelled; rw [takeReports_sansReports]

theorem bankShut_sansPulses (n : Node) : (bankShut n).sansPulses = n.sansPulses := by
  unfold bankShut; split
  · rw [sansPulses_of_sansBank (rvaIsolate_sansBank _), pulsesCancelled_sansPulses]
  · exact pulsesCancelled_sansPulses n

theorem pulsesCancelled_sealedUp {n : Node} (h : n.isolate = true) : (pulsesCancelled n).sealedUp :=
  chanInv_sealedUp.takeReports (vcuIsolate_sealedUp h)

theorem bankShut_sealedUp {n : Node} (h : n.isolate = true) : (bankShut n).sealedUp := by
  unfold bankShut; split
  · exact (rvaIsolate_voided (pulsesCancelled_sealedUp h)).1
  · exact pulsesCancelled_sealedUp h

theorem bankShut_shut (n : Node) : (bankShut n).selectorShut := by
  have hv : (vcuIsolate n).1.selectorShut := selClose_shut _
  have hp : (pulsesCancelled n).selectorShut := selectorShut_of_vcu
    (congrArg (fun m => m.vcu.selector) (takeReports_sansReports (vcuIsolate n))) hv
  unfold bankShut; split
  · exact selectorShut_of_vcu (congrArg (fun m => m.vcu.selector) (rvaIsolate_sansBank _)) hp
  · exact hp

/-- RVA's activity is read from the mode and the roles, which stay. -/
theorem pulsesCancelled_active (n : Node) : (pulsesCancelled n).rvaActive = n.rvaActive := by
  have hmode : (pulsesCancelled n).hsq.mode = n.hsq.mode :=
    congrArg (fun m => m.hsq.mode) (pulsesCancelled_sansPulses n)
  have hres : (pulsesCancelled n).hasReserve = n.hasReserve :=
    hasReserve_of_roles ((chanInv_rolesAre _).takeReports (vcuIsolate_roles n))
  unfold Node.rvaActive Node.normal; rw [hmode, hres]

theorem bankShut_active {n : Node} (h : n.rvaActive = true) : bankShut n = rvaIsolate (pulsesCancelled n) :=
  if_pos (by rw [pulsesCancelled_active, h])

/-! ## The reports of the change -/

theorem pulseReport_ofPulse {c : ChanId} {q : Requester} {x : PulseResult} {r : VReport}
    (h : r ∈ pulseReport c q x) : (∃ c q, r = .own c q) ∨ r = .feed c x := by
  unfold pulseReport at h; split at h
  · simp at h
  · exact .inl ⟨c, x, by simpa using h⟩
  · exact .inr (by simpa using h)

theorem cancelledReports_mem {n : Node} {r : VReport} (h : r ∈ cancelledReports n) :
    (∃ c q, r = .own c q) ∨ ∃ c, r = .feed c .cancelled := by
  obtain ⟨c, -, hr⟩ := List.mem_flatMap.1 h
  exact (pulseReport_ofPulse hr).imp id fun hx => ⟨c, hx⟩

theorem vcuIsolate_ofPulse (n : Node) : ∀ r ∈ (vcuIsolate n).2, r.ofPulse := by
  intro r hr
  rcases List.mem_append.1 (show r ∈ (endPulse n).2 ++ cancelledReports (endPulse n).1 from hr) with h | h
  · obtain ⟨-, -, -, -, -, hrep⟩ := endPulse_rest n
    obtain ⟨c, q, -, hq⟩ := hrep r h
    exact ⟨c, q, hq⟩
  · rcases cancelledReports_mem h with ⟨c, q, he⟩ | ⟨c, he⟩
    · exact ⟨c, q, .inl he⟩
    · exact ⟨c, .cancelled, .inr he⟩

theorem vcuIsolate_bank (n : Node) : (vcuIsolate n).1.rva = n.rva ∧ (vcuIsolate n).1.lkc = n.lkc :=
  ⟨congrArg (fun m => m.rva) (vcuIsolate_sansValve n), congrArg (fun m => m.lkc) (vcuIsolate_sansValve n)⟩

/-- The node with VCU's reports handed over, before the tests of feed end and start. -/
def reportsHanded (n : Node) : Node := deliver (vcuIsolate n).2 (vcuIsolate n).1

theorem pulsesCancelled_eq (n : Node) : pulsesCancelled n =
    if (vcuIsolate n).2.any VReport.ofFeed then feedTest (reportsHanded n) else reportsHanded n := rfl

theorem reportsHanded_bank (n : Node) :
    (reportsHanded n).rva = { n.rva with feed := (reportsHanded n).rva.feed } ∧
      (reportsHanded n).lkc = n.lkc := by
  obtain ⟨h1, h2⟩ := vcuIsolate_bank n
  obtain ⟨h3, h4⟩ := deliver_bank (vcuIsolate_ofPulse n) (vcuIsolate n).1
  rw [h1] at h3; rw [h2] at h4
  exact ⟨h3, h4⟩

theorem reportsHanded_isolate {n : Node} (h : n.isolate = true) : (reportsHanded n).isolate = true := by
  have hr : (reportsHanded n).isolate = (vcuIsolate n).1.isolate :=
    congrArg (fun m => m.isolate) (deliver_sansReports _ _)
  exact hr.trans ((congrArg (fun m => m.isolate) (vcuIsolate_sansValve n)).trans h)

theorem pulsesCancelled_feedQueue {n : Node} (h : n.isolate = true) :
    (pulsesCancelled n).rva.feedQueue = n.rva.feedQueue := by
  have hr : (reportsHanded n).rva.feedQueue = n.rva.feedQueue := by rw [(reportsHanded_bank n).1]
  rw [pulsesCancelled_eq]; split
  · rw [feedTest, sendAnswer_rva, feedRounds_isolated (reportsHanded_isolate h), hr]
  · exact hr

/-- Without a feed the bank's record stays, and with no answer the frames too. -/
theorem pulsesCancelled_no_feed {n : Node} (h : n.isolate = true) (hf : n.rva.feed = none) :
    (pulsesCancelled n).rva = n.rva ∧ (n.rva.answers = [] → (pulsesCancelled n).lkc = n.lkc) := by
  obtain ⟨h1, -⟩ := vcuIsolate_bank n
  have hr : (reportsHanded n).rva = n.rva :=
    (deliver_no_feed (vcuIsolate_ofPulse n) (n := (vcuIsolate n).1) (by rw [h1]; exact hf)).trans h1
  rw [pulsesCancelled_eq]; split
  · have he : feedRounds (2 * (reportsHanded n).rva.feedQueue.length + 2) (reportsHanded n) = reportsHanded n :=
      feedRounds_no_feed (reportsHanded_isolate h) (by rw [hr]; exact hf)
    rw [feedTest, he, sendAnswer_rva]
    exact ⟨hr, fun ha => by rw [sendAnswer_empty (by rw [hr]; exact ha)]; exact (reportsHanded_bank n).2⟩
  · exact ⟨hr, fun _ => (reportsHanded_bank n).2⟩

end Sys2Proof.Machine

/-! # The key turned to ISOLATE: the feed cancelled, and the event settled -/

namespace Sys2Proof.Machine

/-! ## A feed whose places all wait in the queue -/

/-- Every pending place of the feed waits in the pulse queue (R67). -/
def Node.feedQueued (n : Node) (f : Feed) : Prop :=
  ∀ x ∈ f.places, x.status = .pending → x.channel ∈ n.vcu.queue ∧
    (n.chan x.channel).state = .queued ∧ (n.chan x.channel).requester = .rva

section
variable {n : Node} {f : Feed}

/-- The change to ISOLATE cancels each of its pending places. -/
theorem feedQueued_cancelled (hq : n.feedQueued f) {x : Place} (hx : x ∈ f.places) (hs : x.status = .pending) :
    .feed x.channel .cancelled ∈ (vcuIsolate n).2 := by
  obtain ⟨hin, hst, hr⟩ := hq x hx hs
  obtain ⟨-, hqueue, -, -, hreq, -⟩ := endPulse_rest n
  have hmem : VReport.feed x.channel .cancelled ∈ cancelledReports (endPulse n).1 :=
    List.mem_flatMap.2 ⟨x.channel, by rw [hqueue]; exact hin, by
      rw [hreq _ hst, hr]; exact List.mem_singleton.2 rfl⟩
  exact List.mem_append_right (endPulse n).2 hmem

theorem feedQueued_reports (hq : n.feedQueued f) : ∀ r ∈ (vcuIsolate n).2, (∃ c q, r = .own c q) ∨
    ∃ c q, r = .feed c q ∧ (q = .cancelled ∨ ¬ f.places.any (·.awaits c) = true) := by
  intro r hr
  rcases List.mem_append.1 (show r ∈ (endPulse n).2 ++ cancelledReports (endPulse n).1 from hr) with h | h
  · obtain ⟨-, -, -, -, -, hrep⟩ := endPulse_rest n
    obtain ⟨c, q, hfire, he | he⟩ := hrep r h
    · exact .inl ⟨c, q, he⟩
    · refine .inr ⟨c, q, he, .inr fun ha => ?_⟩
      obtain ⟨p, hp, hpa⟩ := List.any_eq_true.1 ha
      obtain ⟨hc, hs⟩ := Place.awaits_iff.1 hpa
      have hst := (hq p hp hs).2.1
      rw [hc, hfire] at hst; cases hst
  · rcases cancelledReports_mem h with h | ⟨c, he⟩
    · exact .inl h
    · exact .inr ⟨c, .cancelled, he, .inl rfl⟩

/-- The answer of a feed that a key turned to ISOLATE cancels (R67, R118). -/
def Feed.cancelAnswer (f : Feed) : Answer :=
  { grantee := f.grantee, confirmed := f.confirmed, failed := f.failed,
    outcome := if f.confirmed = 0 then .refused else .part }

theorem reportsHanded_cancels (hf : n.rva.feed = some f) (hq : n.feedQueued f)
    (hp : ∃ x ∈ f.places, x.status = .pending) :
    ∃ g, (reportsHanded n).rva.feed = some g ∧ g.orphaned = f.orphaned ∧ g.answer = f.cancelAnswer ∧
      ∀ p ∈ g.places, p.status ≠ .pending := by
  obtain ⟨g, hg, h⟩ := deliver_cancels (n := (vcuIsolate n).1) (f := f)
    (by rw [(vcuIsolate_bank n).1]; exact hf) (feedQueued_reports hq)
  have hnone : ∀ p ∈ g.places, p.status ≠ .pending := fun p hpg hs =>
    (h.pending p hpg hs).2 (feedQueued_cancelled hq (h.pending p hpg hs).1 hs)
  have hseen : g.cancelledSeen = true := by
    refine h.seen.resolve_left fun he => ?_
    obtain ⟨x, hx, hs⟩ := hp
    exact hnone x (by rw [he]; exact hx) hs
  refine ⟨g, hg, h.orphaned, ?_, hnone⟩
  unfold Feed.answer Feed.cancelAnswer
  rw [feedOutcome_cancelled hseen, h.grantee, h.confirmed, h.failed]

theorem pulsesCancelled_feed (hk : n.isolate = true) (hf : n.rva.feed = some f) (ho : f.orphaned = false)
    (hq : n.feedQueued f) (hp : ∃ x ∈ f.places, x.status = .pending) (hfq : n.rva.feedQueue = [])
    (ha : n.rva.answers = []) (hfed : n.lkc.outbox.fed = none) (hin : n.lkc.inFlight = none)
    (hl : n.lkc.link ≠ .lost) : (pulsesCancelled n).rva.feed = none ∧
      (pulsesCancelled n).lkc.outbox.fed = some f.cancelAnswer := by
  obtain ⟨g, hg, hgo, hga, hnone⟩ := reportsHanded_cancels hf hq hp
  obtain ⟨hrva, hlkc⟩ := reportsHanded_bank n
  have hkh := reportsHanded_isolate hk
  have hqueue : (reportsHanded n).rva.feedQueue = [] := by rw [hrva]; exact hfq
  have hany : (vcuIsolate n).2.any VReport.ofFeed = true := by
    obtain ⟨x, hx, hs⟩ := hp
    exact List.any_eq_true.2 ⟨_, feedQueued_cancelled hq hx hs, rfl⟩
  obtain ⟨-, hea, hef, hel⟩ := feedEntry_bank g (feedOff (reportsHanded n))
  have hend : feedRounds (2 * (reportsHanded n).rva.feedQueue.length + 2) (reportsHanded n) =
      addAnswer g.answer (feedEntry g (feedOff (reportsHanded n))) := by
    rw [hqueue]
    refine (feedRounds_ends (k := 1) hkh hg hnone).trans ((endFeed_isolated hkh).trans (if_neg ?_))
    rw [hgo, ho]; exact Bool.false_ne_true
  have hans : (addAnswer g.answer (feedEntry g (feedOff (reportsHanded n)))).rva.answers = [f.cancelAnswer] := by
    have hempty : (feedEntry g (feedOff (reportsHanded n))).rva.answers = [] := by
      rw [hea]; exact (congrArg Rva.answers hrva).trans ha
    rw [addAnswer_answers, hempty, hga]; rfl
  have hlk : (addAnswer g.answer (feedEntry g (feedOff (reportsHanded n)))).lkc = n.lkc := by
    rw [addAnswer_lkc, hel]; exact hlkc
  rw [pulsesCancelled_eq, if_pos hany, feedTest, hend]
  refine ⟨?_, ?_⟩
  · rw [sendAnswer_rva, addAnswer_feed, hef]; rfl
  · rw [sendAnswer_fed (by rw [hlk]; exact hfed) (by rw [hlk]; exact hin) (by rw [hlk]; exact hl), hans]; rfl

theorem bankShut_feed (hk : n.isolate = true) (hf : n.rva.feed = some f) (ho : f.orphaned = false)
    (hq : n.feedQueued f) (hp : ∃ x ∈ f.places, x.status = .pending) (hfq : n.rva.feedQueue = [])
    (ha : n.rva.answers = []) (hfed : n.lkc.outbox.fed = none) (hin : n.lkc.inFlight = none)
    (hl : n.lkc.link ≠ .lost) : (bankShut n).rva.feed = none ∧
      (bankShut n).lkc.outbox.fed = some f.cancelAnswer := by
  obtain ⟨hnone, hsome⟩ := pulsesCancelled_feed hk hf ho hq hp hfq ha hfed hin hl
  unfold bankShut; split
  · rw [rvaIsolate_refused, sendAnswer_taken (by rw [bankRefused_lkc, hsome]; rfl), bankRefused_feed,
      bankRefused_lkc]
    exact ⟨hnone, hsome⟩
  · exact ⟨hnone, hsome⟩

end

/-! ## The bank of an active holder -/

/-- What a key turned to ISOLATE leaves of the bank of an active holder (R112). -/
theorem bankShut_refuses {n : Node} (hk : n.isolate = true) (h : n.rvaActive = true) :
    (∀ e ∈ (bankShut n).rva.bids, e.granted = 0 ∧ e.hold = none) ∧ (bankShut n).voided ∧
      (bankShut n).rva.feedQueue = [] ∧
      (∀ w ∈ n.rva.feedQueue, (bankShut n).refuses w.1 ∧
        ∀ e ∈ (bankShut n).rva.bids, e.node = w.1 → e.taken = .no) ∧
      (n.rva.feed = none → (bankShut n).rva.bids = grantlessBids n.rva.feedQueue n.rva.bids ∧
        (n.rva.answers = [] → (bankShut n).answersEmpty ∧
          (n.lkc.outbox.fed = none → n.lkc.inFlight = none → n.lkc.link ≠ .lost →
            (bankShut n).lkc.outbox.fed = (bankShut n).rva.answers.head?))) := by
  have hbank := bankShut_active h
  have hfq := pulsesCancelled_feedQueue hk
  have hrva : (bankShut n).rva = (bankRefused (pulsesCancelled n)).rva := by rw [hbank, rvaIsolate_rva]
  have hbids : (bankShut n).rva.bids = grantlessBids n.rva.feedQueue (pulsesCancelled n).rva.bids := by
    rw [hrva, bankRefused_bids, hfq]
  refine ⟨fun e he => ?_, ?_, ?_, fun w hw => ⟨?_, fun e he hn => ?_⟩, fun hf => ⟨?_, fun ha => ⟨?_, ?_⟩⟩⟩
  · rw [hbids] at he
    obtain ⟨hg, hh, -⟩ := grantlessBids_mem he
    exact ⟨hg, hh⟩
  · rw [hbank]; exact rvaIsolate_voided (pulsesCancelled_sealedUp hk)
  · rw [hrva]; rfl
  · unfold Node.refuses; rw [hrva]; exact bankRefused_refuses (by rw [hfq]; exact hw)
  · rw [hbids] at he
    exact (grantlessBids_mem he).2.2 w hw hn
  · rw [hbids, (pulsesCancelled_no_feed hk hf).1]
  · unfold Node.answersEmpty; rw [hrva]
    exact bankRefused_answers (by rw [(pulsesCancelled_no_feed hk hf).1]; exact ha)
  · intro hfed hin hl
    have hlkc := (pulsesCancelled_no_feed hk hf).2 ha
    rw [hrva, hbank, rvaIsolate_refused]
    exact sendAnswer_fed (by rw [bankRefused_lkc, hlkc]; exact hfed) (by rw [bankRefused_lkc, hlkc]; exact hin)
      (by rw [bankRefused_lkc, hlkc]; exact hl)

/-! ## The sequencer's part of the event -/

/-- A node agrees with another one outside what VCU and its reports may write. -/
theorem sansPulses_parts {a b : Node} (h : a.sansPulses = b.sansPulses) : a.rcl = b.rcl ∧
    a.ventPart = b.ventPart ∧ a.yieldPart = b.yieldPart ∧ a.now = b.now ∧ a.cfg = b.cfg ∧
    a.hsq.hall = b.hsq.hall ∧ a.hsq.mode = b.hsq.mode ∧ a.hsq.reservePhase = b.hsq.reservePhase ∧
    a.hsq.soak = b.hsq.soak ∧ a.isolate = b.isolate :=
  ⟨congrArg (fun m => m.rcl) h, congrArg (fun m => m.ventPart) h, congrArg (fun m => m.yieldPart) h,
    congrArg (fun m => m.now) h, congrArg (fun m => m.cfg) h, congrArg (fun m => m.hsq.hall) h,
    congrArg (fun m => m.hsq.mode) h, congrArg (fun m => m.hsq.reservePhase) h,
    congrArg (fun m => m.hsq.soak) h, congrArg (fun m => m.isolate) h⟩

theorem releaseGivenUp_keeps (n : Node) : (releaseGivenUp n).rcl = (rclGiveUp n).rcl ∧
    (releaseGivenUp n).lkc.outbox.bid = (rclGiveUp n).lkc.outbox.bid ∧
    (releaseGivenUp n).lkc.outbox.yieldTo = (rclGiveUp n).lkc.outbox.yieldTo := by
  unfold releaseGivenUp; split
  · rw [vsuWithdraw_eq]; exact ⟨rfl, rfl, rfl⟩
  · exact ⟨rfl, rfl, rfl⟩

/-- Before a release the sequencer's part locks the hall out with the bid given up. -/
theorem hsqIsolate_locks {n : Node} (hk : n.isolate = true) (hb : hallBefore n.hsq.hall) :
    (hsqIsolate n).rcl.gaveUp ∧ (n.rcl.claims = true → yieldHanded n (hsqIsolate n)) ∧
      (n.hsq.hall = .awaitSlot → ventWithdrawn n (hsqIsolate n)) := by
  obtain ⟨hr, hbid, hy⟩ := releaseGivenUp_keeps n
  rw [hsqIsolate_before hk hb]
  refine ⟨?_, fun hc => yieldHanded_congr (rclGiveUp_yields hc) rfl hbid hy, fun ha => ?_⟩
  · change (releaseGivenUp n).rcl.gaveUp; rw [hr]; exact rclGiveUp_gaveUp n
  · have he : releaseGivenUp n = vsuWithdraw (rclGiveUp n) := if_pos ha
    have hw : ventWithdrawn (rclGiveUp n) (releaseGivenUp n) := by
      rw [he]; exact vsuWithdraw_withdrawn _
    have hpart : (rclGiveUp n).ventPart = n.ventPart :=
      congrArg (fun m => m.ventPart) (rclGiveUp_sansClient n)
    exact ventWithdrawn_congr (ventWithdrawn_of_ventPart hw hpart) rfl rfl rfl

theorem cancelOwn_parts (n : Node) : (cancelOwn n).rcl = n.rcl ∧ (cancelOwn n).ventPart = n.ventPart ∧
    (cancelOwn n).yieldPart = n.yieldPart ∧ (cancelOwn n).hsq.hall = n.hsq.hall ∧
    (cancelOwn n).hsq.reservePhase = n.hsq.reservePhase ∧ (cancelOwn n).now = n.now ∧
    (cancelOwn n).hsq.mode = n.hsq.mode :=
  have h := cancelOwn_sansFire n
  ⟨congrArg (fun m => m.rcl) h, congrArg (fun m => m.ventPart) h, congrArg (fun m => m.yieldPart) h,
    congrArg (fun m => m.hsq.hall) h, congrArg (fun m => m.hsq.reservePhase) h, congrArg (fun m => m.now) h,
    congrArg (fun m => m.hsq.mode) h⟩

theorem enterSoak_client (n : Node) : (enterSoak n).rcl = n.rcl ∧
    (enterSoak n).lkc.outbox.bid = n.lkc.outbox.bid ∧ (enterSoak n).lkc.outbox.yieldTo = n.lkc.outbox.yieldTo ∧
    (enterSoak n).hsq.reservePhase = n.hsq.reservePhase ∧
    (enterSoak n).hsq.reserveOutcome = n.hsq.reserveOutcome := by
  rw [enterSoak_eq, soakSettled_eq]; exact ⟨rfl, rfl, rfl, rfl, rfl⟩

theorem dischargeGivenUp_parts (n : Node) : (dischargeGivenUp n).ventPart = n.ventPart ∧
    (dischargeGivenUp n).hsq.mode = n.hsq.mode ∧ (dischargeGivenUp n).now = n.now ∧
    (dischargeGivenUp n).cfg = n.cfg := by
  have hc := cancelOwn_sansFire n
  have hg := rclGiveUp_sansClient (cancelOwn n)
  unfold dischargeGivenUp; split
  · exact ⟨(congrArg (fun m => m.ventPart) hg).trans (congrArg (fun m => m.ventPart) hc),
      (congrArg (fun m => m.hsq.mode) hg).trans (congrArg (fun m => m.hsq.mode) hc),
      (congrArg (fun m => m.now) hg).trans (congrArg (fun m => m.now) hc),
      (congrArg (fun m => m.cfg) hg).trans (congrArg (fun m => m.cfg) hc)⟩
  · exact ⟨congrArg (fun m => m.ventPart) hc, congrArg (fun m => m.hsq.mode) hc, congrArg (fun m => m.now) hc,
      congrArg (fun m => m.cfg) hc⟩

/-- In DISCHARGING the sequencer's part moves to SOAK, with an open phase given up. -/
theorem hsqIsolate_soaks {n : Node} (hd : n.hsq.hall = .discharging) :
    (hsqIsolate n).hsq.hall = .soak ∧ (hsqIsolate n).hsq.soak = some (n.now + 1000 * n.cfg.soak) ∧
      (n.hsq.mode = .normal → ventWithdrawn n (hsqIsolate n)) ∧
      (n.hsq.reservePhase = .opened → (hsqIsolate n).rcl.gaveUp ∧
        (n.rcl.claims = true → yieldHanded n (hsqIsolate n)) ∧ (hsqIsolate n).rcl.phase = .done ∧
        (hsqIsolate n).hsq.reservePhase = .resolved ∧
        (hsqIsolate n).hsq.reserveOutcome = n.rcl.outcomeByRule) := by
  obtain ⟨hv, hm, hnow, hcfg⟩ := dischargeGivenUp_parts n
  obtain ⟨hr, hb, hy, hp, ho⟩ := enterSoak_client (dischargeGivenUp n)
  rw [hsqIsolate_discharging hd]
  refine ⟨enterSoak_hall _, by rw [enterSoak_soak, hnow, hcfg], fun hmode => ?_, fun hopen => ?_⟩
  · exact ventWithdrawn_of_ventPart (enterSoak_normal (by rw [hm]; exact hmode)).1 hv
  · obtain ⟨hcr, -, hcy, hch, hcp, -⟩ := cancelOwn_parts n
    have he : dischargeGivenUp n = rclGiveUp (cancelOwn n) := if_pos (by rw [hcp]; exact hopen)
    obtain ⟨h1, h2, h3⟩ := rclGiveUp_resolves (n := cancelOwn n) (hch.trans hd) (hcp.trans hopen)
    rw [he] at hr hb hy hp ho ⊢
    rw [hr, hp, ho]
    refine ⟨rclGiveUp_gaveUp _, fun hc => ?_, h1, h2, by rw [h3, hcr]⟩
    exact yieldHanded_congr (rclGiveUp_yields (by rw [hcr]; exact hc)) hcy.symm hb hy

end Sys2Proof.Machine

/-! # O10: the key turned to ISOLATE -/

namespace Sys2Proof.Machine

theorem keyClass_counted {a b : Bool} (h : ¬ (a = true ∧ b = false)) : (keyClass a b).counted = .isolate := by
  cases a <;> cases b
  case true.false => exact absurd ⟨rfl, rfl⟩ h
  all_goals rfl

/-- The record of a sample that counts as ISOLATE delivers ISOLATE. -/
theorem keyTaken_isolate {a b : Bool} (h : (keyClass a b).counted = .isolate) (n : Node) :
    (keyTaken a b n).isolate = true := decide_eq_true h

/-- The hall is in LOCKOUT, the event's marks are cleared and every timer is stopped (R22). -/
def Hsq.locked (h : Hsq) : Prop :=
  h.hall = .lockout ∧ h.manualOverride = false ∧ h.cause = .none ∧ h.epoReached = false ∧
    h.countdown = .off ∧ h.degraded = none ∧ h.duration = none ∧ h.soak = none

theorem lockedOut_locked (n : Node) : (lockedOut n).hsq.locked := ⟨rfl, rfl, rfl, rfl, rfl, rfl, rfl, rfl⟩

section
variable {n : Node}

theorem keyIsolate_sealed (hk : n.isolate = true) : (keyIsolate n).sealedUp ∧ (keyIsolate n).selectorShut := by
  have hb := bankShut_sealedUp hk
  rw [keyIsolate_eq]
  exact ⟨chanInv_sealedUp.hsqIsolate hb.1 hb, hsqIsolate_shut hb.1 (bankShut_shut n)⟩

theorem bankShut_hall (n : Node) : (bankShut n).hsq.hall = n.hsq.hall :=
  congrArg (fun m => m.hsq.hall) (bankShut_sansPulses n)

/-- Before a release the hall is locked out, with the bid and the slot given up. -/
theorem keyIsolate_before (hk : n.isolate = true) (hb : hallBefore n.hsq.hall) :
    (keyIsolate n).hsq.locked ∧ (keyIsolate n).rcl.gaveUp ∧
      (n.rcl.claims = true → yieldHanded n (keyIsolate n)) ∧
      (n.hsq.hall = .awaitSlot → ventWithdrawn n (keyIsolate n)) := by
  obtain ⟨hr, hv, hy, -⟩ := sansPulses_parts (bankShut_sansPulses n)
  have hbefore : hallBefore (bankShut n).hsq.hall := by rw [bankShut_hall]; exact hb
  have hi := (bankShut_sealedUp hk).1
  obtain ⟨h1, h2, h3⟩ := hsqIsolate_locks hi hbefore
  rw [keyIsolate_eq]
  refine ⟨?_, h1, fun hc => ?_, fun ha => ?_⟩
  · rw [hsqIsolate_before hi hbefore]; exact lockedOut_locked _
  · exact yieldHanded_congr (h2 (by rw [hr]; exact hc)) hy.symm rfl rfl
  · exact ventWithdrawn_of_ventPart (h3 (by rw [bankShut_hall]; exact ha)) hv

/-- In DISCHARGING the hall goes to SOAK, with an open phase resolved. -/
theorem keyIsolate_discharging (hd : n.hsq.hall = .discharging) :
    (keyIsolate n).hsq.hall = .soak ∧ (keyIsolate n).hsq.soak = some (n.now + 1000 * n.cfg.soak) ∧
      (n.hsq.mode = .normal → ventWithdrawn n (keyIsolate n)) ∧
      (n.hsq.reservePhase = .opened → (keyIsolate n).rcl.gaveUp ∧
        (n.rcl.claims = true → yieldHanded n (keyIsolate n)) ∧ (keyIsolate n).rcl.phase = .done ∧
        (keyIsolate n).hsq.reservePhase = .resolved ∧
        (keyIsolate n).hsq.reserveOutcome = n.rcl.outcomeByRule) := by
  obtain ⟨hr, hv, hy, hnow, hcfg, -, hm, hp, -⟩ := sansPulses_parts (bankShut_sansPulses n)
  obtain ⟨h1, h2, h3, h4⟩ := hsqIsolate_soaks ((bankShut_hall n).trans hd)
  rw [keyIsolate_eq]
  refine ⟨h1, by rw [h2, hnow, hcfg], fun h => ventWithdrawn_of_ventPart (h3 (hm.trans h)) hv, fun h => ?_⟩
  obtain ⟨hg, hyield, hdone, hres, hout⟩ := h4 (hp.trans h)
  exact ⟨hg, fun hc => yieldHanded_congr (hyield (by rw [hr]; exact hc)) hy.symm rfl rfl, hdone, hres, by
    rw [hout, hr]⟩

theorem keyIsolate_after (ha : n.hsq.hall = .soak ∨ n.hsq.hall = .spent ∨ n.hsq.hall = .lockout) :
    (keyIsolate n).hsq.hall = n.hsq.hall ∧ (keyIsolate n).hsq.soak = n.hsq.soak := by
  obtain ⟨-, -, -, -, -, hh, -, -, hs, -⟩ := sansPulses_parts (bankShut_sansPulses n)
  rw [keyIsolate_eq, hsqIsolate_after (by rw [bankShut_hall]; exact ha), hh, hs]
  exact ⟨rfl, rfl⟩

/-- The hall's part leaves what RVA did. -/
theorem keyIsolate_bank (hk : n.isolate = true) :
    (keyIsolate n).rva = (bankShut n).rva ∧ (keyIsolate n).lkc.outbox.fed = (bankShut n).lkc.outbox.fed := by
  rw [keyIsolate_eq]; exact hsqIsolate_bank (bankShut_sealedUp hk).1

theorem keyIsolate_voided (hv : (bankShut n).voided) : (keyIsolate n).voided := by
  rw [keyIsolate_eq]; exact chanInv_voided.hsqIsolate hv.1.1 hv

end

/-- The bids of a holder that grants nothing, as the statement writes them. -/
theorem grantlessBids_eq (ws : List (NodeId × Nat)) (es : List BidEntry) :
    grantlessBids ws es = es.map (fun e => { e with
      granted := 0, hold := none, taken := if ∃ w ∈ ws, w.1 = e.node then FeedTaken.no else e.taken }) := by
  refine List.map_congr_left fun e _ => ?_
  have hiff : ws.any (fun w => w.1 = e.node) = true ↔ ∃ w ∈ ws, w.1 = e.node := by simp
  rw [if_congr hiff rfl rfl]

/-- Settles O10: VCU and RVA shut the bank, and the sequencer's part follows by the hall's state. -/
theorem keyToIsolateLocksOut : Obligations.KeyToIsolateLocksOut := by
  intro s a b since hr hab hd hrun hlen
  have hcls := keyClass_counted hab
  have he : keyEvent false a b s.node = keyIsolate (keyTaken a b s.node) := by
    rw [keyEvent_moves hrun hlen (by rw [hcls, hd]; decide), hcls]
  have hk := keyTaken_isolate hcls s.node
  obtain ⟨hseal, hshut⟩ := keyIsolate_sealed hk
  obtain ⟨hrva, hfed⟩ := keyIsolate_bank hk
  have hbefore := keyIsolate_before (n := keyTaken a b s.node) hk
  have hdis := keyIsolate_discharging (n := keyTaken a b s.node)
  have hafter := keyIsolate_after (n := keyTaken a b s.node)
  refine ⟨_, if_pos hr, ?_⟩
  rw [he]
  simp only [Node.chan, finish_vcu, finish_fiu, finish_hsq, finish_rcl, finish_rva, finish_fed, hrva, hfed]
  have hyield : ∀ {n t : Node}, yieldHanded n t → yieldHanded n (finish s.node t) := fun h =>
    yieldHanded_congr h rfl (finish_bid _ _) (finish_yieldTo _ _)
  have hvent : ∀ {n t : Node}, ventWithdrawn n t → ventWithdrawn n (finish s.node t) := fun h =>
    ventWithdrawn_congr h (finish_vsu _ _) (finish_vent _ _) (finish_ventfree _ _)
  refine ⟨of_decide_eq_true hseal.1, hseal.2.1, hseal.2.2.1, hseal.2.2.2, hshut.1, hshut.2, ?hall,
    ⟨?client, ?phase, ?slot, fun hact => ?bank⟩, fun f hf ho hp hq hfq hans hout hin hl => ?feed⟩
  case hall =>
    cases hh : s.node.hsq.hall
    case discharging => exact ⟨(hdis hh).1, (hdis hh).2.1⟩
    case soak => exact ⟨(hafter (.inl hh)).1.trans hh, (hafter (.inl hh)).2⟩
    case spent => exact (hafter (.inr (.inl hh))).1.trans hh
    case lockout => exact (hafter (.inr (.inr hh))).1.trans hh
    all_goals
      obtain ⟨⟨h1, h2, h3, h4, h5, h6, h7, h8⟩, hgave, -⟩ := hbefore (by
        change hallBefore s.node.hsq.hall; rw [hh]; simp [hallBefore])
      exact ⟨h1, h2, h3, h4, remaining_of_off (by rw [finish_hsq]; exact h5), h6, h7, h8, hgave.1⟩
  case client =>
    rintro (hb | ⟨hh, ho⟩)
    · obtain ⟨-, ⟨h1, h2, h3, h4, h5⟩, hy, -⟩ := hbefore hb
      exact ⟨h1, h2, h3, h4, h5, fun hc => hyield (hy (claims_iff.2 hc))⟩
    · obtain ⟨⟨h1, h2, h3, h4, h5⟩, hy, -⟩ := (hdis hh).2.2.2 ho
      exact ⟨h1, h2, h3, h4, h5, fun hc => hyield (hy (claims_iff.2 hc))⟩
  case phase =>
    rintro ⟨hh, ho⟩
    exact ((hdis hh).2.2.2 ho).2.2
  case slot =>
    rintro (hh | ⟨hh, hm⟩)
    · refine hvent ((hbefore ?_).2.2.2 hh)
      change hallBefore s.node.hsq.hall; rw [hh]; simp [hallBefore]
    · exact hvent ((hdis hh).2.2.1 hm)
  case bank =>
    obtain ⟨hbids, hvoid, hqueue, hrefused, hrest⟩ := bankShut_refuses hk hact
    refine ⟨hbids, (keyIsolate_voided hvoid).2, hqueue, hrefused, fun hf => ?_⟩
    obtain ⟨hmap, hanswers⟩ := hrest hf
    exact ⟨hmap.trans (grantlessBids_eq _ _), hanswers⟩
  case feed => exact bankShut_feed hk hf ho hq hp hfq hans hout hin hl

end Sys2Proof.Machine

/-! # A pulse resolved: the owner's part

VCU resolves the pulse of a FIRING channel and reports it once. What follows is stated for the node that
VCU leaves: the report, the tests of feed end and feed start, and the test for SOAK. -/

namespace Sys2Proof.Machine

/-! ## The test for SOAK after a report -/

theorem afterReports_own (c : ChanId) (q : PulseResult) (n : Node) :
    afterReports (n, [.own c q]) = soakTest (ownDelivered c q n) := rfl

theorem afterReports_feed (c : ChanId) (q : PulseResult) (n : Node) :
    afterReports (n, [.feed c q]) = soakTest (feedTest (placeReport c q n)) := rfl

theorem soakTest_bank (n : Node) : (soakTest n).rva = n.rva ∧
    (soakTest n).lkc.outbox.fed = n.lkc.outbox.fed :=
  ⟨congrArg (fun m => m.rva) (soakTest_sansCourse n),
    congrArg (fun m => m.lkc.outbox.fed) (soakTest_sansCourse n)⟩

theorem ChanInv.soakTest {P : Node → Prop} (h : ChanInv P) {n : Node} (hp : P n) : P (soakTest n) := by
  unfold Machine.soakTest; split
  · exact h.enterSoak hp
  · exact hp

theorem soakTest_vcu (n : Node) : (soakTest n).vcu.channels = n.vcu.channels ∧
    (soakTest n).vcu.queue = n.vcu.queue := by
  unfold soakTest; split
  · rw [enterSoak_eq]; dsimp only; rw [soakSettled_vcu]; exact ⟨rfl, rfl⟩
  · exact ⟨rfl, rfl⟩

/-! ## A pulse resolved -/

/-- VCU took a FIRING channel `c` out of FIRING as `r`: the other channels, the pulse queue and everything
outside VCU and the flags stay (R74). -/
structure Resolved (c : ChanId) (r : Channel) (n m : Node) : Prop where
  outside : m.sansValve = n.sansValve
  firing : (n.chan c).state = .firing
  chan : m.chan c = r
  others : ∀ d, d ≠ c → m.chan d = n.chan d
  queue : m.vcu.queue = n.vcu.queue
  off : r.state = .spent ∨ r.state = .failed

theorem chansWith_congr {a b : Node} {p : Channel → Bool} (h : ∀ c, p (a.chan c) = p (b.chan c)) :
    a.chansWith p = b.chansWith p := List.filter_congr fun c _ => h c

namespace Resolved

variable {c : ChanId} {r : Channel} {n m : Node}

/-- Neither before nor after is the channel READY. -/
theorem ready_iff (h : Resolved c r n m) (x : Role) (d : ChanId) :
    (decide ((m.chan d).role = x) && decide ((m.chan d).state = .ready)) =
      (decide ((n.chan d).role = x) && decide ((n.chan d).state = .ready)) := by
  by_cases hd : d = c
  · rw [hd, h.chan, h.firing]
    rcases h.off with ho | ho <;> rw [ho] <;> simp
  · rw [h.others d hd]

theorem readyHall (h : Resolved c r n m) : m.readyHall = n.readyHall := chansWith_congr (h.ready_iff .hall)

theorem freeReserve (h : Resolved c r n m) : m.freeReserve = n.freeReserve :=
  chansWith_congr (h.ready_iff .reserve)

theorem hsq (h : Resolved c r n m) : m.hsq = n.hsq := congrArg (fun k => k.hsq) h.outside
theorem apl (h : Resolved c r n m) : m.apl = n.apl := congrArg (fun k => k.apl) h.outside
theorem rva (h : Resolved c r n m) : m.rva = n.rva := congrArg (fun k => k.rva) h.outside
theorem lkc (h : Resolved c r n m) : m.lkc = n.lkc := congrArg (fun k => k.lkc) h.outside
theorem now (h : Resolved c r n m) : m.now = n.now := congrArg (fun k => k.now) h.outside
theorem cfg (h : Resolved c r n m) : m.cfg = n.cfg := congrArg (fun k => k.cfg) h.outside

end Resolved

/-! ## An own group -/

/-- The sequencer's record once an own group is confirmed (R17). -/
def ownListed (c : ChanId) (n : Node) : Hsq :=
  if n.hsq.hall = .discharging then
    { n.hsq with
      firing := n.hsq.firing.map (fun x => if x.1 = c then (c, FireStatus.confirmed) else x),
      elapsed := false, duration := some (n.now + 1000 * n.cfg.duration) }
  else n.hsq

/-- The plan's record once an own group is confirmed (R58, R60). -/
def ownCharged (n : Node) : Apl :=
  if (n.hsq.hall = .discharging ∨ n.hsq.hall = .soak) ∧ n.apl.stage ≠ .none then
    { n.apl with
      m := n.apl.m + n.cfg.mh, ownConfirmed := n.apl.ownConfirmed + 1,
      ca := 10000 * (n.apl.m + n.cfg.mh) * n.apl.s8 /
        (n.cfg.volume * 1000000000 + (n.apl.m + n.cfg.mh) * n.apl.s8) }
  else n.apl

theorem aplTakes_iff {n : Node} : aplTakes n = true ↔
    (n.hsq.hall = .discharging ∨ n.hsq.hall = .soak) ∧ n.apl.stage ≠ .none := by simp [aplTakes]

theorem aplOwnConfirmed_eq (n : Node) : aplOwnConfirmed n = { n with apl := ownCharged n } := by
  unfold aplOwnConfirmed ownCharged
  by_cases h : (n.hsq.hall = .discharging ∨ n.hsq.hall = .soak) ∧ n.apl.stage ≠ .none
  · rw [if_pos h, if_pos (aplTakes_iff.2 h)]; rfl
  · rw [if_neg h, if_neg (fun hx => h (aplTakes_iff.1 hx))]

theorem ownReport_confirmed (c : ChanId) (n : Node) :
    ownReport c .confirmed n = { n with hsq := ownListed c n } := by
  change (if n.hsq.hall = .discharging then _ else _) = _
  unfold ownListed
  by_cases h : n.hsq.hall = .discharging
  · rw [if_pos h, if_pos h]; rfl
  · rw [if_neg h, if_neg h]

theorem ownDelivered_confirmed (c : ChanId) (n : Node) :
    ownDelivered c .confirmed n = { n with hsq := ownListed c n, apl := ownCharged n } := by
  change ownReport c .confirmed (aplOwnConfirmed n) = _
  rw [ownReport_confirmed, aplOwnConfirmed_eq]; rfl

/-- A confirmed own group restarts the discharge duration, so SOAK does not follow it (R17, R19). -/
theorem afterReports_ownConfirmed (c : ChanId) (n : Node) :
    afterReports (n, [.own c .confirmed]) = { n with hsq := ownListed c n, apl := ownCharged n } := by
  rw [afterReports_own, ownDelivered_confirmed]
  refine soakTest_waits fun hx => ?_
  obtain ⟨hh, -, he⟩ := Node.soakDue_iff.1 hx
  revert hh he
  change (ownListed c n).hall = _ → (ownListed c n).elapsed = true → False
  unfold ownListed; split
  · intro _ he; exact Bool.false_ne_true he
  next h => intro hh _; exact h hh

section
variable {e : Instr} {s : State} {c : ChanId} {r : Channel} {m : Node} {f : Node → Node}

theorem Resolved.ownGroupConfirmed (h : Resolved c r s.node m) (hr : s.node.running = true)
    (hc : exec e s = inRun f s) (hf : f s.node = afterReports (m, [.own c .confirmed])) :
    ownGroupConfirmed e s c m := by
  have hlist : ownListed c m = ownListed c s.node := by unfold ownListed; rw [h.hsq, h.now, h.cfg]
  have hcharge : ownCharged m = ownCharged s.node := by unfold ownCharged; rw [h.hsq, h.apl, h.cfg]
  rw [afterReports_ownConfirmed, hlist, hcharge] at hf
  exact endsAs_inRun f hc hr (congrArg Node.bare hf)

end

/-! ## An own group that fails -/

/-- The candidates for a substitute of an own group (R17). -/
def Node.ownSpares (n : Node) : List ChanId := n.readyHall.filter (fun d => d ∉ n.hsq.firing.map Prod.fst)

theorem markOwn_channels (c : ChanId) (q : FireStatus) (n : Node) :
    (markOwn c q n).hsq.firing.map Prod.fst = n.hsq.firing.map Prod.fst := by
  change (n.hsq.firing.map _).map Prod.fst = _
  rw [List.map_map]
  refine List.map_congr_left fun x _ => ?_
  change (if x.1 = c then (c, q) else x).1 = x.1
  split
  next h => exact h.symm
  next => rfl

theorem ownFailed_spares (c : ChanId) (n : Node) : ownFailed c n = seekOwn n.ownSpares (markOwn c .failed n) := by
  unfold ownFailed Node.ownSpares; dsimp only; rw [markOwn_channels]; rfl

theorem Node.mem_ownSpares {n : Node} {d : ChanId} (h : d ∈ n.ownSpares) :
    (n.chan d).role = .hall ∧ (n.chan d).state = .ready := by
  have hd := (List.mem_filter.1 (List.mem_filter.1 h).1).2
  simpa using hd

theorem afterReports_ownFailed_elsewhere (c : ChanId) {n : Node} (h : n.hsq.hall ≠ .discharging) :
    afterReports (n, [.own c .failed]) = n := by
  rw [afterReports_own]
  have he : ownDelivered c .failed n = n := if_neg h
  rw [he, soakTest_of_other h]

theorem afterReports_ownFailed (c : ChanId) {n : Node} (h : n.hsq.hall = .discharging) :
    afterReports (n, [.own c .failed]) = soakTest (seekOwn n.ownSpares (markOwn c .failed n)) := by
  rw [afterReports_own, ← ownFailed_spares]
  exact congrArg soakTest (if_pos h)

/-- The node once the spare channel `d` is requested in the place of the failed one (R17). -/
def spareTaken (c d : ChanId) (n : Node) : Node :=
  let queued := n.setChan d { n.chan d with requester := .hsq, state := .queued }
  let entries := n.hsq.firing.map (fun x => if x.1 = c then (c, FireStatus.failed) else x)
  { queued with
    vcu := { queued.vcu with queue := n.vcu.queue ++ [d] },
    hsq := { n.hsq with firing := entries ++ [(d, FireStatus.pending)] } }

/-- In DISCHARGING the first spare channel is requested, and an entry of it waits. -/
theorem afterReports_ownFailed_spare (c : ChanId) {n : Node} (h : n.hsq.hall = .discharging) {d : ChanId}
    {ds : List ChanId} (hs : n.ownSpares = d :: ds) :
    afterReports (n, [.own c .failed]) = spareTaken c d n := by
  obtain ⟨hrole, hstate⟩ := Node.mem_ownSpares (n := n) (d := d) (by rw [hs]; exact List.mem_cons_self)
  have hreq := requestHall_accepted (n := markOwn c .failed n) hrole hstate h
  rw [afterReports_ownFailed c h, hs, seekOwn, hreq]
  refine soakTest_waits fun hx => ?_
  exact (Node.soakDue_iff.1 hx).2.1.1 (d, .pending) (List.mem_append_right _ (List.mem_singleton.2 rfl)) rfl

theorem afterReports_ownFailed_spent (c : ChanId) {n : Node} (h : n.hsq.hall = .discharging)
    (hs : n.ownSpares = []) : afterReports (n, [.own c .failed]) = soakTest (markOwn c .failed n) := by
  rw [afterReports_ownFailed c h, hs]; rfl

section
variable {e : Instr} {s : State} {c : ChanId} {r : Channel} {m : Node} {f : Node → Node}

theorem Resolved.ownGroupFails (h : Resolved c r s.node m) (hflag : m.flag .groupFailed = true)
    (hr : s.node.running = true) (hc : exec e s = inRun f s)
    (hf : f s.node = afterReports (m, [.own c .failed])) : ownGroupFails e s c m := by
  have hspares : m.ownSpares = s.node.readyHall.filter (fun d => d ∉ s.node.hsq.firing.map Prod.fst) := by
    unfold Node.ownSpares; rw [h.readyHall, h.hsq]
  refine ⟨fun hh => ?elsewhere, fun d rest hh hs => ?spare, fun hh hs => ⟨fun ho => ?waits, fun ho => ?soaks⟩⟩
  all_goals rw [← h.hsq] at hh
  case elsewhere =>
    rw [afterReports_ownFailed_elsewhere c hh] at hf
    exact endsAs_inRun f hc hr (congrArg Node.bare hf)
  case spare =>
    have hd : d ≠ c := by
      rintro rfl
      have hready := (Node.mem_ownSpares (n := m) (by rw [hspares, hs]; exact List.mem_cons_self)).2
      rw [h.chan] at hready
      rcases h.off with ho | ho <;> rw [ho] at hready <;> cases hready
    rw [afterReports_ownFailed_spare c hh (hspares.trans hs), spareTaken, h.others d hd, h.queue, h.hsq] at hf
    exact endsAs_inRun f hc hr (congrArg Node.bare hf)
  case waits =>
    rw [afterReports_ownFailed_spent c hh (hspares.trans hs), soakTest_waits] at hf
    · refine endsAs_inRun f hc hr (congrArg Node.bare (hf.trans ?_))
      rw [← h.hsq]; rfl
    · intro hx
      obtain ⟨-, ⟨hall, hphase⟩, hel⟩ := Node.soakDue_iff.1 hx
      rw [← h.hsq] at ho
      rcases ho with ho | ho | ⟨x, hx, hp⟩
      · exact Bool.false_ne_true (ho.symm.trans hel)
      · exact ho hphase
      · exact hall x hx hp
  case soaks =>
    rw [not_or, not_or, ← h.hsq] at ho
    obtain ⟨hel, hphase, hall⟩ := ho
    have hdue : (markOwn c .failed m).soakDue = true := Node.soakDue_iff.2
      ⟨hh, ⟨fun x hx hp => hall ⟨x, hx, hp⟩, not_not.1 hphase⟩, (Bool.not_eq_false _).mp hel⟩
    rw [afterReports_ownFailed_spent c hh (hspares.trans hs)] at hf
    have hraise := soakTest_raises (markOwn c .failed m) .groupFailed hflag
    have hchan := (soakTest_vcu (markOwn c .failed m)).1
    rw [soakTest_due hdue] at hf hraise hchan
    refine ⟨_, hc.trans (if_pos hr), ?_⟩
    rw [Node.chan, finish_hsq, finish_vcu, hf, hchan, enterSoak_hsq, enterSoak_soak, ← h.hsq, ← h.now, ← h.cfg,
      Node.flag, finish_svp]
    exact ⟨rfl, rfl, rfl, rfl, hraise⟩

end

end Sys2Proof.Machine

/-! # A pulse resolved: what follows for the feed -/

namespace Sys2Proof.Machine

/-! ## The grant walk at an entry -/

/-- What the grant walk makes of an entry, with the grant hold timer's new end (R107). -/
def BidEntry.walkedTo (ends : Time) (x y : BidEntry) : Prop :=
  ∃ k, y = { x with granted := x.granted + k, hold := if 0 < k ∧ x.taken = .no then some ends else x.hold }

theorem walkEntry_walkedTo (e : BidEntry) (n : Node) :
    e.walkedTo (n.now + 1000 * n.cfg.grantHold) (walkEntry e n).1 := ⟨_, rfl⟩

theorem walkList_find {es : List BidEntry} {n : Node} {i : NodeId} {x : BidEntry}
    (h : es.find? (fun e => e.node = i) = some x) :
    ∃ y, (walkList es n).1.find? (fun e => e.node = i) = some y ∧
      x.walkedTo (n.now + 1000 * n.cfg.grantHold) y := by
  induction es generalizing n with
  | nil => cases h
  | cons e es ih =>
    have hnode : (walkEntry e n).1.node = e.node := rfl
    have hlist : (walkList (e :: es) n).1 = (walkEntry e n).1 :: (walkList es (walkEntry e n).2).1 := rfl
    rw [hlist]
    by_cases he : e.node = i
    · rw [List.find?_cons_of_pos (by simpa using he)] at h
      obtain rfl : e = x := Option.some.inj h
      exact ⟨_, List.find?_cons_of_pos (by simpa [hnode] using he), walkEntry_walkedTo e n⟩
    · rw [List.find?_cons_of_neg (by simpa using he)] at h
      rw [List.find?_cons_of_neg (by simpa [hnode] using he)]
      have hb := walkEntry_sansBank e n
      have hnow : (walkEntry e n).2.now = n.now := congrArg (fun m => m.now) hb
      have hcfg : (walkEntry e n).2.cfg = n.cfg := congrArg (fun m => m.cfg) hb
      rw [← hnow, ← hcfg]
      exact ih h

theorem grantWalk_entry {n : Node} {i : NodeId} {x : BidEntry} (h : n.entry i = some x) :
    ∃ y, (grantWalk n).entry i = some y ∧ x.walkedTo (n.now + 1000 * n.cfg.grantHold) y := by
  unfold grantWalk; split
  · exact ⟨x, h, 0, by simp⟩
  · exact walkList_find h

theorem grantWalk_entry_none {n : Node} {i : NodeId} (h : n.entry i = none) : (grantWalk n).entry i = none := by
  rw [Node.entry_none, grantWalk_bidders, ← Node.entry_none]; exact h

theorem commitAll_lkc (i : NodeId) (cs : List ChanId) (k : Nat) (n : Node) :
    (commitAll i cs (k, n)).2.lkc = n.lkc := by
  induction cs generalizing k n with
  | nil => rfl
  | cons c cs ih =>
    unfold commitAll; split
    next m h =>
      refine (ih _ m).trans ?_
      revert h; unfold commit; dsimp only; split <;> rintro ⟨⟩; rfl
    next => exact ih _ n

theorem walkList_lkc (es : List BidEntry) (n : Node) : (walkList es n).2.lkc = n.lkc := by
  induction es generalizing n with
  | nil => rfl
  | cons e es ih => exact (ih _).trans (commitAll_lkc _ _ _ _)

/-- The grant walk leaves RVA's record but the entries, and the link. -/
theorem grantWalk_bank (n : Node) : (grantWalk n).rva.feed = n.rva.feed ∧
    (grantWalk n).rva.feedQueue = n.rva.feedQueue ∧ (grantWalk n).rva.answers = n.rva.answers ∧
    (grantWalk n).lkc = n.lkc := by
  unfold grantWalk; split
  · exact ⟨rfl, rfl, rfl, rfl⟩
  · have hr := walkList_rva n.rva.bids n
    have hl := walkList_lkc n.rva.bids n
    dsimp only
    rw [hr, hl]; exact ⟨rfl, rfl, rfl, rfl⟩

theorem modEntry_entry {i : NodeId} {f : BidEntry → BidEntry} (hf : ∀ e, (f e).node = e.node) (n : Node) :
    (modEntry i f n).entry i = (n.entry i).map f := by
  unfold modEntry Node.entry; dsimp only
  induction n.rva.bids with
  | nil => rfl
  | cons e es ih =>
    by_cases he : e.node = i
    · rw [List.map_cons, List.find?_cons_of_pos (by simp [he, hf]), List.find?_cons_of_pos (by simpa using he),
        if_pos he]; rfl
    · rw [List.map_cons, List.find?_cons_of_neg (by simp [he]), List.find?_cons_of_neg (by simpa using he), ih]

/-! ## The end of a feed, with no WAYOPEN waiting -/

theorem endFeed_eq (f : Feed) (n : Node) : endFeed f n =
    if f.orphaned then feedOff n else grantWalk (addAnswer f.answer (feedEntry f (feedOff n))) := rfl

theorem endFeed_rest (f : Feed) (n : Node) : (endFeed f n).rva.feed = none ∧
    (endFeed f n).rva.feedQueue = n.rva.feedQueue := by
  rw [endFeed_eq]; split
  · exact ⟨rfl, rfl⟩
  · obtain ⟨hf, hq, -⟩ := grantWalk_bank (addAnswer f.answer (feedEntry f (feedOff n)))
    obtain ⟨heq, -, hef, -⟩ := feedEntry_bank f (feedOff n)
    rw [hf, hq, addAnswer_feed, addAnswer_feedQueue, heq, hef]; exact ⟨rfl, rfl⟩

theorem feedRounds_idle {k : Nat} {n : Node} (hf : n.rva.feed = none) (hq : n.rva.feedQueue = []) :
    feedRounds k n = n := by
  cases k with
  | zero => rfl
  | succ k => unfold feedRounds; rw [hf, hq]; exact ite_self n

section
variable {n : Node} {f : Feed}

/-- While a place waits the feed goes on. -/
theorem feedTest_waits (hf : n.rva.feed = some f) (hp : ∃ x ∈ f.places, x.status = .pending) :
    feedTest n = sendAnswer n := by
  have hround : feedRounds (2 * n.rva.feedQueue.length + 2) n = n := by
    unfold feedRounds; rw [hf]; exact if_pos (by simpa using hp)
  unfold feedTest; rw [hround]

/-- With no place and no WAYOPEN waiting the feed ends, and nothing else follows. -/
theorem feedTest_ends (hf : n.rva.feed = some f) (hp : ∀ x ∈ f.places, x.status ≠ .pending)
    (hq : n.rva.feedQueue = []) : feedTest n = sendAnswer (endFeed f n) := by
  obtain ⟨hnone, hqueue⟩ := endFeed_rest f n
  have hround : feedRounds (2 * n.rva.feedQueue.length + 2) n = endFeed f n := by
    unfold feedRounds; rw [hf]
    exact (if_neg (by simpa using hp)).trans (feedRounds_idle hnone (hqueue.trans hq))
  unfold feedTest; rw [hround]

theorem feedTest_orphaned (hf : n.rva.feed = some f) (hp : ∀ x ∈ f.places, x.status ≠ .pending)
    (hq : n.rva.feedQueue = []) (ho : f.orphaned = true) : feedTest n = sendAnswer (feedOff n) := by
  rw [feedTest_ends hf hp hq, endFeed_eq, if_pos ho]

/-- The node of a feed that ended, once its grantee is answered (R118). -/
def feedAnswered (f : Feed) (n : Node) : Node := addAnswer f.answer (feedEntry f (feedOff n))

theorem feedTest_answered (hf : n.rva.feed = some f) (hp : ∀ x ∈ f.places, x.status ≠ .pending)
    (hq : n.rva.feedQueue = []) (ho : f.orphaned = false) :
    feedTest n = sendAnswer (grantWalk (feedAnswered f n)) := by
  rw [feedTest_ends hf hp hq, endFeed_eq, if_neg (by simp [ho])]; rfl

theorem feedAnswered_bank (f : Feed) (n : Node) (ha : n.rva.answers = []) :
    (feedAnswered f n).rva.answers = [f.answer] ∧ (feedAnswered f n).rva.feed = none ∧
      (feedAnswered f n).rva.feedQueue = n.rva.feedQueue ∧ (feedAnswered f n).lkc = n.lkc := by
  obtain ⟨hq, hea, hf, hl⟩ := feedEntry_bank f (feedOff n)
  have hempty : (feedEntry f (feedOff n)).rva.answers = [] := hea.trans ha
  unfold feedAnswered
  rw [addAnswer_answers, addAnswer_feed, addAnswer_feedQueue, addAnswer_lkc, hempty, hq, hf, hl]
  exact ⟨rfl, rfl, rfl, rfl⟩

theorem feedAnswered_entry (f : Feed) (n : Node) (i : NodeId) :
    (feedAnswered f n).entry i = (feedEntry f (feedOff n)).entry i := by
  unfold feedAnswered Node.entry; rw [addAnswer_bids]

theorem feedAnswered_noEntry (h : n.entry f.grantee = none) : (feedAnswered f n).entry f.grantee = none := by
  have he : feedEntry f (feedOff n) = feedOff n := by
    unfold feedEntry; rw [show (feedOff n).entry f.grantee = none from h]
  rw [feedAnswered_entry, he]; exact h

/-- A grantee fully fed leaves the bid queue, with its channels returned. -/
theorem feedAnswered_fed {x : BidEntry} (h : n.entry f.grantee = some x) (hw : x.wanted ≤ x.fed + f.confirmed) :
    (feedAnswered f n).entry f.grantee = none ∧ ∀ c, ¬ (feedAnswered f n).committedAt f.grantee c := by
  have he : feedEntry f (feedOff n) = returnEntry f.grantee (feedOff n) := by
    unfold feedEntry; rw [show (feedOff n).entry f.grantee = some x from h]; exact if_pos hw
  refine ⟨?_, fun c => ?_⟩
  · rw [feedAnswered_entry, he, Node.entry_none]; exact returnEntry_bidders _ _
  · unfold feedAnswered
    rw [he, committedAt_of_channels (congrArg Vcu.channels (addAnswer_vcu _ _))]
    exact returnEntry_committed _ _ c

/-- The entry of a grantee that wants more (R118). -/
def BidEntry.fedOn (now hold confirmed : Nat) (x : BidEntry) : BidEntry :=
  { x with inFeed := 0, fed := x.fed + confirmed, taken := .no,
           hold := if 0 < x.granted then some (now + 1000 * hold) else none }

theorem feedAnswered_fedOn {x : BidEntry} (h : n.entry f.grantee = some x)
    (hw : x.fed + f.confirmed < x.wanted) :
    (feedAnswered f n).entry f.grantee = some (x.fedOn n.now n.cfg.grantHold f.confirmed) := by
  have he : feedEntry f (feedOff n) =
      modEntry f.grantee (BidEntry.fedOn n.now n.cfg.grantHold f.confirmed) (feedOff n) := by
    unfold feedEntry; rw [show (feedOff n).entry f.grantee = some x from h]
    exact if_neg (by omega)
  rw [feedAnswered_entry, he, modEntry_entry (f := BidEntry.fedOn _ _ _) (fun _ => rfl),
    show (feedOff n).entry f.grantee = some x from h]
  rfl

end

/-! ## The event -/

theorem Feed.answer_eq (f : Feed) : f.answer =
    { grantee := f.grantee, confirmed := f.confirmed, failed := f.failed,
      outcome := if f.failed = 0 ∧ f.cancelledSeen = false then .complete
        else if f.cancelledSeen = true ∧ f.confirmed = 0 then .refused else .part } := by
  unfold Feed.answer Feed.outcome; simp only [Bool.not_eq_true']

theorem entry_of_filter {n : Node} {i : NodeId} {x : BidEntry}
    (h : n.rva.bids.filter (fun y => y.node = i) = [x]) : n.entry i = some x := by
  unfold Node.entry; rw [← List.head?_filter, h]; rfl

/-- The entry of a grantee after its feed and the grant walk (R107, R118). -/
theorem walkedTo_fedOn {x y : BidEntry} {now hold confirmed : Nat}
    (h : (x.fedOn now hold confirmed).walkedTo (now + 1000 * hold) y) :
    y.wanted = x.wanted ∧ y.cls = x.cls ∧ y.inFeed = 0 ∧ y.fed = x.fed + confirmed ∧ y.taken = .no ∧
      x.granted ≤ y.granted ∧ y.hold = if 0 < y.granted then some (now + 1000 * hold) else none := by
  obtain ⟨k, rfl⟩ := h
  refine ⟨rfl, rfl, rfl, rfl, rfl, Nat.le_add_right _ _, ?_⟩
  change (if 0 < k ∧ FeedTaken.no = .no then _ else if 0 < x.granted then _ else none) =
    if 0 < x.granted + k then _ else _
  by_cases hk : 0 < k
  · rw [if_pos ⟨hk, rfl⟩, if_pos (by omega)]
  · rw [if_neg (fun hx => hk hx.1)]
    obtain rfl : k = 0 := by omega
    rfl

section
variable {k : Node} {g : Feed}

/-- The node once the feed is answered and its FED handed over. -/
theorem feedTest_hands (hf : k.rva.feed = some g) (hp : ∀ x ∈ g.places, x.status ≠ .pending)
    (hq : k.rva.feedQueue = []) (ho : g.orphaned = false) (ha : k.rva.answers = [])
    (hfed : k.lkc.outbox.fed = none) (hin : k.lkc.inFlight = none) (hl : k.lkc.link ≠ .lost) :
    (feedTest k).rva = (grantWalk (feedAnswered g k)).rva ∧
      (feedTest k).vcu = (grantWalk (feedAnswered g k)).vcu ∧ (feedTest k).rva.feed = none ∧
      (feedTest k).rva.feedQueue = [] ∧ (feedTest k).rva.answers = [g.answer] ∧
      (feedTest k).lkc.outbox.fed = some g.answer := by
  obtain ⟨hwf, hwq, hwa, hwl⟩ := grantWalk_bank (feedAnswered g k)
  obtain ⟨haa, haf, haq, hal⟩ := feedAnswered_bank g k ha
  rw [feedTest_answered hf hp hq ho, sendAnswer_rva, sendAnswer_vcu]
  refine ⟨rfl, rfl, hwf.trans haf, hwq.trans (haq.trans hq), hwa.trans haa, ?_⟩
  have hlkc : (grantWalk (feedAnswered g k)).lkc = k.lkc := hwl.trans hal
  rw [sendAnswer_fed (by rw [hlkc]; exact hfed) (by rw [hlkc]; exact hin) (by rw [hlkc]; exact hl), hwa, haa]
  rfl

/-- Nothing of a node fully fed is left after the walk. -/
theorem grantWalk_feedAnswered_fed {x : BidEntry} (h : k.entry g.grantee = some x)
    (hw : x.wanted ≤ x.fed + g.confirmed) : (grantWalk (feedAnswered g k)).entry g.grantee = none ∧
      (grantWalk (feedAnswered g k)).committedTo g.grantee = [] := by
  obtain ⟨hnone, hchan⟩ := feedAnswered_fed h hw
  refine ⟨grantWalk_entry_none hnone, Node.committedTo_nil fun c hc => ?_⟩
  rcases grantWalk_committed hc with hc | hc
  · exact hchan c hc
  · exact Node.entry_none.1 hnone hc

theorem grantWalk_feedAnswered_fedOn {x : BidEntry} (h : k.entry g.grantee = some x)
    (hw : x.fed + g.confirmed < x.wanted) : ∃ y, (grantWalk (feedAnswered g k)).entry g.grantee = some y ∧
      (x.fedOn k.now k.cfg.grantHold g.confirmed).walkedTo (k.now + 1000 * k.cfg.grantHold) y := by
  have hb : (feedAnswered g k).sansBank = k.sansBank := by
    unfold feedAnswered; rw [addAnswer_sansBank, feedEntry_sansBank]; rfl
  have hnow : (feedAnswered g k).now = k.now := congrArg (fun m => m.now) hb
  have hcfg : (feedAnswered g k).cfg = k.cfg := congrArg (fun m => m.cfg) hb
  have hwalk := grantWalk_entry (feedAnswered_fedOn h hw)
  rw [hnow, hcfg] at hwalk
  exact hwalk

end

section
variable {e : Instr} {s : State} {f : Node → Node} {k : Node} {g : Feed} {p : Node → Prop}

/-- What follows a place resolved: `k` is the node with the report taken, `g` the feed in it. -/
theorem feedFollows_of (hr : s.node.running = true) (hc : exec e s = inRun f s)
    (hf : f s.node = soakTest (feedTest k))
    (hk : k.sansValve = Node.sansValve { s.node with rva.feed := some g })
    (hp : p (finish s.node (f s.node))) : feedFollows e s g p := by
  have hrva : k.rva = { s.node.rva with feed := some g } := congrArg (fun m => m.rva) hk
  have hlkc : k.lkc = s.node.lkc := congrArg (fun m => m.lkc) hk
  have hnow : k.now = s.node.now := congrArg (fun m => m.now) hk
  have hcfg : k.cfg = s.node.cfg := congrArg (fun m => m.cfg) hk
  have hfeed : k.rva.feed = some g := by rw [hrva]
  have hentry : ∀ i, k.entry i = s.node.entry i := fun i => by unfold Node.entry; rw [hrva]
  have hstill : k.still = s.node.still := (congrArg Node.still hk :)
  have hframe : (f s.node).frame = s.node.frame := by
    rw [hf]; exact frame_of_still (by rw [soakTest_still, feedTest_still, hstill])
  have hu : (finish s.node (f s.node)).rva = (feedTest k).rva := by
    rw [finish_rva, hf, (soakTest_bank _).1]
  have hufed : (finish s.node (f s.node)).lkc.outbox.fed = (feedTest k).lkc.outbox.fed := by
    rw [finish_fed, hf, (soakTest_bank _).2]
  have huchan : (finish s.node (f s.node)).vcu.channels = (feedTest k).vcu.channels := by
    rw [finish_vcu, hf, (soakTest_vcu _).1]
  refine ⟨fun hx => ?goes, fun hx hq => ⟨fun ho => ?orphan, fun ho ha hfed hin hl => ?answers⟩⟩
  case goes =>
    refine endsIn_inRun f hc hr hframe ⟨?_, hp⟩
    rw [hu, feedTest_waits hfeed hx, sendAnswer_rva, hrva]
  case orphan =>
    refine endsIn_inRun f hc hr hframe ⟨?_, hp⟩
    rw [hu, feedTest_orphaned hfeed hx (by rw [hrva]; exact hq) ho, sendAnswer_rva, feedOff, hrva]
  case answers =>
    obtain ⟨htr, htv, htf, htq, hta, hto⟩ := feedTest_hands hfeed hx (by rw [hrva]; exact hq) ho
      (by rw [hrva]; exact ha) (by rw [hlkc]; exact hfed) (by rw [hlkc]; exact hin) (by rw [hlkc]; exact hl)
    have hue : ∀ i, (finish s.node (f s.node)).entry i = (grantWalk (feedAnswered g k)).entry i :=
      entry_of_rva (hu.trans htr)
    have huc : ∀ i, (finish s.node (f s.node)).committedTo i = (grantWalk (feedAnswered g k)).committedTo i :=
      fun i => by unfold Node.committedTo Node.chansWith Node.chan; rw [huchan, htv]
    rw [Feed.answer_eq] at hta hto
    refine endsIn_inRun f hc hr hframe ⟨hp, by rw [hu]; exact htf, by rw [hu]; exact htq, by rw [hu]; exact hta,
      hufed.trans hto, fun hn => ?_, fun x hx => ⟨fun hw => ?_, fun hw => ?_⟩⟩
    · rw [hue]; exact grantWalk_entry_none (feedAnswered_noEntry ((hentry _).trans hn))
    · rw [hue, huc]
      exact grantWalk_feedAnswered_fed ((hentry _).trans (entry_of_filter hx)) hw
    · obtain ⟨y, hy, hwalk⟩ := grantWalk_feedAnswered_fedOn (g := g) ((hentry _).trans (entry_of_filter hx)) hw
      rw [hnow, hcfg] at hwalk
      exact ⟨y, (hue _).trans hy, walkedTo_fedOn hwalk⟩

end

end Sys2Proof.Machine

/-! # A pulse resolved: the place of a feed -/

namespace Sys2Proof.Machine

/-! ## A channel out of use -/

/-- The channel is `r`; where it still waits in the pulse queue, `q` allows it. -/
def Node.holds (c : ChanId) (r : Channel) (q : Prop) (n : Node) : Prop :=
  n.chan c = r ∧ (c ∈ n.vcu.queue → q)

section
variable {c : ChanId} {r : Channel} {q : Prop} {n m : Node}

theorem Node.holds_setChan (h : n.holds c r q) {d : ChanId} (hd : d ≠ c) (x : Channel) :
    (n.setChan d x).holds c r q := ⟨(Node.chan_setChan_other n d c x hd.symm).trans h.1, h.2⟩

theorem Node.holds_enqueue (h : n.holds c r q) {d : ChanId} (hd : d ≠ c) (x : Channel) :
    (enqueue d x n).holds c r q := by
  refine ⟨(enqueue_chan_other x n hd.symm).trans h.1, fun hc => ?_⟩
  rcases List.mem_append.1 (show c ∈ n.vcu.queue ++ [d] from hc) with hx | hx
  · exact h.2 hx
  · exact absurd (List.mem_singleton.1 hx).symm hd

/-- A channel in another state than the one held is another channel. -/
theorem Node.ne_of_holds (h : n.holds c r q) {d : ChanId} {x : ChanState} (hd : (n.chan d).state = x)
    (hx : r.state ≠ x) : d ≠ c := by
  rintro rfl
  rw [h.1] at hd
  exact hx hd

end

/-- The channel is in none of the states that a request of R68 to R70 starts from. -/
theorem requestless {r : Channel} (hr : r.state = .low ∨ r.state = .spent ∨ r.state = .failed) :
    r.state ≠ .ready ∧ r.state ≠ .committed ∧ r.state ≠ .queued := by
  rcases hr with hr | hr | hr <;> simp [hr]

/-- RVA and the sequencer leave a channel that is LOW, SPENT or FAILED (R68 to R70). -/
theorem chanInv_holds (c : ChanId) {r : Channel} (q : Prop)
    (hr : r.state = .low ∨ r.state = .spent ∨ r.state = .failed) : ChanInv (Node.holds c r q) where
  congr he h := by
    unfold Node.holds Node.chan at h ⊢
    rw [he.1, he.2.1]; exact h
  commit hm h := by
    revert hm; unfold Machine.commit; dsimp only; split <;> rintro ⟨⟩
    next hx => exact Node.holds_setChan h (Node.ne_of_holds h hx.2 (requestless hr).1) _
  uncommit h := by
    unfold Machine.uncommit; dsimp only; split
    next hx => exact Node.holds_setChan h (Node.ne_of_holds h hx (requestless hr).2.1) _
    next => exact h
  requestCommitted _ hm h := by
    revert hm; unfold Machine.requestCommitted; dsimp only; split <;> rintro ⟨⟩
    next hx => exact Node.holds_enqueue h (Node.ne_of_holds h hx.2.1 (requestless hr).2.1) _
  requestSubstitute hm h := by
    revert hm; unfold Machine.requestSubstitute; dsimp only; split <;> rintro ⟨⟩
    next hx => exact Node.holds_enqueue h (Node.ne_of_holds h hx.2 (requestless hr).1) _
  requestHall hm h := by
    revert hm; unfold Machine.requestHall; dsimp only; split <;> rintro ⟨⟩
    next hx => exact Node.holds_enqueue h (Node.ne_of_holds h hx.2.1 (requestless hr).1) _
  cancelHall hm h := by
    revert hm; unfold Machine.cancelHall; dsimp only; split <;> rintro ⟨⟩
    next hx =>
      have hd := Node.ne_of_holds h hx.2.1 (requestless hr).2.2
      exact ⟨(Node.holds_setChan h hd _).1, fun hc => h.2 (List.mem_filter.1 hc).1⟩

/-! ## The report taken -/

/-- The places of a feed once those that wait on `c` are changed by `u`. -/
def Feed.placesAt (c : ChanId) (u : Place → Place) (f : Feed) : List Place :=
  f.places.map (fun x => if x.channel = c ∧ x.status = .pending then u x else x)

theorem Feed.placesAt_eq (c : ChanId) (u : Place → Place) (f : Feed) :
    f.places.map (fun x => if x.awaits c then u x else x) = f.placesAt c u :=
  List.map_congr_left fun _ _ => if_congr Place.awaits_iff rfl rfl

theorem setPlace_eq (c : ChanId) (q : PlaceStatus) (f : Feed) :
    setPlace c q f = { f with places := f.placesAt c (fun x => { x with status := q }) } := by
  unfold setPlace; rw [Feed.placesAt_eq]

theorem movePlace_eq (c d : ChanId) (f : Feed) : movePlace c d f =
    { f with places := f.placesAt c (fun x => { x with channel := d }), used := f.used ++ [d] } := by
  unfold movePlace; rw [Feed.placesAt_eq]

/-- The feed waits on the channel. -/
def Feed.awaits (f : Feed) (c : ChanId) : Prop := ∃ x ∈ f.places, x.channel = c ∧ x.status = .pending

theorem Feed.awaits_iff {f : Feed} {c : ChanId} : f.places.any (·.awaits c) = true ↔ f.awaits c := by
  simp only [List.any_eq_true, Place.awaits_iff]; rfl

/-- A pending place moved to another channel still waits. -/
theorem Feed.moved_pending {f : Feed} {c : ChanId} (h : f.awaits c) (d : ChanId) :
    ∃ x ∈ f.placesAt c (fun x => { x with channel := d }), x.status = .pending := by
  obtain ⟨x, hx, hxc⟩ := h
  exact ⟨{ x with channel := d }, List.mem_map.2 ⟨x, hx, if_pos hxc⟩, hxc.2⟩

section
variable {c : ChanId} {n m : Node} {f : Feed}

theorem placeReport_confirmed (hf : n.rva.feed = some f) (ha : f.awaits c) : placeReport c .confirmed n =
    { n with rva.feed := some { f with
      confirmed := f.confirmed + 1, places := f.placesAt c (fun x => { x with status := .confirmed }) } } := by
  unfold placeReport; rw [hf]; dsimp only
  rw [if_pos (Feed.awaits_iff.2 ha), setPlace_eq]; rfl

/-- The candidates for a substitute in the feed (R117). -/
def Node.feedSpares (n : Node) (f : Feed) : List ChanId := n.freeReserve.filter (fun d => d ∉ f.used)

theorem Node.mem_feedSpares {d : ChanId} (h : d ∈ n.feedSpares f) :
    (n.chan d).role = .reserve ∧ (n.chan d).state = .ready := by
  have hd := (List.mem_filter.1 (List.mem_filter.1 h).1).2
  simpa using hd

theorem placeReport_failed (hf : n.rva.feed = some f) (ha : f.awaits c) : placeReport c .failed n =
    seekSubstitute c (n.feedSpares f) { f with failed := f.failed + 1 } n := by
  unfold placeReport; rw [hf]; exact if_pos (Feed.awaits_iff.2 ha)

/-- The node once the spare channel `d` is requested for the place that `c` held (R117). -/
def placeMoved (c d : ChanId) (f : Feed) (n : Node) : Node :=
  { enqueue d { n.chan d with requester := .rva, feedGrantee := some f.grantee,
                              committedTo := some f.grantee } n with
    rva.feed := some { f with
      failed := f.failed + 1, places := f.placesAt c (fun x => { x with channel := d }),
      used := f.used ++ [d] } }

theorem placeReport_failed_spare (hf : n.rva.feed = some f) (ha : f.awaits c) {d : ChanId} {ds : List ChanId}
    (hs : n.feedSpares f = d :: ds) : placeReport c .failed n = placeMoved c d f n := by
  have hreq : requestSubstitute d f.grantee n = some (enqueue d { n.chan d with
      requester := .rva, feedGrantee := some f.grantee, committedTo := some f.grantee } n) :=
    if_pos (Node.mem_feedSpares (f := f) (by rw [hs]; exact List.mem_cons_self))
  rw [placeReport_failed hf ha, hs, seekSubstitute, hreq, movePlace_eq]; rfl

theorem placeReport_failed_spent (hf : n.rva.feed = some f) (ha : f.awaits c) (hs : n.feedSpares f = []) :
    placeReport c .failed n = { n with rva.feed := some { f with
      failed := f.failed + 1, places := f.placesAt c (fun x => { x with status := .failed }) } } := by
  rw [placeReport_failed hf ha, hs, seekSubstitute, setPlace_eq]; rfl

end

end Sys2Proof.Machine

/-! # A pulse resolved: the event for a place -/

namespace Sys2Proof.Machine

theorem feedTest_raises (n : Node) : n.raisedIn (feedTest n) :=
  Node.raisedIn_of_svp (congrArg (fun m => m.svp) (feedTest_sansBank n))

/-- A flag set before the tests stands at the end of the event. -/
theorem flag_afterFeed {b n : Node} {x : Flag} (h : n.flag x = true) :
    (finish b (soakTest (feedTest n))).flag x = true := by
  rw [Node.flag, finish_svp]
  exact Node.raisedIn_trans (feedTest_raises n) (soakTest_raises (feedTest n)) x h

/-- A channel out of use is as it was at the end of the event. -/
theorem chan_afterFeed {b n : Node} {c : ChanId} {r : Channel} (h : n.chan c = r)
    (hr : r.state = .low ∨ r.state = .spent ∨ r.state = .failed) :
    (finish b (soakTest (feedTest n))).chan c = r := by
  have hinv := chanInv_holds c True hr
  rw [Node.chan, finish_vcu]
  exact (hinv.soakTest (hinv.feedTest ⟨h, fun _ => trivial⟩)).1

/-- While a place waits, the tests leave the channels and the queue. -/
theorem vcu_afterWait {b n : Node} {f : Feed} (hf : n.rva.feed = some f)
    (hp : ∃ x ∈ f.places, x.status = .pending) :
    (finish b (soakTest (feedTest n))).vcu.channels = n.vcu.channels ∧
      (finish b (soakTest (feedTest n))).vcu.queue = n.vcu.queue := by
  obtain ⟨hc, hq⟩ := soakTest_vcu (feedTest n)
  rw [feedTest_waits hf hp, sendAnswer_vcu] at hc hq
  rw [finish_vcu, feedTest_waits hf hp]
  exact ⟨hc, hq⟩

theorem sansValve_feed {a b : Node} (h : a.sansValve = b.sansValve) (x : Option Feed) :
    Node.sansValve { a with rva.feed := x } = Node.sansValve { b with rva.feed := x } := by
  change ({ a.sansValve with rva.feed := x } : Node) = { b.sansValve with rva.feed := x }; rw [h]

section
variable {e : Instr} {s : State} {c : ChanId} {r : Channel} {m : Node} {f : Node → Node}

theorem Resolved.placeConfirmed (h : Resolved c r s.node m) (hr : s.node.running = true)
    (hc : exec e s = inRun f s) (hf : f s.node = afterReports (m, [.feed c .confirmed])) :
    placeConfirmed e s c r := by
  intro g hg ha
  rw [afterReports_feed, placeReport_confirmed (by rw [h.rva]; exact hg) ha] at hf
  refine feedFollows_of hr hc hf (sansValve_feed h.outside _) ?_
  rw [hf]
  exact chan_afterFeed h.chan (.inr h.off)

theorem Resolved.placeFails (h : Resolved c r s.node m) (hflag : m.flag .groupFailed = true)
    (hr : s.node.running = true) (hc : exec e s = inRun f s)
    (hf : f s.node = afterReports (m, [.feed c .failed])) : placeFails e s c r := by
  intro g hg ha
  have hspares : m.feedSpares g = s.node.freeReserve.filter (fun d => d ∉ g.used) := by
    unfold Node.feedSpares; rw [h.freeReserve]
  have hmg : m.rva.feed = some g := by rw [h.rva]; exact hg
  rw [afterReports_feed] at hf
  refine ⟨fun d rest hs => ?spare, fun hs => ?spent⟩
  case spare =>
    have hd : d ≠ c := by
      rintro rfl
      have hready := (Node.mem_feedSpares (n := m) (f := g) (by rw [hspares, hs]; exact List.mem_cons_self)).2
      rw [h.chan] at hready
      rcases h.off with ho | ho <;> rw [ho] at hready <;> cases hready
    rw [placeReport_failed_spare hmg ha (hspares.trans hs)] at hf
    have hp := Feed.moved_pending ha d
    refine (feedFollows_of hr hc hf (sansValve_feed h.outside _) ?_).1 hp
    rw [hf]
    obtain ⟨hchan, hqueue⟩ := vcu_afterWait (b := s.node) (n := placeMoved c d g m) rfl hp
    have hread : ∀ x, (finish s.node (soakTest (feedTest (placeMoved c d g m)))).chan x =
        (placeMoved c d g m).chan x := fun x => by unfold Node.chan; rw [hchan]
    refine ⟨?_, flag_afterFeed hflag, ?_, ?_⟩
    · rw [hread]; exact (enqueue_chan_other _ m hd.symm).trans h.chan
    · rw [hqueue, ← h.queue]; rfl
    · rw [hread, ← h.others d hd]; exact enqueue_chan_same d _ m
  case spent =>
    rw [placeReport_failed_spent hmg ha (hspares.trans hs)] at hf
    refine feedFollows_of hr hc hf (sansValve_feed h.outside _) ?_
    rw [hf]
    exact ⟨chan_afterFeed h.chan (.inr h.off), flag_afterFeed hflag⟩

end

end Sys2Proof.Machine

/-! # The end of a pulse and of a confirm window (O19, O20) -/

namespace Sys2Proof.Machine

theorem Node.setChan_setChan (n : Node) (c : ChanId) (x y : Channel) :
    (n.setChan c x).setChan c y = n.setChan c y := by
  have hv : (n.vcu.channels.set c x).set c y = n.vcu.channels.set c y := by simp
  unfold Node.setChan; dsimp only; rw [hv]

/-! ## A FIRING channel by its condition -/

section
variable {c : ChanId} {n : Node}

theorem Node.outputDead_iff : n.outputDead c = true ↔ n.vcu.outputOn ≠ some c ∧ (n.chan c).currentSince = none := by
  simp [Node.outputDead]

theorem resolveFiring_other (h : (n.chan c).state ≠ .firing) : resolveFiring c n = (n, []) := if_pos h

section
variable (hs : (n.chan c).state = .firing) (hd : (n.chan c).driveCut = false)
include hs hd

theorem resolveFiring_on (ho : ¬ n.outputDead c = true) : resolveFiring c n = (n, []) := by
  unfold resolveFiring; simp [hs, hd, ho]

theorem resolveFiring_flowing (ho : n.outputDead c = true) (hf : (n.chan c).flowSeen = true) :
    resolveFiring c n = (n.setChan c ((n.chan c).leave .spent),
      pulseReport c (n.chan c).requester .confirmed) := by
  unfold resolveFiring; simp [hs, hd, ho, hf]

theorem resolveFiring_waiting (hf : (n.chan c).flowSeen = false) (hw : (n.chan c).window.isSome = true) :
    resolveFiring c n = (n, []) := by
  unfold resolveFiring; simp [hs, hd, hf, Option.isSome_iff_ne_none.1 hw]

theorem resolveFiring_dry (ho : n.outputDead c = true) (hf : (n.chan c).flowSeen = false)
    (hw : (n.chan c).window = none) : resolveFiring c n =
      ((n.setChan c ((n.chan c).leave .failed)).setFlag .groupFailed,
        pulseReport c (n.chan c).requester .failed) := by
  unfold resolveFiring; simp [hs, hd, ho, hf, hw]

end

/-- A FIRING channel set to SPENT or FAILED is resolved. -/
theorem Resolved.of_setChan {m : Node} {r : Channel} (hout : m.sansValve = n.sansValve)
    (hq : m.vcu.queue = n.vcu.queue) (hother : ∀ d, d ≠ c → m.chan d = n.chan d)
    (hs : (n.chan c).state = .firing) (hr : r.state = .spent ∨ r.state = .failed) :
    Resolved c r n (m.setChan c r) :=
  ⟨hout, hs, Node.chan_setChan_same m c r,
    fun d hd => (Node.chan_setChan_other m c d r hd).trans (hother d hd), hq, hr⟩

theorem Resolved.setFlag {m : Node} {r : Channel} (h : Resolved c r n m) (x : Flag) :
    Resolved c r n (m.setFlag x) := ⟨h.outside, h.firing, h.chan, h.others, h.queue, h.off⟩

end

/-! ## The end of the pulse length -/

/-- The node with no output commanded (R74). -/
def commandOff (n : Node) : Node := { n with vcu := { n.vcu with outputOn := none, pulseEnd := none } }

theorem pulseOver_due {n : Node} {ends : Time} (h : n.vcu.pulseEnd = some ends) (hle : ends ≤ n.now) :
    pulseOver n = afterReports (endPulse n) := if_pos (by simp [due, h, hle])

theorem endPulse_on {n : Node} {c : ChanId} (h : n.vcu.outputOn = some c) :
    endPulse n = resolveFiring c (outputOff n) := by unfold endPulse; rw [h]

theorem outputOff_on {n : Node} {c : ChanId} (h : n.vcu.outputOn = some c)
    (hself : (n.chan c).selfDriven = false) :
    outputOff n = (commandOff n).setChan c { n.chan c with currentSince := none } := by
  unfold outputOff; rw [h]
  refine congrArg ((commandOff n).setChan c) (if_neg ?_)
  exact Bool.not_eq_true _ |>.mpr hself

/-- Settles O19: the output is off, and the FIRING channel goes by its flow and its window. -/
theorem pulseEndConfirmsAnOwnGroup : Obligations.PulseEndConfirmsAnOwnGroup := by
  intro s c ends hr hends hle hon n r off left e hfire hcut hself
  have hoff := outputOff_on hon hself
  have hchan : (outputOff n).chan c = { r with currentSince := none } := by
    rw [hoff, Node.chan_setChan_same]
  have hdead : (outputOff n).outputDead c = true := by
    rw [Node.outputDead_iff, hchan, hoff]; exact ⟨Option.some_ne_none c |>.symm, rfl⟩
  have hs : ((outputOff n).chan c).state = .firing := by rw [hchan]; exact hfire
  have hd : ((outputOff n).chan c).driveCut = false := by rw [hchan]; exact hcut
  have hover : pulseOver n = afterReports (resolveFiring c (outputOff n)) := by
    rw [pulseOver_due hends hle, endPulse_on hon]
  have hset : ∀ st, (outputOff n).setChan c (((outputOff n).chan c).leave st) = off.setChan c (left st) := fun st => by
    rw [hchan, hoff, Node.setChan_setChan]; rfl
  have hres : ∀ st, st = .spent ∨ st = .failed → Resolved c (left st) n (off.setChan c (left st)) := fun st hst =>
    .of_setChan rfl rfl (fun _ _ => rfl) hfire hst
  have hreq : ((outputOff n).chan c).requester = r.requester := by rw [hchan]
  have hspent : r.flowSeen = true → ∀ q, r.requester = q →
      pulseOver n = afterReports (off.setChan c (left .spent), pulseReport c q .confirmed) := fun hf q hq => by
    rw [hover, resolveFiring_flowing hs hd hdead (by rw [hchan]; exact hf), hset, hreq, hq]
  have hfailed : r.flowSeen = false → r.window = none → ∀ q, r.requester = q → pulseOver n =
      afterReports ((off.setChan c (left .failed)).setFlag .groupFailed, pulseReport c q .failed) := fun hf hw q hq => by
    rw [hover, resolveFiring_dry hs hd hdead (by rw [hchan]; exact hf) (by rw [hchan]; exact hw), hset, hreq, hq]
  refine ⟨fun hf hw => ?waits, fun hf hq => ?own, fun hf hq => ?feed, fun hf hw hq => ?ownFails,
    fun hf hw hq => ?placeFails⟩
  case waits =>
    refine endsAs_inRun pulseOver rfl hr (congrArg Node.bare ?_)
    rw [show s.node = n from rfl, hover,
      resolveFiring_waiting hs hd (by rw [hchan]; exact hf) (by rw [hchan]; exact hw)]
    exact hoff
  case own => exact (hres .spent (.inl rfl)).ownGroupConfirmed hr rfl (hspent hf .hsq hq)
  case feed => exact (hres .spent (.inl rfl)).placeConfirmed hr rfl (hspent hf .rva hq)
  case ownFails =>
    exact ((hres .failed (.inr rfl)).setFlag _).ownGroupFails (Node.flag_setFlag_same _ _) hr rfl
      (hfailed hf hw .hsq hq)
  case placeFails =>
    exact ((hres .failed (.inr rfl)).setFlag _).placeFails (Node.flag_setFlag_same _ _) hr rfl
      (hfailed hf hw .rva hq)

/-! ## The end of a confirm window -/

theorem windowOver_due {n : Node} {c : ChanId} {ends : Time} (h : (n.chan c).window = some ends)
    (hle : ends ≤ n.now) : windowOver c n = afterReports (endWindow c n) := if_pos (by simp [due, h, hle])

/-- Settles O20: the window is stopped, and a dead output without flow fails its group. -/
theorem windowEndFailsAGroupAndSubstitutes : Obligations.WindowEndFailsAGroupAndSubstitutes := by
  intro s c ends hr hends hle n r m failed dead e
  have hover : windowOver c n = afterReports (resolveFiring c m) := windowOver_due hends hle
  have hchan : m.chan c = { r with window := none } := Node.chan_setChan_same n c _
  have hdead : m.outputDead c = true ↔ dead := by rw [Node.outputDead_iff, hchan]; exact Iff.rfl
  refine ⟨fun hx => ?stops, fun hfire hcut hd hflow => ?fails⟩
  case stops =>
    refine endsAs_inRun (windowOver c) rfl hr (congrArg Node.bare ?_)
    have hnone : resolveFiring c m = (m, []) := by
      by_cases hs : (m.chan c).state = .firing
      · have hrs : r.state = .firing := by rw [hchan] at hs; exact hs
        rcases hx with hx | ⟨hcut, hx⟩
        · exact absurd hrs hx
        · exact resolveFiring_on hs (by rw [hchan]; exact hcut) (fun h => hx (hdead.1 h))
      · exact resolveFiring_other hs
    rw [show s.node = n from rfl, hover, hnone]; rfl
  case fails =>
    have hdry := resolveFiring_dry (c := c) (n := m) (by rw [hchan]; exact hfire) (by rw [hchan]; exact hcut)
      (hdead.2 hd) (by rw [hchan]; exact hflow) (by rw [hchan])
    have hset : m.setChan c ((m.chan c).leave .failed) = n.setChan c failed := by
      rw [hchan, Node.setChan_setChan]; rfl
    have hreq : (m.chan c).requester = r.requester := by rw [hchan]
    rw [hset, hreq] at hdry
    have hres : Resolved c failed n ((n.setChan c failed).setFlag .groupFailed) :=
      (Resolved.of_setChan rfl rfl (fun _ _ => rfl) hfire (.inr rfl)).setFlag _
    refine ⟨fun hq => ?_, fun hq => ?_⟩
    · exact hres.ownGroupFails (Node.flag_setFlag_same _ _) hr rfl (by rw [show s.node = n from rfl, hover, hdry, hq]; rfl)
    · exact hres.placeFails (Node.flag_setFlag_same _ _) hr rfl (by rw [show s.node = n from rfl, hover, hdry, hq]; rfl)

end Sys2Proof.Machine

/-! # A cylinder pressure read (O17) -/

namespace Sys2Proof.Machine

/-! ## The read by its class -/

/-- The channel with the reading stored (R65). -/
def Channel.stored (now : Time) (reading : Nat) (r : Channel) : Channel :=
  { r with pressure := min reading 150, readAt := now + 100 }

/-- The node with the reading stored. -/
def readStored (c : ChanId) (reading : Nat) (n : Node) : Node :=
  n.setChan c ((n.chan c).stored n.now reading)

section
variable {c : ChanId} {n : Node} {p : Nat}

theorem readStored_chan (c : ChanId) (p : Nat) (n : Node) :
    (readStored c p n).chan c = (n.chan c).stored n.now p := Node.chan_setChan_same n c _

theorem readStored_set (c : ChanId) (p : Nat) (r : Channel) (n : Node) :
    (readStored c p n).setChan c r = n.setChan c r := Node.setChan_setChan n c _ r

theorem cylinderRead_unused (h : (n.chan c).role = .unused) : cylinderRead c p n = (readStored c p n, []) :=
  if_pos (by change ((readStored c p n).chan c).role = .unused; rw [readStored_chan]; exact h)

theorem cylinderRead_used (h : (n.chan c).role ≠ .unused) : cylinderRead c p n =
    classifyRead c (pressureClass n.cfg.fullThreshold (min p 150)) (readStored c p n) :=
  if_neg (by change ((readStored c p n).chan c).role ≠ .unused; rw [readStored_chan]; exact h)

theorem pressureClass_fit {full p : Nat} (h : full ≤ p) : pressureClass full p = .fit := if_pos h

/-- The state that a read below the full threshold gives (R66). -/
theorem pressureClass_down {full p : Nat} (h : ¬ full ≤ p) : pressureClass full p ≠ .fit ∧
    (pressureClass full p).downState = if 10 ≤ p then ChanState.low else .spent := by
  unfold pressureClass; rw [if_neg h]
  by_cases hp : 10 ≤ p
  · rw [if_pos hp, if_pos (show Config.emptyThreshold ≤ p from hp)]; exact ⟨by simp, rfl⟩
  · rw [if_neg hp, if_neg (show ¬ Config.emptyThreshold ≤ p from hp)]; exact ⟨by simp, rfl⟩

end

section
variable {c : ChanId} {n : Node} {x : PressureClass}

theorem Node.setChan_self (n : Node) (c : ChanId) : n.setChan c (n.chan c) = n := by
  have hv : n.vcu.channels.set c (n.vcu.channels.get c) = n.vcu.channels := by simp [vget]
  unfold Node.setChan Node.chan; rw [hv]

theorem classifyRead_final (h : (n.chan c).state = .spent ∨ (n.chan c).state = .failed) :
    classifyRead c x n = (n, []) := by
  unfold classifyRead; dsimp only
  rcases h with h | h <;> rw [h]

theorem classifyRead_fit (h : (n.chan c).state = .ready ∨ (n.chan c).state = .isolated ∨
    (n.chan c).state = .committed ∨ (n.chan c).state = .queued) : classifyRead c .fit n = (n, []) := by
  unfold classifyRead; dsimp only
  rcases h with h | h | h | h <;> rw [h]

theorem classifyRead_drops (hx : x ≠ .fit) (h : (n.chan c).state = .ready ∨ (n.chan c).state = .isolated) :
    classifyRead c x n = ((n.setChan c { n.chan c with state := x.downState }).setFlag .cylLow, []) := by
  unfold classifyRead; dsimp only
  cases x
  case fit => exact absurd rfl hx
  all_goals rcases h with h | h <;> rw [h]

theorem classifyRead_low (hx : x ≠ .fit) (h : (n.chan c).state = .low) :
    classifyRead c x n = (n.setChan c { n.chan c with state := x.downState }, []) := by
  unfold classifyRead; dsimp only
  cases x
  case fit => exact absurd rfl hx
  case low =>
    have hself : ({ n.chan c with state := PressureClass.low.downState } : Channel) = n.chan c := by
      rw [show PressureClass.low.downState = (n.chan c).state from h.symm]
    rw [hself, Node.setChan_self, h]
  case empty => rw [h]; rfl

/-- A LOW channel that is full again (R66, R67). -/
theorem classifyRead_refilled (h : (n.chan c).state = .low) : classifyRead c .fit n =
    (n.setChan c { n.chan c with state := n.restState },
      if (n.chan c).role = .reserve ∧ n.restState = .ready then [.ready] else []) := by
  unfold classifyRead; dsimp only
  rw [h]

theorem classifyRead_committed (hx : x ≠ .fit) (h : (n.chan c).state = .committed) : classifyRead c x n =
    ((n.setChan c { n.chan c with state := x.downState, committedTo := none }).setFlag .cylLow,
      ((n.chan c).committedTo.map VReport.uncommitted).toList) := by
  unfold classifyRead; dsimp only
  cases x
  case fit => exact absurd rfl hx
  all_goals rw [h]

theorem classifyRead_queued (hx : x ≠ .fit) (h : (n.chan c).state = .queued) : classifyRead c x n =
    ((dequeue c (n.setChan c ((n.chan c).leave x.downState))).setFlag .cylLow,
      pulseReport c (n.chan c).requester .failed) := by
  unfold classifyRead; dsimp only
  cases x
  case fit => exact absurd rfl hx
  all_goals rw [h]

/-- The read of a FIRING channel serves the confirmation (R66, R74). -/
theorem classifyRead_firing (h : (n.chan c).state = .firing) : classifyRead c x n =
    resolveFiring c (n.setChan c { n.chan c with
      flowSeen := (n.chan c).flowSeen || decide ((n.chan c).pressure < 50) }) := by
  unfold classifyRead; dsimp only
  rw [h]; rfl

end

/-! ## What the reports of a read leave -/

theorem deliver_svp (rs : List VReport) (n : Node) : (deliver rs n).svp = n.svp := by
  induction rs generalizing n with
  | nil => rfl
  | cons r rs ih =>
    cases r with
    | own c q =>
      have hown : ∀ m, (ownReport c q m).svp = m.svp := fun m => by
        unfold ownReport; repeat' split
        · rfl
        · rfl
        · rfl
        · exact congrArg (fun k => k.svp) (ownFailed_sansFire c m)
        · rfl
      unfold deliver; rw [ih, hown]; split
      · rw [aplOwnConfirmed_eq]
      · rfl
    | feed c q =>
      unfold deliver; rw [ih]
      exact congrArg (fun k => k.svp) (placeReport_sansBank c q n)
    | uncommitted i =>
      unfold deliver; rw [ih]
      exact congrArg (fun k => k.svp) (rvaUncommitted_sansBank i n)
    | ready =>
      unfold deliver; rw [ih]
      exact congrArg (fun k => k.svp) (grantWalk_sansBank n)

theorem afterReports_raises (n : Node) (rs : List VReport) : n.raisedIn (afterReports (n, rs)) := by
  have hd : n.raisedIn (deliver rs n) := Node.raisedIn_of_svp (deliver_svp rs n)
  have ht : n.raisedIn (takeReports (n, rs)) := by
    unfold takeReports; split
    · exact Node.raisedIn_trans hd (feedTest_raises _)
    · exact hd
  unfold afterReports; split
  · exact n.raisedIn_refl
  · exact Node.raisedIn_trans ht (soakTest_raises _)

theorem ChanInv.afterReports {P : Node → Prop} (h : ChanInv P) {n : Node} (rs : List VReport) (hp : P n) :
    P (afterReports (n, rs)) := by
  unfold Machine.afterReports; split
  · exact hp
  · exact h.soakTest (h.takeReports hp)

/-- The grant walk takes a READY channel to COMMITTED, and changes no other. -/
def Channel.walkedTo (x y : Channel) : Prop :=
  y = x ∨ x.state = .ready ∧ ∃ g, y = { x with state := .committed, committedTo := some g }

theorem Channel.walkedTo_trans {x y z : Channel} (h : x.walkedTo y) (h' : y.walkedTo z) : x.walkedTo z := by
  rcases h with rfl | ⟨hx, g, rfl⟩
  · exact h'
  · rcases h' with rfl | ⟨hy, -⟩
    · exact .inr ⟨hx, g, rfl⟩
    · cases hy

theorem commit_walkedTo {c : ChanId} {g : NodeId} {n m : Node} (h : commit c g n = some m) (d : ChanId) :
    (n.chan d).walkedTo (m.chan d) := by
  revert h; unfold commit; dsimp only; split <;> rintro ⟨⟩
  next hx =>
    by_cases hd : d = c
    · subst hd
      exact .inr ⟨hx.2, g, Node.chan_setChan_same n d _⟩
    · exact .inl (Node.chan_setChan_other n c d _ hd)

theorem commitAll_walkedTo (i : NodeId) (cs : List ChanId) (k : Nat) (n : Node) (d : ChanId) :
    (n.chan d).walkedTo ((commitAll i cs (k, n)).2.chan d) := by
  induction cs generalizing k n with
  | nil => exact .inl rfl
  | cons c cs ih =>
    unfold commitAll; split
    next m hm => exact Channel.walkedTo_trans (commit_walkedTo hm d) (ih _ m)
    next => exact ih _ n

theorem walkList_walkedTo (es : List BidEntry) (n : Node) (d : ChanId) :
    (n.chan d).walkedTo ((walkList es n).2.chan d) := by
  induction es generalizing n with
  | nil => exact .inl rfl
  | cons e es ih => exact Channel.walkedTo_trans (commitAll_walkedTo _ _ _ n d) (ih _)

theorem grantWalk_walkedTo (n : Node) (d : ChanId) : (n.chan d).walkedTo ((grantWalk n).chan d) := by
  unfold grantWalk; split
  · exact .inl rfl
  · exact walkList_walkedTo n.rva.bids n d

end Sys2Proof.Machine

/-! # O17: a cylinder pressure read moves its channel -/

namespace Sys2Proof.Machine

/-- The event of a cylinder pressure read. -/
def cylinderEvent (c : ChanId) (p : Nat) (n : Node) : Node := afterReports (cylinderRead c p n)

theorem afterReports_none (n : Node) : afterReports (n, []) = n := if_pos rfl

section
variable {c : ChanId} {n : Node} {p : Nat}

/-! ## A channel that is not FIRING -/

theorem cylinderEvent_final (h : (n.chan c).role = .unused ∨ (n.chan c).state = .spent ∨
    (n.chan c).state = .failed) : cylinderEvent c p n = readStored c p n := by
  unfold cylinderEvent
  by_cases hu : (n.chan c).role = .unused
  · rw [cylinderRead_unused hu]; exact afterReports_none _
  · rw [cylinderRead_used hu, classifyRead_final (by rw [readStored_chan]; exact h.resolve_left hu)]
    exact afterReports_none _

section
variable (hu : (n.chan c).role ≠ .unused)
include hu

theorem cylinderEvent_fit (hfit : n.cfg.fullThreshold ≤ min p 150)
    (h : (n.chan c).state = .ready ∨ (n.chan c).state = .isolated ∨ (n.chan c).state = .committed ∨
      (n.chan c).state = .queued) : cylinderEvent c p n = readStored c p n := by
  unfold cylinderEvent
  rw [cylinderRead_used hu, pressureClass_fit hfit, classifyRead_fit (by rw [readStored_chan]; exact h)]
  exact afterReports_none _

theorem cylinderEvent_refilled (hfit : n.cfg.fullThreshold ≤ min p 150) (h : (n.chan c).state = .low) :
    cylinderEvent c p n = afterReports
      (n.setChan c { (n.chan c).stored n.now p with state := n.restState },
        if (n.chan c).role = .reserve ∧ n.restState = .ready then [.ready] else []) := by
  unfold cylinderEvent
  rw [cylinderRead_used hu, pressureClass_fit hfit, classifyRead_refilled (by rw [readStored_chan]; exact h),
    readStored_set, readStored_chan]
  rfl

/-- The state that a read below the full threshold gives (R66). -/
def downBy (p : Nat) : ChanState := if 10 ≤ p then .low else .spent

section
variable (hlow : ¬ n.cfg.fullThreshold ≤ min p 150)
include hlow

theorem cylinderEvent_drops (h : (n.chan c).state = .ready ∨ (n.chan c).state = .isolated) :
    cylinderEvent c p n =
      (n.setChan c { (n.chan c).stored n.now p with state := downBy (min p 150) }).setFlag .cylLow := by
  obtain ⟨hx, hdown⟩ := pressureClass_down hlow
  unfold cylinderEvent
  rw [cylinderRead_used hu, classifyRead_drops hx (by rw [readStored_chan]; exact h), hdown, readStored_set,
    readStored_chan]
  exact afterReports_none _

theorem cylinderEvent_low (h : (n.chan c).state = .low) : cylinderEvent c p n =
    n.setChan c { (n.chan c).stored n.now p with state := downBy (min p 150) } := by
  obtain ⟨hx, hdown⟩ := pressureClass_down hlow
  unfold cylinderEvent
  rw [cylinderRead_used hu, classifyRead_low hx (by rw [readStored_chan]; exact h), hdown, readStored_set,
    readStored_chan]
  exact afterReports_none _

theorem cylinderEvent_committed (h : (n.chan c).state = .committed) : cylinderEvent c p n = afterReports
    ((n.setChan c { (n.chan c).stored n.now p with state := downBy (min p 150), committedTo := none }).setFlag
      .cylLow, ((n.chan c).committedTo.map VReport.uncommitted).toList) := by
  obtain ⟨hx, hdown⟩ := pressureClass_down hlow
  unfold cylinderEvent
  rw [cylinderRead_used hu, classifyRead_committed hx (by rw [readStored_chan]; exact h), hdown, readStored_set,
    readStored_chan]
  rfl

theorem cylinderEvent_queued (h : (n.chan c).state = .queued) : cylinderEvent c p n = afterReports
    ((dequeue c (n.setChan c (((n.chan c).stored n.now p).leave (downBy (min p 150))))).setFlag .cylLow,
      pulseReport c (n.chan c).requester .failed) := by
  obtain ⟨hx, hdown⟩ := pressureClass_down hlow
  unfold cylinderEvent
  rw [cylinderRead_used hu, classifyRead_queued hx (by rw [readStored_chan]; exact h), hdown, readStored_set,
    readStored_chan]
  rfl

end

/-- The record of a FIRING channel once the reading is stored and its flow judged (R74). -/
def Channel.flowRead (now : Time) (p : Nat) (r : Channel) : Channel :=
  { r with pressure := min p 150, readAt := now + 100, flowSeen := r.flowSeen || decide (min p 150 < 50) }

theorem cylinderEvent_firing (h : (n.chan c).state = .firing) : cylinderEvent c p n =
    afterReports (resolveFiring c (n.setChan c ((n.chan c).flowRead n.now p))) := by
  unfold cylinderEvent
  rw [cylinderRead_used hu, classifyRead_firing (by rw [readStored_chan]; exact h), readStored_set,
    readStored_chan]
  rfl

end

end

/-! ## What a lost channel leaves -/

theorem downBy_idle (p : Nat) : downBy p = .low ∨ downBy p = .spent ∨ downBy p = .failed := by
  unfold downBy; split <;> simp

/-- A channel out of use and the flag set with it stand at the end of the event. -/
theorem afterReports_holds {b n : Node} {c : ChanId} {r : Channel} {q : Prop} {rs : List VReport}
    (h : n.holds c r q) (hr : r.state = .low ∨ r.state = .spent ∨ r.state = .failed)
    (hf : n.flag .cylLow = true) : (finish b (afterReports (n, rs))).holds c r q ∧
      (finish b (afterReports (n, rs))).flag .cylLow = true := by
  unfold Node.holds Node.chan Node.flag
  rw [finish_vcu, finish_svp]
  exact ⟨(chanInv_holds c q hr).afterReports rs h, afterReports_raises n rs .cylLow hf⟩

/-- A reserve channel back in service is READY, or committed by the grant walk (R108). -/
theorem afterReports_ready {b n : Node} {c : ChanId} (h : (n.chan c).state = .ready) :
    ((finish b (afterReports (n, [.ready]))).chan c).pressure = (n.chan c).pressure ∧
      (((finish b (afterReports (n, [.ready]))).chan c).state = .ready ∨
        ((finish b (afterReports (n, [.ready]))).chan c).state = .committed) := by
  have he : afterReports (n, [.ready]) = soakTest (grantWalk n) := rfl
  have hchan : (finish b (afterReports (n, [.ready]))).chan c = (grantWalk n).chan c := by
    unfold Node.chan; rw [finish_vcu, he, (soakTest_vcu _).1]
  rw [hchan]
  rcases grantWalk_walkedTo n c with hw | ⟨-, g, hw⟩
  · rw [hw]; exact ⟨rfl, .inl h⟩
  · rw [hw]; exact ⟨rfl, .inr rfl⟩

theorem restState_isolate {n : Node} (h : n.fiu.key.delivered = .isolate) : n.restState = .isolated :=
  if_pos (decide_eq_true h)

theorem restState_normal {n : Node} (h : n.fiu.key.delivered = .normal) : n.restState = .ready :=
  if_neg (by unfold Node.isolate; rw [h]; decide)

theorem restState_eq (n : Node) :
    n.restState = if n.fiu.key.delivered = .isolate then .isolated else .ready := by
  unfold Node.restState Node.isolate; simp only [decide_eq_true_eq]

/-- Settles O17: the table of R66 by the channel's state, and the conditions of R74 for a FIRING one. -/
theorem cylinderReadMovesTheChannel : Obligations.CylinderReadMovesTheChannel := by
  refine ⟨?others, ?firing⟩
  case others =>
    intro s c reading hr n r p r' fit down e
    refine ⟨fun h _ => ?final, fun hu hfit h => ?fit, fun hu hlow h => ?drops, fun hu hlow h => ?low,
      fun hhall hfit h => ?hallBack, fun hres hfit h hk => ?lockedBack, fun hres hfit h hk => ?reserveBack,
      fun hu hlow h => ?committed, fun hu hlow h => ?queued⟩
    case final =>
      exact endsAs_inRun (cylinderEvent c reading) rfl hr (congrArg Node.bare (cylinderEvent_final h))
    case fit =>
      exact endsAs_inRun (cylinderEvent c reading) rfl hr (congrArg Node.bare (cylinderEvent_fit hu hfit h))
    case drops =>
      exact endsAs_inRun (cylinderEvent c reading) rfl hr (congrArg Node.bare (cylinderEvent_drops hu hlow h))
    case low =>
      exact endsAs_inRun (cylinderEvent c reading) rfl hr (congrArg Node.bare (cylinderEvent_low hu hlow h))
    case hallBack =>
      have hu : r.role ≠ .unused := by rw [hhall]; decide
      refine endsAs_inRun (cylinderEvent c reading) rfl hr (congrArg Node.bare ?_)
      have hrole : ¬ ((s.node.chan c).role = .reserve ∧ s.node.restState = .ready) := fun hx => by
        have hne := hhall.symm.trans hx.1
        cases hne
      rw [cylinderEvent_refilled hu hfit h, if_neg hrole, afterReports_none, restState_eq]
      rfl
    case lockedBack =>
      have hu : r.role ≠ .unused := by rw [hres]; decide
      refine endsAs_inRun (cylinderEvent c reading) rfl hr (congrArg Node.bare ?_)
      have hrest := restState_isolate (n := s.node) hk
      rw [cylinderEvent_refilled hu hfit h, hrest, if_neg (fun hx => by cases hx.2), afterReports_none]
      rfl
    case reserveBack =>
      have hu : r.role ≠ .unused := by rw [hres]; decide
      have hrest := restState_normal (n := s.node) hk
      have he := cylinderEvent_refilled hu hfit h
      rw [hrest, if_pos ⟨hres, rfl⟩] at he
      refine ⟨_, if_pos hr, ?_⟩
      rw [show (fun n => afterReports (cylinderRead c reading n)) = cylinderEvent c reading from rfl, he]
      obtain ⟨hp, hst⟩ := afterReports_ready (b := s.node) (c := c)
        (n := n.setChan c { r.stored n.now reading with state := .ready }) (by rw [Node.chan_setChan_same])
      rw [Node.chan_setChan_same] at hp
      exact ⟨hp, hst⟩
    case committed =>
      refine ⟨_, if_pos hr, ?_⟩
      rw [show (fun n => afterReports (cylinderRead c reading n)) = cylinderEvent c reading from rfl,
        cylinderEvent_committed hu hlow h]
      obtain ⟨hh, hf⟩ := afterReports_holds (b := s.node) (c := c) (q := True)
        (rs := (r.committedTo.map VReport.uncommitted).toList)
        (n := (n.setChan c { r.stored n.now reading with state := downBy p, committedTo := none }).setFlag .cylLow)
        ⟨Node.chan_setChan_same n c _, fun _ => trivial⟩ (downBy_idle p) (Node.flag_setFlag_same _ _)
      exact ⟨hh.1, hf⟩
    case queued =>
      refine ⟨_, if_pos hr, ?_⟩
      rw [show (fun n => afterReports (cylinderRead c reading n)) = cylinderEvent c reading from rfl,
        cylinderEvent_queued hu hlow h]
      obtain ⟨hh, hf⟩ := afterReports_holds (b := s.node) (c := c) (q := False)
        (rs := pulseReport c r.requester .failed)
        (n := (dequeue c (n.setChan c ((r.stored n.now reading).leave (downBy p)))).setFlag .cylLow)
        ⟨Node.chan_setChan_same n c _, fun hx => by simpa using (List.mem_filter.1 hx).2⟩ (downBy_idle p)
        (Node.flag_setFlag_same _ _)
      exact ⟨hh.1, hh.2, hf⟩
  case firing =>
    intro s c reading hr hs hu hcut n p seen r' spent off e
    have hev : cylinderEvent c reading n = afterReports (resolveFiring c (n.setChan c r')) :=
      cylinderEvent_firing hu hs
    have hchan : (n.setChan c r').chan c = r' := Node.chan_setChan_same n c r'
    have hks : ((n.setChan c r').chan c).state = .firing := by rw [hchan]; exact hs
    have hkd : ((n.setChan c r').chan c).driveCut = false := by rw [hchan]; exact hcut
    have hdead : (n.setChan c r').outputDead c = true ↔ off := by rw [Node.outputDead_iff, hchan]; exact Iff.rfl
    have hset : (n.setChan c r').setChan c (((n.setChan c r').chan c).leave .spent) = n.setChan c spent := by
      rw [hchan, Node.setChan_setChan]; rfl
    have hres : Resolved c spent n (n.setChan c spent) :=
      .of_setChan rfl rfl (fun _ _ => rfl) hs (.inl rfl)
    have hspent : off → seen = true → ∀ q, (n.chan c).requester = q →
        cylinderEvent c reading n = afterReports (n.setChan c spent, pulseReport c q .confirmed) := by
      intro ho hseen q hq
      rw [hev, resolveFiring_flowing hks hkd (hdead.2 ho) (by rw [hchan]; exact hseen), hset, hchan, ← hq]
    refine ⟨fun ho => ?on, fun ho hseen hw => ?waits, fun ho hseen hq => ?own, fun ho hseen hq => ?place⟩
    case on =>
      refine endsAs_inRun (cylinderEvent c reading) rfl hr (congrArg Node.bare (hev.trans ?_))
      rw [resolveFiring_on hks hkd (fun h => ho (hdead.1 h)), afterReports_none]
    case waits =>
      refine endsAs_inRun (cylinderEvent c reading) rfl hr (congrArg Node.bare (hev.trans ?_))
      rw [resolveFiring_waiting hks hkd (by rw [hchan]; exact hseen) (by rw [hchan]; exact hw), afterReports_none]
    case own => exact hres.ownGroupConfirmed (f := cylinderEvent c reading) hr rfl (hspent ho hseen .hsq hq)
    case place => exact hres.placeConfirmed (f := cylinderEvent c reading) hr rfl (hspent ho hseen .rva hq)

end Sys2Proof.Machine

/-! # LOAD: the nine checks of the store (O47) -/

namespace Sys2Proof.Machine

/-! ## Rows in order -/

/-- The rows that the checks read: 0 to 11, ascending (R162). -/
def checkedRows : List RowId := configRows ++ [11]

theorem mem_configRows {r : RowId} : r ∈ configRows ↔ r.val ≤ 10 := by revert r; decide

theorem mem_checkedRows {r : RowId} : r ∈ checkedRows ↔ r.val ≤ 11 := by revert r; decide

theorem configRows_sorted : configRows.Pairwise (· < ·) := by decide

theorem checkedRows_sorted : checkedRows.Pairwise (· < ·) := by decide

/-- The first element of an ascending list with a property: it is of the list, and none before it is. -/
theorem find?_sorted {rs : List RowId} (hs : rs.Pairwise (· < ·)) {p : RowId → Bool} {r : RowId} :
    rs.find? p = some r ↔ r ∈ rs ∧ p r = true ∧ ∀ q ∈ rs, q < r → p q = false := by
  induction rs with
  | nil => simp
  | cons x xs ih =>
    obtain ⟨hx, hxs⟩ := List.pairwise_cons.1 hs
    by_cases hp : p x = true
    · rw [List.find?_cons_of_pos hp]
      constructor
      · intro h
        obtain rfl : x = r := Option.some.inj h
        refine ⟨List.mem_cons_self, hp, fun q hq hlt => ?_⟩
        rcases List.mem_cons.1 hq with rfl | hq
        · exact absurd hlt (lt_irrefl _)
        · exact absurd (hlt.trans (hx q hq)) (lt_irrefl _)
      · rintro ⟨hm, -, hq⟩
        rcases List.mem_cons.1 hm with rfl | hm
        · rfl
        · have := hq x List.mem_cons_self (hx r hm)
          rw [hp] at this; cases this
    · rw [List.find?_cons_of_neg hp, ih hxs]
      constructor
      · rintro ⟨hm, hr, hq⟩
        refine ⟨List.mem_cons_of_mem _ hm, hr, fun q hmem hlt => ?_⟩
        rcases List.mem_cons.1 hmem with rfl | hmem
        · simpa using hp
        · exact hq q hmem hlt
      · rintro ⟨hm, hr, hq⟩
        rcases List.mem_cons.1 hm with rfl | hm
        · exact absurd hr hp
        · exact ⟨hm, hr, fun q hmem => hq q (List.mem_cons_of_mem _ hmem)⟩

/-! ## A check that names the first bad row -/

/-- A readable row that fails a check. -/
def failsAt (l : Loaded) (ok : RowId → RowData → Bool) (r : RowId) : Bool :=
  match l.get r with
  | some d => !ok r d
  | none => false

section
variable {l : Loaded} {k : Nat} {ok : RowId → RowData → Bool}

theorem failsAt_iff {r : RowId} : failsAt l ok r = true ↔ ∃ d, l.get r = some d ∧ ok r d = false := by
  unfold failsAt; cases l.get r <;> simp

theorem firstFailing_eq (rs : List RowId) :
    firstFailing l rs ok = (rs.find? (failsAt l ok)).map (fun r => r.val) := rfl

theorem firstFailing_one {r : RowId} :
    firstFailing l [r] ok = some k ↔ k = r.val ∧ ∃ d, l.get r = some d ∧ ok r d = false := by
  rw [firstFailing_eq, ← failsAt_iff]
  by_cases h : failsAt l ok r = true
  · rw [List.find?_cons_of_pos h]
    exact ⟨fun hk => ⟨(Option.some.inj hk).symm, h⟩, fun hk => congrArg some hk.1.symm⟩
  · rw [List.find?_cons_of_neg h]
    exact ⟨fun hk => (by cases hk), fun hk => absurd hk.2 h⟩

/-- The check over rows 0 to 10 names the first row that is not as the rule says. -/
theorem firstFailing_config {rule : RowId → RowData → Prop} (h : ∀ r d, ok r d = true ↔ rule r d) :
    firstFailing l configRows ok = some k ↔ firstBad l rule k := by
  have hbad : ∀ r, failsAt l ok r = true ↔ ∃ d, l.get r = some d ∧ ¬ rule r d := fun r => by
    rw [failsAt_iff]
    exact exists_congr fun d => and_congr_right fun _ => by rw [← h, Bool.not_eq_true]
  rw [firstFailing_eq, Option.map_eq_some_iff]
  unfold firstBad
  constructor
  · rintro ⟨r, hf, rfl⟩
    obtain ⟨hm, hr, hq⟩ := (find?_sorted configRows_sorted).1 hf
    obtain ⟨d, hd, hrule⟩ := (hbad r).1 hr
    refine ⟨r, d, rfl, mem_configRows.1 hm, hd, hrule, fun q e hlt he => ?_⟩
    by_contra hne
    have hqf := hq q (mem_configRows.2 (by have := mem_configRows.1 hm; omega)) hlt
    rw [(hbad q).2 ⟨e, he, hne⟩] at hqf
    cases hqf
  · rintro ⟨r, d, rfl, hle, hd, hrule, hq⟩
    refine ⟨r, (find?_sorted configRows_sorted).2 ⟨mem_configRows.2 hle, (hbad r).2 ⟨d, hd, hrule⟩,
      fun q _ hlt => ?_⟩, rfl⟩
    rw [← Bool.not_eq_true, hbad]
    rintro ⟨e, he, hne⟩
    exact hne (hq q e hlt he)

end

/-! ## The rules of the rows -/

theorem inRange_iff {lo hi x : Nat} : inRange lo hi x = true ↔ lo ≤ x ∧ x ≤ hi := by simp [inRange]

theorem tempRange_iff {t : Int} : tempRange t = true ↔ -400 ≤ t ∧ t ≤ 850 := by simp [tempRange]

theorem rolesInRange_iff {d : RowData} : rolesInRange d = true ↔ ∀ c, roleAt d c ≤ 2 := by
  simp [rolesInRange, mem_allChans]

theorem holderInRange_iff {d : RowData} : holderInRange d = true ↔ byte1 d 0 ≤ 15 ∨ byte1 d 0 = 0xFF := by
  simp [holderInRange]

theorem rowInRange_iff (r : RowId) (d : RowData) : rowInRange r d = true ↔ fieldsFit r d := by
  unfold rowInRange fieldsFit
  fin_cases r <;>
    simp only [Bool.and_eq_true, inRange_iff, tempRange_iff, rolesInRange_iff, holderInRange_iff,
      decide_eq_true_eq, and_assoc]
  exact Iff.rfl

theorem rowRelation_iff (r : RowId) (d : RowData) : rowRelation r d = true ↔ relationHolds r d := by
  unfold rowRelation relationHolds
  fin_cases r <;> simp

/-! ## Each check -/

section
variable {id : NodeId} {l : Loaded} {k : Nat}

theorem checkRow_rowUncorrectable : checkRow id l .rowUncorrectable = some k ↔
    ∃ r : RowId, r.val = k ∧ k ≤ 11 ∧ l.get r = none ∧ ∀ q, q < r → l.get q ≠ none := by
  change (checkedRows.find? (fun r => (l.get r).isNone)).map (fun r : RowId => r.val) = some k ↔ _
  rw [Option.map_eq_some_iff]
  refine exists_congr fun r => ?_
  rw [find?_sorted checkedRows_sorted, mem_checkedRows]
  constructor
  · rintro ⟨⟨hle, hr, hq⟩, rfl⟩
    refine ⟨rfl, hle, Option.isNone_iff_eq_none.1 hr, fun q hlt he => ?_⟩
    have hqf := hq q (mem_checkedRows.2 ((Fin.lt_def.1 hlt).le.trans hle)) hlt
    rw [he] at hqf; cases hqf
  · rintro ⟨rfl, hle, hr, hq⟩
    exact ⟨⟨hle, by rw [hr]; rfl, fun q _ hlt => Option.isNone_eq_false_iff.2
      (Option.isSome_iff_ne_none.2 (hq q hlt))⟩, rfl⟩

theorem checkRow_format : checkRow id l .format = some k ↔ k = 0 ∧ ∃ d, l.get 0 = some d ∧ le2 d 0 ≠ 0xC46E := by
  change firstFailing l [0] _ = some k ↔ _
  rw [firstFailing_one]; simp only [decide_eq_false_iff_not]; exact Iff.rfl

theorem checkRow_notCommissioned : checkRow id l .notCommissioned = some k ↔
    k = 11 ∧ ∃ d, l.get 11 = some d ∧ le2 d 0 = 0 := by
  change firstFailing l [11] _ = some k ↔ _
  rw [firstFailing_one]; simp only [decide_eq_false_iff_not, not_not]; exact Iff.rfl

theorem checkRow_fieldRange : checkRow id l .fieldRange = some k ↔ firstBad l fieldsFit k :=
  firstFailing_config rowInRange_iff

theorem checkRow_relation : checkRow id l .relation = some k ↔ firstBad l relationHolds k :=
  firstFailing_config rowRelation_iff

theorem volumeFits_false {d : RowData} : volumeFits d = false ↔ 1000 ≤ le2 d 0 ∧ le2 d 0 ≤ 50000 ∧
    le2 d 2 ≤ 20000 ∧ -400 ≤ signedLe2 d 4 ∧ signedLe2 d 4 ≤ 850 ∧
    1000 * (le2 d 0 : Int) + (le2 d 2 : Int) * signedLe2 d 4 < 100000 := by
  unfold volumeFits
  rw [Bool.or_eq_false_iff, Bool.not_eq_false', decide_eq_false_iff_not, not_le, Bool.and_eq_true,
    Bool.and_eq_true, inRange_iff, inRange_iff, tempRange_iff]
  constructor
  · rintro ⟨⟨⟨⟨h1, h2⟩, -, h3⟩, h4, h5⟩, h6⟩; exact ⟨h1, h2, h3, h4, h5, h6⟩
  · rintro ⟨h1, h2, h3, h4, h5, h6⟩; exact ⟨⟨⟨⟨h1, h2⟩, Nat.zero_le _, h3⟩, h4, h5⟩, h6⟩

theorem checkRow_specificVolume : checkRow id l .specificVolume = some k ↔
    k = 2 ∧ ∃ d, l.get 2 = some d ∧ 1000 ≤ le2 d 0 ∧
      le2 d 0 ≤ 50000 ∧ le2 d 2 ≤ 20000 ∧ -400 ≤ signedLe2 d 4 ∧ signedLe2 d 4 ≤ 850 ∧
      1000 * (le2 d 0 : Int) + (le2 d 2 : Int) * signedLe2 d 4 < 100000 := by
  change firstFailing l [2] _ = some k ↔ _
  rw [firstFailing_one]; simp only [volumeFits_false]; exact Iff.rfl

theorem checkRow_roleCount : checkRow id l .roleCount = some k ↔ k = 4 ∧ ∃ d, l.get 4 = some d ∧
    (8 < (allChans.filter (fun c => roleAt d c = 1)).length ∨
      8 < (allChans.filter (fun c => roleAt d c = 2)).length) := by
  change firstFailing l [4] _ = some k ↔ _
  rw [firstFailing_one]
  have hfit : ∀ d, rolesFit d = false ↔ 8 < roleCount d 1 ∨ 8 < roleCount d 2 := fun d => by
    unfold rolesFit
    rw [Bool.and_eq_false_iff, decide_eq_false_iff_not, decide_eq_false_iff_not, not_le, not_le]
  simp only [hfit]; exact Iff.rfl

theorem roleCount_zero {d : RowData} {x : Nat} : roleCount d x = 0 ↔ ∀ c, roleAt d c ≠ x := by
  unfold roleCount
  rw [List.length_eq_zero_iff, List.filter_eq_nil_iff]
  simp only [mem_allChans, true_implies, decide_eq_true_eq]

theorem dataOf_some {r : RowId} {d : RowData} (h : l.get r = some d) : dataOf l r = d := by
  unfold dataOf; rw [h]; rfl

theorem readable_iff {rs : List RowId} : readable l rs = true ↔ ∀ r ∈ rs, l.get r ≠ none := by
  unfold readable; rw [List.all_eq_true]
  exact forall₂_congr fun r _ => Option.isSome_iff_ne_none

theorem checkRow_holderWithoutBank : checkRow id l .holderWithoutBank = some k ↔
    k = 4 ∧ ∃ d e, l.get 4 = some d ∧ l.get 10 = some e ∧ (∀ c, roleAt d c ≤ 2) ∧ byte1 e 0 = id.val ∧
      ∀ c, roleAt d c ≠ 2 := by
  have hcond : (readable l [4, 10] && rolesInRange (dataOf l 4) && holderInRange (dataOf l 10)
      && decide (byte1 (dataOf l 10) 0 = id.val) && decide (roleCount (dataOf l 4) 2 = 0)) = true ↔
      ∃ d e, l.get 4 = some d ∧ l.get 10 = some e ∧ (∀ c, roleAt d c ≤ 2) ∧ byte1 e 0 = id.val ∧
        ∀ c, roleAt d c ≠ 2 := by
    simp only [Bool.and_eq_true, decide_eq_true_eq, readable_iff, rolesInRange_iff, holderInRange_iff,
      roleCount_zero]
    constructor
    · rintro ⟨⟨⟨⟨hread, hroles⟩, -⟩, hid⟩, hnone⟩
      obtain ⟨d, hd⟩ := Option.ne_none_iff_exists'.1 (hread 4 (by simp))
      obtain ⟨e, he⟩ := Option.ne_none_iff_exists'.1 (hread 10 (by simp))
      rw [dataOf_some hd] at hroles hnone
      rw [dataOf_some he] at hid
      exact ⟨d, e, hd, he, hroles, hid, hnone⟩
    · rintro ⟨d, e, hd, he, hroles, hid, hnone⟩
      rw [dataOf_some hd, dataOf_some he]
      refine ⟨⟨⟨⟨fun r hr => ?_, hroles⟩, .inl (by have := id.isLt; omega)⟩, hid⟩, hnone⟩
      rcases List.mem_cons.1 hr with rfl | hr
      · rw [hd]; simp
      · rw [List.mem_singleton.1 hr, he]; simp
  rw [← hcond]
  change (if _ then some 4 else none) = some k ↔ _
  rw [ite_eq_iff]
  constructor
  · rintro (⟨hc, hk⟩ | ⟨-, hk⟩)
    · exact ⟨(Option.some.inj hk).symm, hc⟩
    · cases hk
  · rintro ⟨rfl, hc⟩
    exact .inl ⟨hc, rfl⟩

/-! ## The digest -/

theorem foldl_add_eq_sum {α : Type} (f : α → Nat) (xs : List α) (a : Nat) :
    xs.foldl (fun acc x => acc + f x) a = a + (xs.map f).sum := by
  induction xs generalizing a with
  | nil => rfl
  | cons x xs ih => rw [List.foldl_cons, ih, List.map_cons, List.sum_cons, Nat.add_assoc]

theorem rowSum_eq (d : RowData) : rowSum d = (d.toList.map BitVec.toNat).sum := by
  unfold rowSum; rw [foldl_add_eq_sum, Nat.zero_add]

/-- The digest is the sum of the data bytes of rows 0 to 10 (R161). -/
theorem digest_eq (l : Loaded) : digest l = ((allRows.take 11).flatMap (fun r =>
    ((l.get r).getD (Vector.replicate 14 0)).toList.map BitVec.toNat)).sum % 65536 := by
  have hrows : allRows.take 11 = configRows := rfl
  unfold digest
  rw [foldl_add_eq_sum, Nat.zero_add, hrows, List.flatMap_def, List.sum_flatten, List.map_map]
  refine congrArg (· % 65536) (congrArg List.sum (List.map_congr_left fun r _ => ?_))
  exact rowSum_eq _

theorem checkRow_digest : checkRow id l .digest = some k ↔
    k = 11 ∧ (∀ r : RowId, r.val ≤ 11 → l.get r ≠ none) ∧ ∃ d, l.get 11 = some d ∧ le2 d 2 ≠
      ((allRows.take 11).flatMap (fun r =>
        ((l.get r).getD (Vector.replicate 14 0)).toList.map BitVec.toNat)).sum % 65536 := by
  rw [← digest_eq]
  have hread : readable l checkedRows = true ↔ ∀ r : RowId, r.val ≤ 11 → l.get r ≠ none := by
    rw [readable_iff]; exact forall_congr' fun r => by rw [mem_checkedRows]
  change (if readable l checkedRows = true then firstFailing l [11] _ else none) = some k ↔ _
  rw [← hread]
  by_cases h : readable l checkedRows = true
  · rw [if_pos h, firstFailing_one]
    simp only [decide_eq_false_iff_not, h, true_and]; exact Iff.rfl
  · rw [if_neg h]
    exact ⟨fun hk => (by cases hk), fun hk => absurd hk.2.1 h⟩

/-! ## The findings -/

theorem mem_findings {c : Check} : (c, k) ∈ findings id l ↔ checkRow id l c = some k := by
  unfold findings
  rw [List.mem_filterMap]
  constructor
  · rintro ⟨c', -, hc⟩
    obtain ⟨r, hr, he⟩ := Option.map_eq_some_iff.1 hc
    cases he
    exact hr
  · intro h
    exact ⟨c, by cases c <;> decide, by rw [h]; rfl⟩

/-- The findings name the checks in the order of the list of checks. -/
theorem findings_checks (cs : List Check) :
    ((cs.filterMap (fun c => (checkRow id l c).map (fun r => (c, r)))).map Prod.fst).Sublist cs := by
  induction cs with
  | nil => exact List.Sublist.refl _
  | cons c cs ih =>
    cases h : checkRow id l c with
    | none => rw [List.filterMap_cons_none (by rw [h]; rfl)]; exact ih.cons c
    | some r => rw [List.filterMap_cons_some (b := (c, r)) (by rw [h]; rfl)]; exact ih.cons_cons c

/-- Each check finds one row at most. -/
theorem findings_once (c : Check) : ((findings id l).filter (fun f => f.1 = c)).length ≤ 1 := by
  have hnodup : ((findings id l).map Prod.fst).Nodup := (findings_checks allChecks).nodup (by decide)
  have hcount := List.nodup_iff_count_le_one.1 hnodup c
  rw [List.count, List.countP_map, List.countP_eq_length_filter] at hcount
  refine (Eq.le ?_).trans hcount
  exact congrArg List.length (List.filter_congr fun f _ => (beq_eq_decide ..).symm)

end

end Sys2Proof.Machine

/-! # LOAD: the rows read (O47) -/

namespace Sys2Proof.Machine

theorem vget_ofFn {α : Type} {k : Nat} (f : Fin k → α) (i : Fin k) : (Vector.ofFn f).get i = f i := by
  simp [vget]

theorem vec_ext {α : Type} {k : Nat} {a b : Vector α k} (h : ∀ i, a.get i = b.get i) : a = b :=
  Vector.ext fun i hi => h ⟨i, hi⟩

/-! ## The bits that flipped -/

theorem flipRows_eq (fs : List (RowId × Fin 128)) (n : Node) :
    flipRows fs n = { n with cfs.rows := (flipRows fs n).cfs.rows } := by
  induction fs generalizing n with
  | nil => rfl
  | cons f fs ih => exact ih (n.setRow f.1 ((n.row f.1).flip f.2))

/-! ## The rows of one LOAD -/

/-- No row has been read since the reset. -/
def Node.unread (n : Node) : Prop :=
  (∀ r, n.cfs.rowResult.get r = none) ∧ ∀ r, n.cfs.kept.get r = none

/-- The row results once the first `k` rows are read. -/
def resultsTo (k : Nat) (n : Node) : Vector (Option RowResult) 13 :=
  Vector.ofFn (fun r => if n.readsRow k r then some (n.row r).read.1 else n.cfs.rowResult.get r)

/-- The data kept once the first `k` rows are read. -/
def keptTo (k : Nat) (n : Node) : Loaded :=
  Vector.ofFn (fun r => if n.readsRow k r then (n.row r).read.2 else n.cfs.kept.get r)

/-- A row now read is CORRECTED. -/
def Node.correctsTo (n : Node) (k : Nat) : Bool :=
  allRows.any (fun r => n.readsRow k r && decide ((n.row r).read.1 = .corrected))

/-- The node with these results and data of the rows. -/
def rowsHeld (k : Nat) (res : Vector (Option RowResult) 13) (kept : Loaded) (n : Node) : Node :=
  { n with cfs.rowResult := res, cfs.kept := kept, cfs.serial := le2 (dataOf kept 11) 0,
           cfs.phase := if 13 ≤ k then .validate else .load }

/-- The node with the first `k` rows read, before row 12 is acted on. -/
def rowsTaken (k : Nat) (n : Node) : Node :=
  (rowsHeld k (resultsTo k n) (keptTo k n) n).setFlagIf (n.correctsTo k) .secCorrected

theorem loadRows_eq (k : Nat) (n : Node) :
    loadRows k n = if n.readsRow k 12 then takeRelease (rowsTaken k n) else rowsTaken k n := rfl

section
variable {n : Node} {k : Nat}

theorem readsRow_unread (h : n.unread) (r : RowId) : n.readsRow k r = decide (r.val < k) := by
  unfold Node.readsRow; rw [h.1 r, Option.isNone_none, Bool.and_true]

theorem resultsTo_get (h : n.unread) (r : RowId) :
    (resultsTo k n).get r = if r.val < k then some (n.row r).read.1 else none := by
  unfold resultsTo; rw [vget_ofFn, readsRow_unread h, h.1]
  simp only [decide_eq_true_eq]

theorem keptTo_get (h : n.unread) (r : RowId) :
    (keptTo k n).get r = if r.val < k then (n.row r).read.2 else none := by
  unfold keptTo; rw [vget_ofFn, readsRow_unread h, h.2]
  simp only [decide_eq_true_eq]

theorem mem_allRows (r : RowId) : r ∈ allRows := by revert r; decide

theorem correctsTo_iff (h : n.unread) :
    n.correctsTo k = true ↔ ∃ r : RowId, r.val < k ∧ (n.row r).read.1 = .corrected := by
  unfold Node.correctsTo
  rw [List.any_eq_true]
  simp only [mem_allRows, true_and, Bool.and_eq_true, decide_eq_true_eq, readsRow_unread h]

/-- With all thirteen rows read, row 12 is among them. -/
theorem loadRows_all (h : n.unread) (hk : 13 ≤ k) : loadRows k n = takeRelease (rowsTaken k n) := by
  rw [loadRows_eq, readsRow_unread h]
  exact if_pos (decide_eq_true (show (12 : RowId).val < k by have : (12 : RowId).val = 12 := rfl; omega))

theorem loadRows_part (h : n.unread) (hk : k < 13) : loadRows k n = rowsTaken k n := by
  rw [loadRows_eq, readsRow_unread h]
  exact if_neg (fun hx => by
    have := of_decide_eq_true hx
    have : (12 : RowId).val = 12 := rfl
    omega)

/-- Past the thirteenth row there is none to read. -/
theorem rowsTaken_full (h : n.unread) {j : Nat} (hk : 13 ≤ k) (hj : 13 ≤ j) : rowsTaken k n = rowsTaken j n := by
  have hread : ∀ r, n.readsRow k r = n.readsRow j r := fun r => by
    rw [readsRow_unread h, readsRow_unread h]
    have := r.isLt
    exact decide_eq_decide.2 (by omega)
  unfold rowsTaken rowsHeld resultsTo keptTo Node.correctsTo
  simp only [hread, if_pos hk, if_pos hj]

end

/-! ## LOAD in two parts -/

/-- The node with this ATTN line. -/
def withAttn (b : Bool) (n : Node) : Node := { n with pou.attn := b }

theorem setFlagIf_withAttn (b c : Bool) (f : Flag) (n : Node) :
    (withAttn b n).setFlagIf c f = withAttn b (n.setFlagIf c f) := by cases c <;> rfl

theorem setFlag_setFlag (n : Node) (f : Flag) : (n.setFlag f).setFlag f = n.setFlag f := by
  have hv : ∀ x y : BitVec 32, (x ||| y) ||| y = x ||| y := fun x y => by
    rw [BitVec.or_assoc, BitVec.or_self]
  unfold Node.setFlag; dsimp only; rw [hv]

theorem setFlagIf_setFlagIf (n : Node) (a b : Bool) (f : Flag) :
    (n.setFlagIf a f).setFlagIf b f = n.setFlagIf (a || b) f := by
  cases a <;> cases b
  · rfl
  · rfl
  · rfl
  · exact setFlag_setFlag n f

/-- The node with the release record and the hall state that row 12 gives. -/
def releaseTaken (n : Node) : Node :=
  { n with cfs.release := releaseOf n.cfs.kept,
           cfs.releaseTrouble := decide ((releaseOf n.cfs.kept).state = .unreadable),
           hsq.hall := if (releaseOf n.cfs.kept).state = .clear then .quiet else .spent }

theorem takeRelease_eq (n : Node) : takeRelease n =
    (releaseTaken n).setFlagIf (decide ((releaseOf n.cfs.kept).state = .unreadable)) .releaseRowLost := rfl

theorem takeRelease_withAttn (b : Bool) (n : Node) : takeRelease (withAttn b n) = withAttn b (takeRelease n) :=
  setFlagIf_withAttn b _ _ (releaseTaken n)

/-- The node after the first part: what it holds of the rows. -/
theorem rowsTaken_holds (b : Bool) (k : Nat) (n : Node) : (withAttn b (rowsTaken k n)).cfs.rowResult = resultsTo k n ∧
    (withAttn b (rowsTaken k n)).cfs.kept = keptTo k n ∧
    (∀ r, (withAttn b (rowsTaken k n)).row r = n.row r) := by
  unfold rowsTaken; cases n.correctsTo k <;> exact ⟨rfl, rfl, fun _ => rfl⟩

section
variable {n : Node} {k j : Nat} (h : n.unread) (b : Bool)
include h

/-- The second part reads the rows that the first one did not. -/
theorem rowsTaken_readsRow (r : RowId) :
    (withAttn b (rowsTaken k n)).readsRow j r = (decide (r.val < j) && !decide (r.val < k)) := by
  unfold Node.readsRow
  rw [(rowsTaken_holds b k n).1, resultsTo_get h]
  by_cases hr : r.val < k
  · rw [if_pos hr]; simp [hr]
  · rw [if_neg hr]; simp [hr]

variable (hk : k ≤ j)
include hk

theorem resultsTo_rowsTaken : resultsTo j (withAttn b (rowsTaken k n)) = resultsTo j n := by
  obtain ⟨hres, -, hrow⟩ := rowsTaken_holds b k n
  refine vec_ext fun r => ?_
  rw [resultsTo_get h, resultsTo, vget_ofFn, rowsTaken_readsRow h, hrow, hres, resultsTo_get h]
  by_cases hr : r.val < k
  · have hj : r.val < j := by omega
    simp [hr, hj]
  · simp [hr]

theorem keptTo_rowsTaken : keptTo j (withAttn b (rowsTaken k n)) = keptTo j n := by
  obtain ⟨-, hkept, hrow⟩ := rowsTaken_holds b k n
  refine vec_ext fun r => ?_
  rw [keptTo_get h, keptTo, vget_ofFn, rowsTaken_readsRow h, hrow, hkept, keptTo_get h]
  by_cases hr : r.val < k
  · have hj : r.val < j := by omega
    simp [hr, hj]
  · simp [hr]

theorem correctsTo_rowsTaken :
    (n.correctsTo k || (withAttn b (rowsTaken k n)).correctsTo j) = n.correctsTo j := by
  obtain ⟨-, -, hrow⟩ := rowsTaken_holds b k n
  rw [Bool.eq_iff_iff, Bool.or_eq_true, correctsTo_iff h, correctsTo_iff h]
  unfold Node.correctsTo
  rw [List.any_eq_true]
  simp only [mem_allRows, true_and, Bool.and_eq_true, decide_eq_true_eq, rowsTaken_readsRow h, hrow]
  constructor
  · rintro (⟨r, hr, hc⟩ | ⟨r, ⟨hr, -⟩, hc⟩)
    · exact ⟨r, by omega, hc⟩
    · exact ⟨r, hr, hc⟩
  · rintro ⟨r, hr, hc⟩
    by_cases hrk : r.val < k
    · exact .inl ⟨r, hrk, hc⟩
    · exact .inr ⟨r, ⟨hr, by simpa using hrk⟩, hc⟩

/-- The rows read in two parts are the rows read at once. -/
theorem rowsTaken_rowsTaken : rowsTaken j (withAttn b (rowsTaken k n)) = withAttn b (rowsTaken j n) := by
  have hheld : ∀ res kept, rowsHeld j res kept (withAttn b (rowsTaken k n)) =
      withAttn b ((rowsHeld j res kept n).setFlagIf (n.correctsTo k) .secCorrected) := fun res kept => by
    unfold rowsTaken; cases n.correctsTo k <;> rfl
  rw [rowsTaken, resultsTo_rowsTaken h b hk, keptTo_rowsTaken h b hk, hheld, setFlagIf_withAttn,
    setFlagIf_setFlagIf, correctsTo_rowsTaken h b hk]
  rfl

end

/-- LOAD's own steps in two parts, of which the first leaves row 12 unread. -/
theorem loadRows_loadRows {n : Node} {k : Nat} (h : n.unread) (b : Bool) (hk : k < 13) :
    loadRows 14 (withAttn b (loadRows k n)) = withAttn b (loadRows 14 n) := by
  have hreads : (withAttn b (rowsTaken k n)).readsRow 14 12 = true := by
    rw [rowsTaken_readsRow h b]
    have : (12 : RowId).val = 12 := rfl
    simp; omega
  rw [loadRows_part h hk, loadRows_all h (by omega : 13 ≤ 14), loadRows_eq, if_pos hreads,
    rowsTaken_rowsTaken h b (by omega : k ≤ 14), takeRelease_withAttn]

end Sys2Proof.Machine

/-! # LOAD taken up to a row (O47) -/

namespace Sys2Proof.Machine

theorem exec_load {s : State} (i : LoadInputs) (hh : s.node.held = false) (hp : s.node.cfs.phase ≠ .run) :
    exec (.load i) s = .next { s with node := finish s.node (load i s.node) } := if_pos ⟨hh, hp⟩

theorem finish_before {b n : Node} (h : n.running = false) : finish b n = withAttn n.attnNow n :=
  if_neg (by rw [h]; exact Bool.false_ne_true)

/-! ## The part just reset -/

/-- A part just reset: nothing is read, and everything but the rows is at its value after a reset. -/
def Node.fresh (n : Node) : Prop := ∃ now free rows id cause, n = Node.start now free rows id cause

section
variable {n : Node} (h : n.fresh) (fs : List (RowId × Fin 128))
include h

theorem fresh_phase : n.cfs.phase = .load := by
  obtain ⟨_, _, _, _, _, rfl⟩ := h; rfl

theorem fresh_held : n.held = false := by
  obtain ⟨_, _, _, _, _, rfl⟩ := h; rfl

theorem flipRows_unread : (flipRows fs n).unread := by
  have hv : ∀ {α : Type} (r : RowId), (Vector.replicate 13 (none : Option α)).get r = none := fun r => by
    simp [vget]
  rw [flipRows_eq]
  obtain ⟨_, _, _, _, _, rfl⟩ := h
  exact ⟨fun r => hv r, fun r => hv r⟩

end

/-! ## The flags of LOAD's own steps -/

theorem flag_clear {n : Node} (h : n.svp.flags = 0) (f : Flag) : n.flag f = false := by
  simp [Node.flag, h, BitVec.getLsb_eq_getElem]

theorem attnNow_of_flag {n : Node} {f : Flag} (h : n.flag f = true) : n.attnNow = true := by
  refine decide_eq_true fun h0 => ?_
  rw [flag_clear h0] at h; cases h

theorem setFlagIf_svp {m n : Node} (h : m.svp = n.svp) (c : Bool) (f : Flag) :
    (m.setFlagIf c f).svp = (n.setFlagIf c f).svp := by
  cases c
  · exact h
  · change ({ m.svp with flags := _ } : Svp) = _; rw [h]; rfl

/-- The two flags of LOAD's own steps, and the ATTN line that shows them. -/
theorem flags_of_load {n : Node} (h : n.svp.flags = 0) (a b : Bool) :
    (((n.setFlagIf a .secCorrected).setFlagIf b .releaseRowLost).flag .secCorrected = true ↔ a = true) ∧
      (((n.setFlagIf a .secCorrected).setFlagIf b .releaseRowLost).flag .releaseRowLost = true ↔ b = true) ∧
      (((n.setFlagIf a .secCorrected).setFlagIf b .releaseRowLost).attnNow = true ↔ a = true ∨ b = true) := by
  have hsec : ((n.setFlagIf a .secCorrected).setFlagIf b .releaseRowLost).flag .secCorrected = true ↔ a = true := by
    simp [Node.flag_setFlagIf, flag_clear h]
  have hlost : ((n.setFlagIf a .secCorrected).setFlagIf b .releaseRowLost).flag .releaseRowLost = true ↔
      b = true := by
    simp [Node.flag_setFlagIf, flag_clear h]
  refine ⟨hsec, hlost, fun hx => ?_, fun hx => ?_⟩
  · by_contra hab
    rw [not_or, Bool.not_eq_true, Bool.not_eq_true] at hab
    obtain ⟨rfl, rfl⟩ := hab
    exact of_decide_eq_true hx h
  · rcases hx with hx | hx
    · exact attnNow_of_flag (hsec.2 hx)
    · exact attnNow_of_flag (hlost.2 hx)

/-- Row 12 was read now and gives no release record. -/
def Node.rowLost (n : Node) (k : Nat) : Bool :=
  n.readsRow k 12 && decide ((releaseOf (keptTo k n)).state = .unreadable)

theorem rowsTaken_svp (k : Nat) (n : Node) :
    (rowsTaken k n).svp = (n.setFlagIf (n.correctsTo k) .secCorrected).svp :=
  setFlagIf_svp (m := rowsHeld k (resultsTo k n) (keptTo k n) n) (n := n) rfl _ _

theorem loadRows_svp (k : Nat) (n : Node) : (loadRows k n).svp =
    ((n.setFlagIf (n.correctsTo k) .secCorrected).setFlagIf (n.rowLost k) .releaseRowLost).svp := by
  have hkept : (rowsTaken k n).cfs.kept = keptTo k n := (rowsTaken_holds false k n).2.1
  rw [loadRows_eq]; unfold Node.rowLost
  cases n.readsRow k 12
  · exact rowsTaken_svp k n
  · rw [if_pos rfl, takeRelease_eq, Bool.true_and, hkept]
    exact setFlagIf_svp (m := releaseTaken (rowsTaken k n)) (rowsTaken_svp k n) _ _

/-! ## The node after LOAD's own steps -/

section
variable {n : Node} {k : Nat}

/-- What the reading of the rows leaves outside its own results. -/
theorem rowsTaken_rest (k : Nat) (n : Node) : (rowsTaken k n).hsq = n.hsq ∧
    (rowsTaken k n).cfs.release = n.cfs.release ∧ (rowsTaken k n).cfs.releaseTrouble = n.cfs.releaseTrouble ∧
    (rowsTaken k n).cfs.phase = if 13 ≤ k then .validate else .load := by
  unfold rowsTaken; cases n.correctsTo k <;> exact ⟨rfl, rfl, rfl, rfl⟩

theorem loadRows_cfs (k : Nat) (n : Node) : (loadRows k n).cfs.rows = n.cfs.rows ∧
    (loadRows k n).cfs.rowResult = resultsTo k n ∧ (loadRows k n).cfs.kept = keptTo k n ∧
    (loadRows k n).cfs.findings = n.cfs.findings ∧ (loadRows k n).cfs.nodeId = n.cfs.nodeId ∧
    (loadRows k n).cfs.phase = (if 13 ≤ k then .validate else .load) ∧ (loadRows k n).held = n.held := by
  have hrows : (rowsTaken k n).cfs.rows = n.cfs.rows ∧ (rowsTaken k n).cfs.findings = n.cfs.findings ∧
      (rowsTaken k n).cfs.nodeId = n.cfs.nodeId ∧ (rowsTaken k n).held = n.held := by
    unfold rowsTaken; cases n.correctsTo k <;> exact ⟨rfl, rfl, rfl, rfl⟩
  obtain ⟨h1, h2, h3, h4⟩ := hrows
  obtain ⟨hres, hkept, -⟩ := rowsTaken_holds false k n
  obtain ⟨-, -, -, hphase⟩ := rowsTaken_rest k n
  have hrel : ∀ m : Node, (takeRelease m).cfs.rows = m.cfs.rows ∧ (takeRelease m).cfs.rowResult = m.cfs.rowResult ∧
      (takeRelease m).cfs.kept = m.cfs.kept ∧ (takeRelease m).cfs.findings = m.cfs.findings ∧
      (takeRelease m).cfs.nodeId = m.cfs.nodeId ∧ (takeRelease m).cfs.phase = m.cfs.phase ∧
      (takeRelease m).held = m.held := fun m => by
    rw [takeRelease_eq]
    cases decide ((releaseOf m.cfs.kept).state = .unreadable) <;> exact ⟨rfl, rfl, rfl, rfl, rfl, rfl, rfl⟩
  rw [loadRows_eq]; split
  · obtain ⟨r1, r2, r3, r4, r5, r6, r7⟩ := hrel (rowsTaken k n)
    exact ⟨r1.trans h1, r2.trans hres, r3.trans hkept, r4.trans h2, r5.trans h3, r6.trans hphase, r7.trans h4⟩
  · exact ⟨h1, hres, hkept, h2, h3, hphase, h4⟩

theorem loadRows_idle (k : Nat) (n : Node) : (loadRows k n).running = false := by
  obtain ⟨-, -, -, -, -, hp, -⟩ := loadRows_cfs k n
  unfold Node.running; rw [hp]
  split <;> simp

theorem releaseTaken_flagged (n : Node) : (takeRelease n).hsq = (releaseTaken n).hsq ∧
    (takeRelease n).cfs.release = (releaseTaken n).cfs.release ∧
    (takeRelease n).cfs.releaseTrouble = (releaseTaken n).cfs.releaseTrouble := by
  rw [takeRelease_eq]
  cases decide ((releaseOf n.cfs.kept).state = .unreadable) <;> exact ⟨rfl, rfl, rfl⟩

/-- With row 12 read, the release record and the hall state are those that it gives. -/
theorem loadRows_release (h : n.unread) (hk : 13 ≤ k) :
    (loadRows k n).hsq = { n.hsq with hall :=
      if (releaseOf (keptTo k n)).state = .clear then .quiet else .spent } ∧
    (loadRows k n).cfs.release = releaseOf (keptTo k n) ∧
    (loadRows k n).cfs.releaseTrouble = decide ((releaseOf (keptTo k n)).state = .unreadable) := by
  have hkept : (rowsTaken k n).cfs.kept = keptTo k n := (rowsTaken_holds false k n).2.1
  obtain ⟨hhsq, -⟩ := rowsTaken_rest k n
  obtain ⟨h1, h2, h3⟩ := releaseTaken_flagged (rowsTaken k n)
  rw [loadRows_all h hk, h1, h2, h3]
  unfold releaseTaken; dsimp only
  rw [hkept, hhsq]
  exact ⟨rfl, rfl, rfl⟩

/-- With all rows read, the data kept are those of every row. -/
theorem keptTo_full (h : n.unread) (hk : 13 ≤ k) : keptTo k n = Vector.ofFn (fun r => (n.row r).read.2) := by
  refine vec_ext fun r => ?_
  have := r.isLt
  rw [keptTo_get h, vget_ofFn, if_pos (by omega)]

theorem rowLost_full (h : n.unread) (hk : 13 ≤ k) :
    n.rowLost k = decide ((releaseOf (keptTo k n)).state = .unreadable) := by
  unfold Node.rowLost
  have : (12 : RowId).val = 12 := rfl
  rw [readsRow_unread h, decide_eq_true (by omega), Bool.true_and]

theorem rowLost_part (h : n.unread) (hk : k < 13) : n.rowLost k = false := by
  unfold Node.rowLost
  have : (12 : RowId).val = 12 := rfl
  rw [readsRow_unread h, decide_eq_false (by omega), Bool.false_and]

end

end Sys2Proof.Machine

/-! # The ATTN line is read by no block (O47)

LOAD taken in two parts drives the ATTN line in between. Every operation that the entry to RUN can come to
leaves that line and does not read it, so it commutes with `withAttn`. -/

namespace Sys2Proof.Machine

theorem ite_withAttn {b : Bool} {c : Prop} [Decidable c] {x y x' y' : Node} (hx : x' = withAttn b x)
    (hy : y' = withAttn b y) : (if c then x' else y') = withAttn b (if c then x else y) := by
  split
  · exact hx
  · exact hy

section
variable (b : Bool)

/-! ## Frames -/

theorem queueStanding_withAttn (n : Node) : queueStanding (withAttn b n) = withAttn b (queueStanding n) :=
  ite_withAttn rfl rfl

theorem queueBid_withAttn (x : BidContent) (n : Node) :
    queueBid x (withAttn b n) = withAttn b (queueBid x n) := ite_withAttn rfl rfl

theorem queueWayopen_withAttn (i : NodeId) (k : Nat) (n : Node) :
    queueWayopen i k (withAttn b n) = withAttn b (queueWayopen i k n) := ite_withAttn rfl rfl

theorem queueVent_withAttn (g : Nat) (n : Node) : queueVent g (withAttn b n) = withAttn b (queueVent g n) :=
  ite_withAttn rfl rfl

theorem queueYield_withAttn (i : NodeId) (n : Node) :
    queueYield i (withAttn b n) = withAttn b (queueYield i n) := ite_withAttn rfl (ite_withAttn rfl rfl)

theorem sendBid_withAttn (n : Node) : sendBid (withAttn b n) = withAttn b (sendBid n) := by
  unfold sendBid
  rw [show (withAttn b n).cfg.holder = n.cfg.holder from rfl]
  cases n.cfg.holder with
  | none => rfl
  | some h => exact queueBid_withAttn b _ { n with rcl.bid := .queued, rcl.rebid := false }

theorem sendYield_withAttn (n : Node) : sendYield (withAttn b n) = withAttn b (sendYield n) := by
  unfold sendYield
  rw [show (withAttn b n).cfg.holder = n.cfg.holder from rfl]
  cases n.cfg.holder with
  | none => rfl
  | some h => exact queueYield_withAttn b h n

theorem sendWayopen_withAttn (n : Node) : sendWayopen (withAttn b n) = withAttn b (sendWayopen n) := by
  unfold sendWayopen
  rw [show (withAttn b n).cfg.holder = n.cfg.holder from rfl]
  cases n.cfg.holder with
  | none => rfl
  | some h => exact queueWayopen_withAttn b h _ { n with
      rcl.asked := min n.rcl.grantHeard n.rcl.left, rcl.phase := .requested,
      rcl.feedTimeout := some (n.now + 1000 * n.cfg.feedTimeout) }

/-! ## The selector -/

theorem selClose_withAttn (n : Node) : selClose (withAttn b n) = withAttn b (selClose n) := by
  unfold selClose
  rw [show (withAttn b n).vcu.selector.state = n.vcu.selector.state from rfl]
  cases n.vcu.selector.state <;> rfl

theorem selOpen_withAttn (n : Node) : selOpen (withAttn b n) = withAttn b (selOpen n) := by
  refine ite_withAttn rfl ?_
  rw [show (withAttn b n).vcu.selector.state = n.vcu.selector.state from rfl]
  cases n.vcu.selector.state <;> rfl

/-! ## The Reserve Client -/

theorem placeOrHold_withAttn (n : Node) : placeOrHold (withAttn b n) = withAttn b (placeOrHold n) :=
  ite_withAttn (sendBid_withAttn b n) rfl

theorem rclCountdown_withAttn (n : Node) : rclCountdown (withAttn b n) = withAttn b (rclCountdown n) := by
  have hm : (if (withAttn b n).rcl.closePending then selClose (withAttn b n) else withAttn b n) =
      withAttn b (if n.rcl.closePending then selClose n else n) := ite_withAttn (selClose_withAttn b n) rfl
  unfold rclCountdown; rw [hm]
  generalize (if n.rcl.closePending then selClose n else n) = m
  exact ite_withAttn rfl (placeOrHold_withAttn b { m with rcl := { Rcl.start with n := m.apl.nRes } })

/-- The bid in state `st` brought to the count `k` of the re-plan (R122). -/
def bidBrought (st : BidState) (k : Nat) (n : Node) : Node :=
  match st with
  | .none => placeOrHold n
  | .held => if k = 0 then { n with rcl.bid := .none } else n
  | .queued => if k = 0 then sendYield { n with rcl.bid := .none, rcl.rebid := false } else sendBid n
  | .placed => if k = 0 then sendYield { n with rcl.bid := .none, rcl.rebid := false } else sendBid n

theorem rclNewCount_eq (k : Nat) (n : Node) : rclNewCount k n =
    if k = n.rcl.bidCount then n else bidBrought n.rcl.bid k { n with rcl.n := k } := rfl

theorem bidBrought_withAttn (st : BidState) (k : Nat) (n : Node) :
    bidBrought st k (withAttn b n) = withAttn b (bidBrought st k n) := by
  have hdrop := sendYield_withAttn b { n with rcl.bid := .none, rcl.rebid := false }
  cases st
  case none => exact placeOrHold_withAttn b n
  case held => exact ite_withAttn rfl rfl
  case queued => exact ite_withAttn hdrop (sendBid_withAttn b n)
  case placed => exact ite_withAttn hdrop (sendBid_withAttn b n)

theorem rclNewCount_withAttn (k : Nat) (n : Node) :
    rclNewCount k (withAttn b n) = withAttn b (rclNewCount k n) := by
  rw [rclNewCount_eq, rclNewCount_eq]
  exact ite_withAttn rfl (bidBrought_withAttn b n.rcl.bid k { n with rcl.n := k })

theorem rclResolve_withAttn (o : ReserveOutcome) (n : Node) :
    rclResolve o (withAttn b n) = withAttn b (rclResolve o n) := ite_withAttn rfl rfl

theorem dropBid_withAttn (n : Node) : dropBid (withAttn b n) = withAttn b (dropBid n) :=
  ite_withAttn (sendYield_withAttn b { n with rcl.bid := .none, rcl.rebid := false }) rfl

theorem closeAfterFlow_withAttn (n : Node) : closeAfterFlow (withAttn b n) = withAttn b (closeAfterFlow n) :=
  ite_withAttn (ite_withAttn rfl (selClose_withAttn b n)) rfl

theorem rclEnd_withAttn (x : Bool) (n : Node) : rclEnd x (withAttn b n) = withAttn b (rclEnd x n) := by
  unfold rclEnd
  rw [dropBid_withAttn, closeAfterFlow_withAttn, rclResolve_withAttn]; rfl

theorem rclAct_withAttn (n : Node) : rclAct (withAttn b n) = withAttn b (rclAct n) := by
  refine ite_withAttn ?_ rfl
  rw [show (withAttn b n).vcu.selector.state = n.vcu.selector.state from rfl]
  cases n.vcu.selector.state
  case closed => exact selOpen_withAttn b { n with rcl.phase := .opening }
  case closing => exact selOpen_withAttn b { n with rcl.phase := .opening }
  case opening => rfl
  case opened => exact sendWayopen_withAttn b n
  case jammed => exact rclEnd_withAttn b false n

theorem rclBegin_withAttn (n : Node) : rclBegin (withAttn b n) = withAttn b (rclBegin n) :=
  rclAct_withAttn b { n with rcl.wait := .running (n.now + 1000 * n.cfg.reserveWait), rcl.phase := .waitingGrant }

/-! ## The release -/

theorem epoTest_withAttn (n : Node) : epoTest (withAttn b n) = withAttn b (epoTest n) := ite_withAttn rfl rfl

theorem epoAtExpiry_withAttn (n : Node) : epoAtExpiry (withAttn b n) = withAttn b (epoAtExpiry n) :=
  ite_withAttn rfl rfl

theorem holdOperated_withAttn (n : Node) : holdOperated (withAttn b n) = withAttn b (holdOperated n) := by
  cases h : n.hsq.hall
  all_goals
    unfold holdOperated
    rw [show (withAttn b n).hsq.hall = _ from h, h]
  case countdown => exact ite_withAttn rfl rfl
  all_goals rfl

theorem releaseWrite_withAttn (x y z : Nat) (n : Node) :
    releaseWrite x y z (withAttn b n) = withAttn b (releaseWrite x y z n) := ite_withAttn rfl rfl

/-- An optional node with this ATTN line. -/
theorem requestHall_withAttn (c : ChanId) (n : Node) :
    requestHall c (withAttn b n) = (requestHall c n).map (withAttn b) := by
  by_cases h : (n.chan c).role = .hall ∧ (n.chan c).state = .ready ∧ n.hsq.hall = .discharging
  · rw [requestHall_accepted h.1 h.2.1 h.2.2]
    exact requestHall_accepted (n := withAttn b n) h.1 h.2.1 h.2.2
  · have hn : requestHall c n = none := if_neg h
    rw [hn]; exact if_neg h

theorem seekOwn_withAttn (ds : List ChanId) (n : Node) :
    seekOwn ds (withAttn b n) = withAttn b (seekOwn ds n) := by
  induction ds generalizing n with
  | nil => rfl
  | cons d ds ih =>
    unfold seekOwn; rw [requestHall_withAttn]
    cases requestHall d n with
    | none => exact ih { n with hsq.firing := n.hsq.firing ++ [(d, .failed)] }
    | some m => rfl

theorem ownFailed_withAttn (c : ChanId) (n : Node) : ownFailed c (withAttn b n) = withAttn b (ownFailed c n) := by
  rw [ownFailed_spares, ownFailed_spares]
  exact seekOwn_withAttn b n.ownSpares (markOwn c .failed n)

theorem requestOwn_withAttn (cs : List ChanId) (n : Node) :
    requestOwn cs (withAttn b n) = withAttn b (requestOwn cs n) := by
  induction cs generalizing n with
  | nil => rfl
  | cons c cs ih =>
    unfold requestOwn; rw [requestHall_withAttn]
    cases requestHall c n with
    | none => exact (congrArg (requestOwn cs) (ownFailed_withAttn b c n)).trans (ih _)
    | some m => exact ih m

theorem openReserve_withAttn (n : Node) : openReserve (withAttn b n) = withAttn b (openReserve n) :=
  ite_withAttn (rclBegin_withAttn b { n with hsq.reservePhase := .opened }) rfl

/-- The release written, with the own pulses requested of the given channels. -/
theorem fireOwn_withAttn (cs : List ChanId) (n : Node) : fireOwn cs (withAttn b n) = withAttn b (fireOwn cs n) :=
  requestOwn_withAttn b cs { n with hsq.firing := cs.map (fun c => (c, .pending)) }

theorem dischargeFired_withAttn (n : Node) : dischargeFired (withAttn b n) = withAttn b (dischargeFired n) := by
  have hw : dischargeWritten (withAttn b n) = withAttn b (dischargeWritten n) :=
    releaseWrite_withAttn b _ _ _ (toDischarging n)
  unfold dischargeFired; rw [hw]
  exact fireOwn_withAttn b _ (dischargeWritten n)

theorem enterDischarging_withAttn (n : Node) :
    enterDischarging (withAttn b n) = withAttn b (enterDischarging n) := by
  rw [enterDischarging_eq, enterDischarging_eq, dischargeFired_withAttn, openReserve_withAttn]; rfl

end

end Sys2Proof.Machine

/-! # The ATTN line is read by no block: the entry to RUN (O47) -/

namespace Sys2Proof.Machine

section
variable (b : Bool)

/-! ## The countdown and its expiry -/

theorem takeSlot_withAttn {r r' : Node × Bool} (h1 : r'.1 = withAttn b r.1) (h2 : r'.2 = r.2) :
    takeSlot r' = withAttn b (takeSlot r) := by
  have hheld : ∀ n : Node, slotHeld (withAttn b n) = withAttn b (slotHeld n) := fun n =>
    ite_withAttn (enterDischarging_withAttn b n) rfl
  unfold takeSlot; rw [h1, h2]
  exact ite_withAttn (hheld r.1) rfl

theorem vsuAsk_withAttn (n : Node) : (vsuAsk (withAttn b n)).1 = withAttn b (vsuAsk n).1 ∧
    (vsuAsk (withAttn b n)).2 = (vsuAsk n).2 := by
  by_cases h : n.vsuActive = true
  · have h1 : vsuAsk n = (queueVent n.cfg.ventGroup { n with
        vsu.sought := true, vsu.slotWait := some (n.now + 1000 * n.cfg.slotWait),
        vsu.own := if n.refusesFrames then .held else .queued }, false) := if_pos h
    have h2 : vsuAsk (withAttn b n) = (queueVent n.cfg.ventGroup (withAttn b { n with
        vsu.sought := true, vsu.slotWait := some (n.now + 1000 * n.cfg.slotWait),
        vsu.own := if n.refusesFrames then .held else .queued }), false) := if_pos h
    rw [h1, h2]; exact ⟨queueVent_withAttn b _ _, rfl⟩
  · have h1 : vsuAsk n = (n, true) := if_neg h
    have h2 : vsuAsk (withAttn b n) = (withAttn b n, true) := if_neg h
    rw [h1, h2]; exact ⟨rfl, rfl⟩

theorem atExpiry_withAttn (n : Node) : atExpiry (withAttn b n) = withAttn b (atExpiry n) := by
  unfold atExpiry; dsimp only
  rw [show aplReplan (withAttn b n) = withAttn b (aplReplan n) from rfl,
    show (withAttn b (aplReplan n)).apl.nRes = (aplReplan n).apl.nRes from rfl, rclNewCount_withAttn,
    epoAtExpiry_withAttn]
  rfl

theorem enterFallback_withAttn (n : Node) : enterFallback (withAttn b n) = withAttn b (enterFallback n) := by
  have hw : fallbackWritten (withAttn b n) = withAttn b (fallbackWritten n) :=
    releaseWrite_withAttn b _ _ _ (toDischarging n)
  have hf : fallbackFired (withAttn b n) = withAttn b (fallbackFired n) := by
    unfold fallbackFired; rw [hw]
    exact fireOwn_withAttn b _ (fallbackWritten n)
  rw [enterFallback_eq, enterFallback_eq, hf]; rfl

theorem isolatedRelease_withAttn (n : Node) :
    isolatedRelease (withAttn b n) = withAttn b (isolatedRelease n) := by
  have he : enterDischarging ((withAttn b n).setFlag .isolatedRelease) =
      withAttn b (enterDischarging (n.setFlag .isolatedRelease)) :=
    enterDischarging_withAttn b (n.setFlag .isolatedRelease)
  unfold isolatedRelease; rw [he]
  exact ite_withAttn rfl rfl

theorem expire_withAttn (n : Node) : expire (withAttn b n) = withAttn b (expire n) := by
  cases hn : n.normal with
  | false => rw [expire_fallback hn, expire_fallback (n := withAttn b n) hn, enterFallback_withAttn]
  | true =>
    by_cases hl : n.lkc.link = .lost
    · rw [expire_normal_lost hn hl, expire_normal_lost (n := withAttn b n) hn hl, atExpiry_withAttn,
        isolatedRelease_withAttn]
    · obtain ⟨h1, h2⟩ := vsuAsk_withAttn b (atExpiry n)
      rw [expire_normal hn hl, expire_normal (n := withAttn b n) hn hl, atExpiry_withAttn,
        takeSlot_withAttn b h1 h2]

theorem expireIfDone_withAttn (n : Node) : expireIfDone (withAttn b n) = withAttn b (expireIfDone n) :=
  ite_withAttn (expire_withAttn b n) rfl

theorem aplPlan_withAttn (n : Node) : aplPlan (withAttn b n) = withAttn b (aplPlan n) := by
  unfold aplPlan; dsimp only
  rw [← setFlagIf_withAttn]; rfl

theorem enterCountdown_withAttn (c : Cause) (left : Nat) (n : Node) :
    enterCountdown c left (withAttn b n) = withAttn b (enterCountdown c left n) := by
  have hplan := aplPlan_withAttn b (startCountdown c left n)
  have hbegun : countdownBegun c left (withAttn b n) = withAttn b (countdownBegun c left n) := by
    refine ite_withAttn ?_ rfl
    rw [show startCountdown c left (withAttn b n) = withAttn b (startCountdown c left n) from rfl, hplan,
      rclCountdown_withAttn]
  have hentered : countdownEntered c left (withAttn b n) = withAttn b (countdownEntered c left n) := by
    unfold countdownEntered; rw [hbegun, epoTest_withAttn]
    exact ite_withAttn (holdOperated_withAttn b _) rfl
  rw [enterCountdown_eq, enterCountdown_eq, hentered, expireIfDone_withAttn]

/-! ## The events of the entry to RUN -/

theorem rest_withAttn (n : Node) : rest (withAttn b n) = withAttn b (rest n) := ite_withAttn rfl rfl

theorem reeval_withAttn (n : Node) : reeval (withAttn b n) = withAttn b (reeval n) :=
  ite_withAttn (ite_withAttn (enterCountdown_withAttn b _ _ n) (rest_withAttn b n)) rfl

theorem zoneEvent_withAttn (z : Zone) (k : Nat) (n : Node) :
    zoneEvent z k (withAttn b n) = withAttn b (zoneEvent z k n) := by
  have hread : zoneRead z k (withAttn b n) = withAttn b (zoneRead z k n) := by cases z <;> rfl
  unfold zoneEvent; rw [hread]
  exact (reeval_withAttn b (zonesCopied (zoneRead z k n)) :)

theorem resume_withAttn (left : Nat) (n : Node) : resume left (withAttn b n) = withAttn b (resume left n) := by
  have he := epoTest_withAttn b { n with hsq.hall := .countdown, hsq.countdown := .running (n.now + left) }
  unfold resume
  exact (congrArg expireIfDone he).trans (expireIfDone_withAttn b _)

theorem holdReleased_withAttn (n : Node) : holdReleased (withAttn b n) = withAttn b (holdReleased n) :=
  ite_withAttn (resume_withAttn b _ n) rfl

/-- The sequencer takes a hold switch event (R9, R10). -/
def holdActs (p : HoldPos) (n : Node) : Node :=
  match p with
  | .operated => holdOperated n
  | .released => holdReleased n

/-- The node once the hold switch's record of a sample is taken. -/
def holdSampled (x : Bool) (k : Nat) (n : Node) : Node :=
  { n with fiu.hold := (n.fiu.hold.sample n.now x k).1 }

theorem holdEvent_eq (x : Bool) (k : Nat) (n : Node) : holdEvent x k n =
    if (n.fiu.hold.sample n.now x k).2 then
      holdActs (n.fiu.hold.sample n.now x k).1.delivered (holdSampled x k n)
    else holdSampled x k n := rfl

theorem holdActs_withAttn (p : HoldPos) (n : Node) : holdActs p (withAttn b n) = withAttn b (holdActs p n) := by
  cases p
  case operated => exact holdOperated_withAttn b n
  case released => exact holdReleased_withAttn b n

theorem holdEvent_withAttn (x : Bool) (k : Nat) (n : Node) :
    holdEvent x k (withAttn b n) = withAttn b (holdEvent x k n) := by
  rw [holdEvent_eq, holdEvent_eq]
  exact ite_withAttn (holdActs_withAttn b _ (holdSampled x k n)) rfl

end

end Sys2Proof.Machine

/-! # The entry to RUN in its stages (O47) -/

namespace Sys2Proof.Machine

/-! ## The stages -/

/-- FIU's records once the temperature, the hall pressure and the key are read (R29). -/
def firstFiu (i : LoadInputs) (now : Time) (f : Fiu) : Fiu :=
  { f with
    temp := { value := i.temperature, status := tempStatus i.temperature,
              sampleAt := now + Config.temperaturePeriod },
    press := { value := some i.pressure, status := pressStatus i.pressure, sampleAt := now + Config.readPeriod },
    key := (f.key.sample now true i.keyNormal i.keyIsolate).1 }

/-- The node with those readings. -/
def inputsRead (i : LoadInputs) (n : Node) : Node := { n with fiu := firstFiu i n.now n.fiu }

/-- The node with VCU's channels and selector built from their first reads, and the link started. -/
def unitsStarted (i : LoadInputs) (n : Node) : Node :=
  startLink (buildSelector (selReading i.selectorOpen i.selectorClosed) (buildChannels i.cylinders n))

/-- The node once the hold switch and the zone lines are read. -/
def linesRead (i : LoadInputs) (n : Node) : Node :=
  zoneEvent .b i.zoneB (zoneEvent .a i.zoneA (holdEvent true i.hold n))

theorem pressureEvent_elsewhere {x : Int} {n : Node} (h : n.hsq.hall ≠ .discharging) :
    pressureEvent x n = { n with fiu.press := { value := some x, status := pressStatus x,
                                                sampleAt := n.now + Config.readPeriod } } := if_pos h

theorem enterRun_eq (i : LoadInputs) {n : Node} (h : n.hsq.hall ≠ .discharging) :
    enterRun i n = startSupervision (stationEvent i.manual (linesRead i (hsqFirstKey (unitsStarted i (inputsRead i n))))) := by
  unfold enterRun; dsimp only
  rw [pressureEvent_elsewhere (n := temperatureEvent i.temperature n) h]; rfl

/-! ## Each stage commutes with the ATTN line -/

section
variable (b : Bool)

theorem buildSelector_withAttn (r : SelReading) (n : Node) :
    buildSelector r (withAttn b n) = withAttn b (buildSelector r n) := by cases r <;> rfl

theorem unitsStarted_withAttn (i : LoadInputs) (n : Node) :
    unitsStarted i (withAttn b n) = withAttn b (unitsStarted i n) := by
  have hsel := buildSelector_withAttn b (selReading i.selectorOpen i.selectorClosed) (buildChannels i.cylinders n)
  unfold unitsStarted
  rw [show buildChannels i.cylinders (withAttn b n) = withAttn b (buildChannels i.cylinders n) from rfl, hsel]
  generalize buildSelector (selReading i.selectorOpen i.selectorClosed) (buildChannels i.cylinders n) = m
  exact queueStanding_withAttn b { m with
    lkc.silence := some (m.now + 3 * m.cfg.period), lkc.status := some (m.now + m.cfg.period) }

theorem rclGiveUp_withAttn (n : Node) : rclGiveUp (withAttn b n) = withAttn b (rclGiveUp n) := by
  have hstop : (if (withAttn b n).rcl.claims then sendYield (rclStopped (withAttn b n)) else
      rclStopped (withAttn b n)) = withAttn b (if n.rcl.claims then sendYield (rclStopped n) else rclStopped n) :=
    ite_withAttn (sendYield_withAttn b (rclStopped n)) rfl
  have hbid : bidGivenUp (withAttn b n) = withAttn b (bidGivenUp n) := by
    unfold bidGivenUp; rw [hstop, selClose_withAttn]
  rw [rclGiveUp_eq, rclGiveUp_eq, hbid]
  exact ite_withAttn (rclResolve_withAttn b _ _) rfl

theorem enterLockout_withAttn (n : Node) : enterLockout (withAttn b n) = withAttn b (enterLockout n) :=
  ite_withAttn rfl (reeval_withAttn b (lockoutLeft (lockedOut n)))

theorem hsqIsolate_withAttn {n : Node} (h : n.hsq.hall = .quiet ∨ n.hsq.hall = .spent) :
    hsqIsolate (withAttn b n) = withAttn b (hsqIsolate n) := by
  rcases h with h | h
  · have hq : ∀ m : Node, m.hsq.hall = .quiet → hsqIsolate m = enterLockout (rclGiveUp m) := fun m hm => by
      unfold hsqIsolate; rw [hm]
    rw [hq n h, hq (withAttn b n) h, rclGiveUp_withAttn, enterLockout_withAttn]
  · rw [hsqIsolate_after (.inr (.inl h)), hsqIsolate_after (n := withAttn b n) (.inr (.inl h))]

theorem hsqFirstKey_withAttn {n : Node} (h : n.hsq.hall = .quiet ∨ n.hsq.hall = .spent) :
    hsqFirstKey (withAttn b n) = withAttn b (hsqFirstKey n) :=
  ite_withAttn (hsqIsolate_withAttn b h) (ite_withAttn (reeval_withAttn b (lockoutLeft n)) rfl)

theorem linesRead_withAttn (i : LoadInputs) (n : Node) :
    linesRead i (withAttn b n) = withAttn b (linesRead i n) := by
  unfold linesRead
  rw [holdEvent_withAttn, zoneEvent_withAttn, zoneEvent_withAttn]

theorem validate_withAttn (n : Node) : validate (withAttn b n) = withAttn b (validate n) := by
  unfold validate; dsimp only
  rw [← setFlagIf_withAttn]; rfl

end

/-! ## What the start of the units leaves -/

theorem buildSelector_eq (r : SelReading) (n : Node) : buildSelector r n =
    { n with vcu := (buildSelector r n).vcu, svp := (buildSelector r n).svp } := by cases r <;> rfl

/-- The node with LKC's timers started and a STANDING waiting (R92). -/
def linkStarted (n : Node) : Node :=
  { n with lkc := { n.lkc with
    silence := some (n.now + 3 * n.cfg.period), status := some (n.now + n.cfg.period),
    outbox := { n.lkc.outbox with standing := true } } }

theorem startLink_eq {n : Node} (h : n.lkc.clash = false) : startLink n = linkStarted n :=
  if_neg (by rw [h]; exact Bool.false_ne_true)

/-- VCU's record and the flags once the channels and the selector are built. -/
def unitsBuilt (i : LoadInputs) (n : Node) : Node :=
  buildSelector (selReading i.selectorOpen i.selectorClosed) (buildChannels i.cylinders n)

theorem unitsStarted_eq (i : LoadInputs) {n : Node} (h : n.lkc.clash = false) : unitsStarted i n =
    { linkStarted n with vcu := (unitsBuilt i n).vcu, svp := (unitsBuilt i n).svp } := by
  have hb : unitsBuilt i n = { n with vcu := (unitsBuilt i n).vcu, svp := (unitsBuilt i n).svp } :=
    buildSelector_eq _ (buildChannels i.cylinders n)
  change startLink (unitsBuilt i n) = _
  rw [hb, startLink_eq (by exact h)]; rfl

/-! ## What the first samples leave -/

/-- What the first sample of a line leaves outside the course of a release. -/
def Node.outer (n : Node) : StationRec × LinkState × Bool × Bool × Phase :=
  (n.fiu.station, n.lkc.link, n.lkc.outbox.standing, n.held, n.cfs.phase)

theorem outer_of_sansConfirm {a b : Node} (h : a.sansConfirm = b.sansConfirm) : a.outer = b.outer :=
  (congrArg (fun m => (m.fiu.station, m.lkc.link, m.lkc.outbox.standing, m.held, m.cfs.phase)) h :)

theorem outer_of_sansCourse {a b : Node} (h : a.sansCourse = b.sansCourse) : a.outer = b.outer :=
  (congrArg (fun m => (m.fiu.station, m.lkc.link, m.lkc.outbox.standing, m.held, m.cfs.phase)) h :)

theorem reeval_outer (n : Node) : (reeval n).outer = n.outer := outer_of_sansConfirm (reeval_sansConfirm n)

theorem zoneEvent_outer (z : Zone) (k : Nat) (n : Node) : (zoneEvent z k n).outer = n.outer := by
  have hread : (zonesCopied (zoneRead z k n)).outer = n.outer := by cases z <;> rfl
  exact (reeval_outer _).trans hread

theorem holdEvent_outer (x : Bool) (k : Nat) (n : Node) : (holdEvent x k n).outer = n.outer := by
  have hacts : ∀ p (m : Node), (holdActs p m).outer = m.outer := fun p m => by
    cases p
    case operated => exact outer_of_sansCourse (holdOperated_sansCourse m)
    case released =>
      change (if m.hsq.hall = .hold then _ else _ : Node).outer = _
      split
      · exact outer_of_sansCourse (resume_sansCourse _ m)
      · rfl
  rw [holdEvent_eq]; split
  · exact hacts _ (holdSampled x k n)
  · rfl

theorem linesRead_outer (i : LoadInputs) (n : Node) : (linesRead i n).outer = n.outer := by
  unfold linesRead; rw [zoneEvent_outer, zoneEvent_outer, holdEvent_outer]

theorem hsqFirstKey_outer {n : Node} (h : n.hsq.hall = .quiet ∨ n.hsq.hall = .spent) :
    (hsqFirstKey n).outer = n.outer := by
  unfold hsqFirstKey; split
  next hk =>
    rcases h with h | h
    · rw [hsqIsolate_before hk (by rw [h]; simp [hallBefore])]
      have hgive : (rclGiveUp n).outer = n.outer :=
        outer_of_sansCourse (sansCourse_of_sansClient (rclGiveUp_sansClient n))
      have hrel : releaseGivenUp n = rclGiveUp n := if_neg (by rw [h]; decide)
      rw [hrel]; exact hgive
    · rw [hsqIsolate_after (.inr (.inl h))]
  next =>
    unfold hsqNormal; split
    · exact reeval_outer (lockoutLeft n)
    · rfl

/-- A station's first sample never gives a release event (R29, R36). -/
theorem stationEvent_first {k : Nat} {n : Node} (h : n.fiu.station.opRun = none) :
    stationEvent k n = { n with fiu.station := (n.fiu.station.sample n.now k).1 } := by
  refine if_neg ?_
  change ¬ (operatedStep n.now (stationClass k) n.fiu.station.opRun).2 = true
  rw [h]; unfold operatedStep
  split
  · simp [Config.operatedTime]
  · exact Bool.false_ne_true

theorem enterRun_stages (i : LoadInputs) {n : Node} (h : n.hsq.hall = .quiet ∨ n.hsq.hall = .spent) :
    enterRun i n =
      startSupervision (stationEvent i.manual (linesRead i (hsqFirstKey (unitsStarted i (inputsRead i n))))) :=
  enterRun_eq i (by rcases h with h | h <;> rw [h] <;> decide)

section
variable (i : LoadInputs) {n : Node} (h : n.hsq.hall = .quiet ∨ n.hsq.hall = .spent)
  (hc : n.lkc.clash = false) (hst : n.fiu.station.opRun = none)
include h hc

/-- The node before the manual station is read. -/
theorem linesRead_first : (linesRead i (hsqFirstKey (unitsStarted i (inputsRead i n)))).outer =
    (n.fiu.station, n.lkc.link, true, n.held, n.cfs.phase) := by
  have hu : unitsStarted i (inputsRead i n) = _ := unitsStarted_eq i (n := inputsRead i n) hc
  rw [linesRead_outer, hsqFirstKey_outer (by rw [hu]; exact h), hu]; rfl

include hst

theorem enterRun_withAttn (b : Bool) : enterRun i (withAttn b n) = withAttn b (enterRun i n) := by
  have hlines := linesRead_first i h hc
  have hu : (unitsStarted i (inputsRead i n)).hsq.hall = .quiet ∨
      (unitsStarted i (inputsRead i n)).hsq.hall = .spent := by
    rw [unitsStarted_eq i (n := inputsRead i n) hc]; exact h
  have hwith : linesRead i (hsqFirstKey (unitsStarted i (inputsRead i (withAttn b n)))) =
      withAttn b (linesRead i (hsqFirstKey (unitsStarted i (inputsRead i n)))) := by
    rw [show inputsRead i (withAttn b n) = withAttn b (inputsRead i n) from rfl, unitsStarted_withAttn,
      hsqFirstKey_withAttn b hu, linesRead_withAttn]
  rw [enterRun_stages i h, enterRun_stages i (n := withAttn b n) h, hwith]
  generalize linesRead i (hsqFirstKey (unitsStarted i (inputsRead i n))) = m at hlines ⊢
  have hm : m.fiu.station.opRun = none := by
    rw [show m.fiu.station = n.fiu.station from congrArg Prod.fst hlines]; exact hst
  rw [stationEvent_first hm, stationEvent_first (n := withAttn b m) hm]
  rfl

end

end Sys2Proof.Machine

/-! # LOAD in two parts comes to the same end (O47) -/

namespace Sys2Proof.Machine

/-! ## The end of the event -/

theorem settleChanges_withAttn (b : Bool) (now : Time) (old p : Pou) :
    settleChanges now { old with attn := b } p = settleChanges now old p := by
  have hlevel : ∀ o, ({ old with attn := b } : Pou).level o = old.level o := fun o => by cases o <;> rfl
  unfold settleChanges
  simp only [hlevel]

theorem outputs_withAttn (b : Bool) (n : Node) : (withAttn b n).outputs = n.outputs := by
  have hstage : ∃ x, (withAttn b n).pou.setStage (withAttn b n).now (withAttn b n).stageNow =
      { n.pou.setStage n.now n.stageNow with attn := x } := by
    unfold Pou.setStage
    by_cases h : n.pou.stage = n.stageNow
    · exact ⟨b, (if_pos h).trans (by rw [if_pos h]; rfl)⟩
    · exact ⟨b, (if_neg h).trans (by rw [if_neg h]; rfl)⟩
  obtain ⟨x, hx⟩ := hstage
  unfold Node.outputs; rw [hx]; rfl

theorem pouEval_withAttn (b : Bool) (n : Node) : pouEval (withAttn b n) = pouEval n := by
  have hpou : settleChanges n.now { n.pou with attn := b } n.outputs = settleChanges n.now n.pou n.outputs :=
    settleChanges_withAttn b _ _ _
  unfold pouEval; rw [outputs_withAttn]
  change ({ n with pou := settleChanges n.now { n.pou with attn := b } n.outputs } : Node) = _
  rw [hpou]

/-- A STANDING that waits is not queued again. -/
theorem announce_waiting {b n : Node} (h : n.lkc.outbox.standing = true) : announce b n = n := by
  have hq : queueStanding n = n := by
    unfold queueStanding; split
    · rfl
    · change ({ n with lkc.outbox := { n.lkc.outbox with standing := true } } : Node) = n
      rw [← h]
  unfold announce; rw [hq]; exact ite_self n

/-- At the end of an event in RUN that leaves a STANDING waiting, neither the node before it nor the ATTN
line as it was plays a part. -/
theorem finish_withAttn {a b n : Node} (x : Bool) (hr : n.running = true) (h : n.lkc.outbox.standing = true) :
    finish a (withAttn x n) = finish b n := by
  have h1 : finish a (withAttn x n) = placementTest (announce a (pouEval (withAttn x n))) := if_pos hr
  have h2 : finish b n = placementTest (announce b (pouEval n)) := if_pos hr
  have hwait : ∀ c, announce c (pouEval n) = pouEval n := fun c => announce_waiting h
  rw [h1, h2, pouEval_withAttn, hwait, hwait]

/-! ## LOAD to its end -/

/-- VALIDATE leaves everything but the store's record, the mode and the flags. -/
theorem validate_eq (n : Node) : validate n =
    { n with cfs := (validate n).cfs, hsq := { n.hsq with mode := (validate n).hsq.mode },
             svp := (validate n).svp } := by
  unfold validate Node.setFlagIf; dsimp only; split <;> rfl

theorem validate_phase (n : Node) : (validate n).cfs.phase = .run := by
  unfold validate Node.setFlagIf; dsimp only; split <;> rfl

theorem validate_running {n : Node} (h : n.held = false) : (validate n).running = true := by
  have hh : (validate n).held = n.held := by rw [validate_eq]; rfl
  unfold Node.running; rw [validate_phase, hh, h]; rfl

section
variable {n : Node}

/-- The entry to RUN ends in RUN, with a STANDING waiting. -/
theorem enterRun_waits (i : LoadInputs) (h : n.hsq.hall = .quiet ∨ n.hsq.hall = .spent)
    (hc : n.lkc.clash = false) (hst : n.fiu.station.opRun = none) (hr : n.running = true) :
    (enterRun i n).running = true ∧ (enterRun i n).lkc.outbox.standing = true := by
  have hlines := linesRead_first i h hc
  rw [enterRun_stages i h]
  generalize linesRead i (hsqFirstKey (unitsStarted i (inputsRead i n))) = m at hlines ⊢
  simp only [Node.outer, Prod.mk.injEq] at hlines
  obtain ⟨hstation, -, hstand, hheld, hphase⟩ := hlines
  rw [stationEvent_first (by rw [hstation]; exact hst)]
  refine ⟨?_, hstand⟩
  change (!m.held && decide (m.cfs.phase = .run)) = true
  rw [hheld, hphase]; exact hr

end

/-! ## A part just reset -/

section
variable {n : Node} (h : n.fresh) (fs : List (RowId × Fin 128))
include h

/-- What a part just reset brings to LOAD. -/
theorem fresh_parts : n.lkc = .start ∧ n.fiu = .start n.now ∧ n.hsq = .start ∧ n.svp = .start ∧
    n.cfs.findings = [] ∧ n.held = false := by
  obtain ⟨_, _, _, _, _, rfl⟩ := h; exact ⟨rfl, rfl, rfl, rfl, rfl, rfl⟩

theorem load_part {i : LoadInputs} (hk : i.upTo ≤ 13) : load i n = loadRows i.upTo (flipRows i.flips n) := by
  unfold load; dsimp only
  rw [if_pos (fresh_phase h), if_neg (by omega)]

theorem load_full {i : LoadInputs} (hk : 13 < i.upTo) :
    load i n = enterRun i (validate (loadRows i.upTo (flipRows i.flips n))) := by
  unfold load; dsimp only
  rw [if_pos (fresh_phase h), if_pos hk]

end

theorem setFlagIf_eq (n : Node) (c : Bool) (f : Flag) :
    n.setFlagIf c f = { n with svp := (n.setFlagIf c f).svp } := by cases c <;> rfl

/-- LOAD's own steps write the store's record, the hall state and the flags. -/
theorem loadRows_sans (k : Nat) (n : Node) : loadRows k n =
    { n with cfs := (loadRows k n).cfs, hsq := (loadRows k n).hsq, svp := (loadRows k n).svp } := by
  have hr : rowsTaken k n = { n with cfs := (rowsTaken k n).cfs, svp := (rowsTaken k n).svp } := by
    unfold rowsTaken; rw [setFlagIf_eq]; rfl
  rw [loadRows_eq]; split
  · rw [takeRelease_eq, setFlagIf_eq]
    generalize rowsTaken k n = m at hr ⊢
    rw [hr]; rfl
  · generalize rowsTaken k n = m at hr ⊢
    rw [hr]

/-- The part in VALIDATE's end, from the part just reset. -/
def validated (k : Nat) (fs : List (RowId × Fin 128)) (n : Node) : Node := validate (loadRows k (flipRows fs n))

theorem validated_eq (k : Nat) (fs : List (RowId × Fin 128)) (n : Node) : validated k fs n =
    { n with cfs := (validated k fs n).cfs, hsq := (validated k fs n).hsq, svp := (validated k fs n).svp } := by
  have h1 := validate_eq (loadRows k (flipRows fs n))
  have h2 := loadRows_sans k (flipRows fs n)
  have h3 := flipRows_eq fs n
  unfold validated
  generalize validate (loadRows k (flipRows fs n)) = a at h1 ⊢
  generalize loadRows k (flipRows fs n) = b at h1 h2
  generalize flipRows fs n = c at h2 h3
  rw [h1, h2, h3]

theorem loadRows_restHall {k : Nat} {n : Node} (h : n.unread) (hk : 13 ≤ k) :
    (loadRows k n).hsq.hall = .quiet ∨ (loadRows k n).hsq.hall = .spent := by
  rw [(loadRows_release h hk).1]; dsimp only
  split
  · exact .inl rfl
  · exact .inr rfl

section
variable {n : Node} (h : n.fresh) {k : Nat} (fs : List (RowId × Fin 128))
include h

theorem validated_hall (hk : 13 ≤ k) :
    (validated k fs n).hsq.hall = .quiet ∨ (validated k fs n).hsq.hall = .spent := by
  have hv : (validated k fs n).hsq.hall = (loadRows k (flipRows fs n)).hsq.hall := by
    unfold validated; rw [validate_eq]
  rw [hv]; exact loadRows_restHall (flipRows_unread h fs) hk

/-- What the entry to RUN asks of the part that VALIDATE leaves. -/
theorem validated_ready : (validated k fs n).lkc.clash = false ∧
    (validated k fs n).fiu.station.opRun = none ∧ (validated k fs n).running = true := by
  obtain ⟨hl, hf, -, -, -, hh⟩ := fresh_parts h
  refine ⟨by rw [validated_eq, hl]; rfl, by rw [validated_eq, hf]; rfl, validate_running ?_⟩
  rw [(loadRows_cfs k _).2.2.2.2.2.2, flipRows_eq]; exact hh

end

/-- LOAD taken up to a row, and then to its end, comes to what LOAD comes to at once (log 49). -/
theorem load_in_parts {n : Node} (h : n.fresh) {i : LoadInputs} (hk : i.upTo ≤ 13) :
    finish (finish n (load i n)) (load { i with upTo := 14, flips := [] } (finish n (load i n))) =
      finish n (load { i with upTo := 14 } n) := by
  have hun := flipRows_unread h i.flips
  obtain ⟨hc, hst, hr⟩ := validated_ready h (k := 14) i.flips
  have hhall := validated_hall h (k := 14) i.flips (by decide)
  rw [load_part h hk, load_full h (i := { i with upTo := 14 }) (show 13 < 14 by decide),
    finish_before (loadRows_idle i.upTo (flipRows i.flips n))]
  have hrest : ∀ b, load { i with upTo := 14, flips := [] } (withAttn b (loadRows i.upTo (flipRows i.flips n))) =
      withAttn b (enterRun { i with upTo := 14 } (validated 14 i.flips n)) := fun b => by
    have hrows : (if (withAttn b (loadRows i.upTo (flipRows i.flips n))).cfs.phase = .load then
        loadRows 14 (flipRows [] (withAttn b (loadRows i.upTo (flipRows i.flips n))))
        else withAttn b (loadRows i.upTo (flipRows i.flips n))) =
        withAttn b (loadRows 14 (flipRows i.flips n)) := by
      obtain ⟨-, -, -, -, -, hphase, -⟩ := loadRows_cfs i.upTo (flipRows i.flips n)
      by_cases hall : 13 ≤ i.upTo
      · rw [if_pos hall] at hphase
        refine (if_neg fun hl => by cases hl.symm.trans hphase).trans ?_
        rw [loadRows_all hun hall,
          loadRows_all hun (show 13 ≤ 14 by decide), rowsTaken_full hun (j := 14) hall (by decide)]
      · rw [if_neg hall] at hphase
        refine (if_pos hphase).trans ?_; exact loadRows_loadRows hun b (by omega)
    unfold load; dsimp only
    rw [hrows, if_pos (show 13 < 14 by decide), validate_withAttn]
    exact enterRun_withAttn { i with upTo := 14 } hhall hc hst b
  rw [hrest]
  obtain ⟨hrun, hstand⟩ := enterRun_waits { i with upTo := 14 } hhall hc hst hr
  exact finish_withAttn _ hrun hstand

end Sys2Proof.Machine

/-! # LOAD taken up to a row: the part it leaves (O47) -/

namespace Sys2Proof.Machine

/-! ## The release record of row 12 -/

section
variable {l : Loaded}

theorem releaseOf_none (h : l.get 12 = none) : (releaseOf l).state = .unreadable := by
  unfold releaseOf; rw [h]

theorem byte1_zero {d : RowData} {i : Fin 14} : byte1 d i = 0 ↔ d.get i = 0 :=
  ⟨fun h => BitVec.eq_of_toNat_eq h, fun h => by unfold byte1; rw [h]; rfl⟩

theorem releaseOf_some {d : RowData} (h : l.get 12 = some d) : releaseOf l = {
    state := if d.get 0 = 0 then ReleaseState.clear else .released, hallId := le2 d 1,
    wd := le2 d 3 + 65536 * le2 d 5, nOwn := byte1 d 7, nRes := byte1 d 8 } := by
  unfold releaseOf; rw [h]; dsimp only
  simp only [byte1_zero]

end

/-! ## The rows of the part just reset -/

/-- The data of each row as it reads, with none for a row that does not. -/
def Node.loaded (n : Node) : Loaded := Vector.ofFn (fun r => (n.row r).read.2)

theorem flag_of_svp {a b : Node} (h : a.svp = b.svp) (f : Flag) : a.flag f = b.flag f := by
  unfold Node.flag; rw [h]

theorem attnNow_of_svp {a b : Node} (h : a.svp = b.svp) : a.attnNow = b.attnNow := by
  unfold Node.attnNow; rw [h]

section
variable {n : Node} (h : n.fresh) (fs : List (RowId × Fin 128))
include h

/-- What the flipped bits leave of the part just reset. -/
theorem flipRows_fresh : (flipRows fs n).hsq = n.hsq ∧ (flipRows fs n).svp.flags = 0 ∧
    (flipRows fs n).cfs.findings = [] ∧ (flipRows fs n).cfs.release = n.cfs.release ∧
    (flipRows fs n).cfs.releaseTrouble = false := by
  rw [flipRows_eq]
  obtain ⟨_, _, _, _, _, rfl⟩ := h
  exact ⟨rfl, rfl, rfl, rfl, rfl⟩

/-- The flags once the rows below `k` are read, and the ATTN line that shows them. -/
theorem loadRows_flags (k : Nat) :
    ((loadRows k (flipRows fs n)).flag .secCorrected = true ↔
      ∃ r : RowId, r.val < k ∧ ((flipRows fs n).row r).read.1 = .corrected) ∧
    ((loadRows k (flipRows fs n)).flag .releaseRowLost = true ↔ (flipRows fs n).rowLost k = true) ∧
    ((loadRows k (flipRows fs n)).attnNow = true ↔
      (loadRows k (flipRows fs n)).flag .secCorrected = true ∨
        (loadRows k (flipRows fs n)).flag .releaseRowLost = true) := by
  obtain ⟨-, hflags, -⟩ := flipRows_fresh h fs
  obtain ⟨h1, h2, h3⟩ := flags_of_load hflags ((flipRows fs n).correctsTo k) ((flipRows fs n).rowLost k)
  have hsvp := loadRows_svp k (flipRows fs n)
  rw [flag_of_svp hsvp, flag_of_svp hsvp, attnNow_of_svp hsvp]
  exact ⟨h1.trans (correctsTo_iff (flipRows_unread h fs)), h2, h3.trans (or_congr h1.symm h2.symm)⟩

/-- With a row 12 that does not read, the record is UNREADABLE and the hall SPENT (R164). -/
theorem loadRows_lost {k : Nat} (hk : 13 ≤ k) (hl : (flipRows fs n).loaded.get 12 = none) :
    (loadRows k (flipRows fs n)).hsq = { n.hsq with hall := .spent } ∧
    (loadRows k (flipRows fs n)).cfs.release.state = .unreadable ∧
    (loadRows k (flipRows fs n)).cfs.releaseTrouble = true ∧
    (loadRows k (flipRows fs n)).flag .releaseRowLost = true := by
  have hun := flipRows_unread h fs
  obtain ⟨hhsq, -⟩ := flipRows_fresh h fs
  obtain ⟨-, hflag, -⟩ := loadRows_flags h fs k
  obtain ⟨h1, h2, h3⟩ := loadRows_release hun hk
  have hstate : (releaseOf (keptTo k (flipRows fs n))).state = .unreadable := by
    rw [keptTo_full hun hk]; exact releaseOf_none hl
  rw [hflag, rowLost_full hun hk, h1, h2, h3, hstate, hhsq]
  exact ⟨rfl, rfl, rfl, rfl⟩

/-- With a row 12 that reads, the record is the one it gives, and the hall state with it (R164). -/
theorem loadRows_found {k : Nat} {d : RowData} (hk : 13 ≤ k) (hl : (flipRows fs n).loaded.get 12 = some d) :
    (loadRows k (flipRows fs n)).hsq = { n.hsq with hall := if d.get 0 = 0 then .quiet else .spent } ∧
    (loadRows k (flipRows fs n)).cfs.release = {
      state := if d.get 0 = 0 then ReleaseState.clear else .released, hallId := le2 d 1,
      wd := le2 d 3 + 65536 * le2 d 5, nOwn := byte1 d 7, nRes := byte1 d 8 } ∧
    (loadRows k (flipRows fs n)).cfs.releaseTrouble = false ∧
    (loadRows k (flipRows fs n)).flag .releaseRowLost = false := by
  have hun := flipRows_unread h fs
  obtain ⟨hhsq, -⟩ := flipRows_fresh h fs
  obtain ⟨-, hflag, -⟩ := loadRows_flags h fs k
  obtain ⟨h1, h2, h3⟩ := loadRows_release hun hk
  have hkept : keptTo k (flipRows fs n) = (flipRows fs n).loaded := keptTo_full hun hk
  rw [← Bool.not_eq_true (Node.flag _ _), hflag, rowLost_full hun hk, h1, h2, h3, hkept, releaseOf_some hl, hhsq]
  have hclear : (if d.get 0 = 0 then ReleaseState.clear else .released) = .clear ↔ d.get 0 = 0 := by
    split
    next h0 => exact iff_of_true rfl h0
    next h0 => exact iff_of_false (by decide) h0
  have hread : (if d.get 0 = 0 then ReleaseState.clear else .released) ≠ .unreadable := by split <;> decide
  dsimp only
  exact ⟨by simp only [hclear], rfl, decide_eq_false hread, by rw [decide_eq_true_eq]; exact hread⟩

end

/-! ## LOAD up to a row -/

section
variable {s : State} (h : s.node.fresh) {i : LoadInputs}
include h

theorem exec_load_fresh : exec (.load i) s = .next { s with node := finish s.node (load i s.node) } :=
  exec_load i (fresh_held h) (by rw [fresh_phase h]; decide)

/-- And from there LOAD goes on to the same end as LOAD at once (log 49). -/
theorem exec_load_rest (hk : i.upTo ≤ 13) : exec (.load { i with upTo := 14, flips := [] })
    { s with node := finish s.node (load i s.node) } = exec (.load { i with upTo := 14 }) s := by
  have hpart : finish s.node (load i s.node) = withAttn (loadRows i.upTo (flipRows i.flips s.node)).attnNow
      (loadRows i.upTo (flipRows i.flips s.node)) := by
    rw [load_part h hk, finish_before (loadRows_idle _ _)]
  obtain ⟨-, -, -, -, -, hphase, hheld⟩ := loadRows_cfs i.upTo (flipRows i.flips s.node)
  have hh : (finish s.node (load i s.node)).held = false := by
    rw [hpart]; refine hheld.trans ?_
    rw [flipRows_eq]; exact (fresh_held h :)
  have hp : (finish s.node (load i s.node)).cfs.phase ≠ .run := by
    rw [hpart]; intro hrun
    have := hphase.symm.trans hrun
    split at this <;> cases this
  rw [exec_load_fresh h,
    exec_load (s := { s with node := finish s.node (load i s.node) }) { i with upTo := 14, flips := [] } hh hp]
  exact congrArg (fun m => Host.Outcome.next { s with node := m }) (load_in_parts h hk)

end

end Sys2Proof.Machine

/-! # LOAD taken up to a row: the statement's first half (O47) -/

namespace Sys2Proof.Machine

/-- What LOAD taken up to a row leaves of the part just reset `n`, whose rows read as in `r`. -/
structure loadedPart (k : Nat) (n r a : Node) : Prop where
  idle : a.running = false
  phase : a.cfs.phase = if k = 13 then .validate else .load
  rows : a.cfs.rows = r.cfs.rows
  results : ∀ q : RowId, a.cfs.rowResult.get q = if q.val < k then some (r.row q).read.1 else none
  findings : a.cfs.findings = []
  corrected : a.flag .secCorrected = true ↔ ∃ q : RowId, q.val < k ∧ (r.row q).read.1 = .corrected
  attn : a.pou.attn = true ↔ a.flag .secCorrected = true ∨ a.flag .releaseRowLost = true
  before : k < 13 → a.hsq = n.hsq ∧ a.cfs.release = n.cfs.release ∧ a.cfs.releaseTrouble = false ∧
    a.flag .releaseRowLost = false

section
variable {n : Node} (h : n.fresh) (fs : List (RowId × Fin 128)) {k : Nat} (hk : k ≤ 13)
include h hk

/-- The part that LOAD leaves once the rows below `k` are read (log 49). -/
theorem loadRows_loadedPart : loadedPart k n (flipRows fs n)
    (withAttn (loadRows k (flipRows fs n)).attnNow (loadRows k (flipRows fs n))) := by
  have hun := flipRows_unread h fs
  obtain ⟨hrows, hres, -, hfind, -, hphase, -⟩ := loadRows_cfs k (flipRows fs n)
  obtain ⟨hhsq, -, hnone, hrel, htrouble⟩ := flipRows_fresh h fs
  obtain ⟨hsec, hlost, hattn⟩ := loadRows_flags h fs k
  refine ⟨loadRows_idle k _, hphase.trans (if_congr (by omega) rfl rfl), hrows, fun q => ?_,
    hfind.trans hnone, hsec, hattn, fun hlt => ?_⟩
  · exact (congrArg (fun v : Vector (Option RowResult) 13 => v.get q) hres).trans (resultsTo_get hun q)
  · obtain ⟨h1, h2, h3, -⟩ := rowsTaken_rest k (flipRows fs n)
    rw [← loadRows_part hun hlt] at h1 h2 h3
    refine ⟨h1.trans hhsq, h2.trans hrel, h3.trans htrouble, ?_⟩
    change (loadRows k (flipRows fs n)).flag .releaseRowLost = false
    rw [← Bool.not_eq_true (Node.flag _ _), hlost, rowLost_part hun hlt]; exact Bool.false_ne_true

end

end Sys2Proof.Machine

/-! # The entry to RUN with neither zone line in ALARM (O47) -/

namespace Sys2Proof.Machine

/-! ## A zone line that is not in ALARM -/

theorem faultStep_latched (now : Time) (c : ZoneClass) (z : ZoneRec) : (faultStep now c z).latched = z.latched := by
  unfold faultStep; dsimp only; repeat' split
  all_goals rfl

/-- A sample that is not ALARM latches nothing (R32). -/
theorem ZoneRec.sample_unalarmed {k : Nat} (hk : ¬ (120 ≤ k ∧ k < 400)) (now verify : Time) (b : Bool) (z : ZoneRec) :
    (z.sample now verify b k).latched = z.latched := by
  have hc : zoneClass k ≠ .alarm := fun hc => hk (zoneClass_alarm.1 hc)
  unfold ZoneRec.sample; dsimp only
  rw [faultStep_latched]; unfold latchStep; rw [if_pos hc]

/-! ## The hall at rest -/

/-- The hall rests in a state of the entry to RUN, with no cause of ALERT at FIU or of the neighbours. -/
structure Node.restsIn (n : Node) : Prop where
  hall : n.hsq.hall = .quiet ∨ n.hsq.hall = .spent ∨ n.hsq.hall = .lockout
  zoneA : n.fiu.zoneA.latched = false
  zoneB : n.fiu.zoneB.latched = false
  adjacent : n.hsq.adjacent = false

/-- What the samples of the field lines leave of a hall at rest. -/
def Node.begun (n : Node) : Cfs × (HallState × Mode) × (KeyRec × TempRec × PressRec) × Vcu ×
    (LinkState × Option Time × Option Time) × Svp :=
  (n.cfs, (n.hsq.hall, n.hsq.mode), (n.fiu.key, n.fiu.temp, n.fiu.press), n.vcu,
    (n.lkc.link, n.lkc.silence, n.lkc.status), n.svp)

/-- With no cause, the sequencer's tests leave the hall where it rests (R4). -/
theorem reeval_restsIn {n : Node} (hh : n.hsq.hall = .quiet ∨ n.hsq.hall = .spent ∨ n.hsq.hall = .lockout)
    (hc : ¬ n.hsq.caused) :
    (reeval n).begun = n.begun ∧ (reeval n).fiu = n.fiu ∧ (reeval n).hsq.adjacent = n.hsq.adjacent := by
  by_cases hq : n.hsq.hall = .quiet
  · have hx : ¬ crossZone n.hsq := fun ⟨_, _, ha, _⟩ => hc (.inl ha)
    rw [reeval_of_rest (.inl hq) hx, rest_uncaused hc]
    unfold Node.begun; dsimp only; rw [hq]
    exact ⟨rfl, rfl, rfl⟩
  · have ha : n.hsq.hall ≠ .alert := by rcases hh with h | h | h <;> simp [h]
    rw [reeval_of_other hq ha]; exact ⟨rfl, rfl, rfl⟩

theorem zoneEvent_restsIn (z : Zone) {k : Nat} (hk : ¬ (120 ≤ k ∧ k < 400)) {n : Node} (h : n.restsIn) :
    (zoneEvent z k n).restsIn ∧ (zoneEvent z k n).begun = n.begun := by
  obtain ⟨hh, hA, hB, hadj⟩ := h
  have hreadA : (zoneRead z k n).fiu.zoneA.latched = false := by
    cases z
    case a => exact (ZoneRec.sample_unalarmed hk _ _ _ _).trans hA
    case b => exact hA
  have hreadB : (zoneRead z k n).fiu.zoneB.latched = false := by
    cases z
    case a => exact hB
    case b => exact (ZoneRec.sample_unalarmed hk _ _ _ _).trans hB
  have hcopied : (zonesCopied (zoneRead z k n)).begun = n.begun ∧
      (zonesCopied (zoneRead z k n)).hsq.hall = n.hsq.hall ∧
      (zonesCopied (zoneRead z k n)).hsq.adjacent = n.hsq.adjacent ∧
      (zonesCopied (zoneRead z k n)).fiu = (zoneRead z k n).fiu := by cases z <;> exact ⟨rfl, rfl, rfl, rfl⟩
  obtain ⟨hbegun, hhall, hadj', hfiu⟩ := hcopied
  have hcause : ¬ (zonesCopied (zoneRead z k n)).hsq.caused := by
    rintro (ha | hb | hc)
    · exact absurd (ha.symm.trans hreadA) (by decide)
    · exact absurd (hb.symm.trans hreadB) (by decide)
    · exact absurd (hc.symm.trans (hadj'.trans hadj)) (by decide)
  have hz : zoneEvent z k n = reeval (zonesCopied (zoneRead z k n)) := rfl
  obtain ⟨h1, h2, h3⟩ := reeval_restsIn (n := zonesCopied (zoneRead z k n)) (by rw [hhall]; exact hh) hcause
  have h4 : (reeval (zonesCopied (zoneRead z k n))).hsq.hall = n.hsq.hall :=
    (congrArg (fun b => b.2.1.1) (h1.trans hbegun) :)
  rw [hz]
  exact ⟨⟨by rw [h4]; exact hh, by rw [h2, hfiu]; exact hreadA, by rw [h2, hfiu]; exact hreadB,
    h3.trans (hadj'.trans hadj)⟩, h1.trans hbegun⟩

theorem holdEvent_restsIn (b : Bool) (k : Nat) {n : Node} (h : n.restsIn) :
    (holdEvent b k n).restsIn ∧ (holdEvent b k n).begun = n.begun := by
  obtain ⟨hh, hA, hB, hadj⟩ := h
  have hacts : ∀ p, holdActs p (holdSampled b k n) = holdSampled b k n := fun p => by
    cases p
    case operated => exact holdOperated_nothing (n := holdSampled b k n) (by
      rcases hh with h | h | h <;> simp [holdSampled, h])
    case released => exact if_neg (by rcases hh with h | h | h <;> simp [holdSampled, h])
  have he : holdEvent b k n = holdSampled b k n := by
    rw [holdEvent_eq, hacts]; exact ite_self _
  rw [he]
  exact ⟨⟨hh, hA, hB, hadj⟩, rfl⟩

theorem linesRead_restsIn {i : LoadInputs} (hA : ¬ (120 ≤ i.zoneA ∧ i.zoneA < 400))
    (hB : ¬ (120 ≤ i.zoneB ∧ i.zoneB < 400)) {n : Node} (h : n.restsIn) : (linesRead i n).begun = n.begun := by
  obtain ⟨h1, e1⟩ := holdEvent_restsIn true i.hold h
  obtain ⟨h2, e2⟩ := zoneEvent_restsIn .a hA h1
  obtain ⟨-, e3⟩ := zoneEvent_restsIn .b hB h2
  exact e3.trans (e2.trans e1)

/-! ## The first key event -/

/-- RCL's giving up leaves a selector that neither opens nor is open. -/
theorem bidGivenUp_selector {n : Node} (h : n.selectorShut) : (bidGivenUp n).vcu.selector = n.vcu.selector := by
  have hm : (if n.rcl.claims then sendYield (rclStopped n) else rclStopped n).vcu.selector = n.vcu.selector := by
    split
    · rw [sendYield_eq]; rfl
    · rfl
  unfold bidGivenUp
  rw [selClose_selector, hm, if_neg (not_or.2 h)]

/-- The hall that the first key event leaves (R20 to R22, R25). -/
def Node.keyedHall (n : Node) : HallState := if n.isolate = true ∧ n.hsq.hall = .quiet then .lockout else n.hsq.hall

/-- What the first key event leaves: the hall as the key has it, and VCU's and LKC's records but for the
frames of the reserve. -/
theorem hsqFirstKey_leaves {n : Node} (h : n.hsq.hall = .quiet ∨ n.hsq.hall = .spent) (hs : n.selectorShut) :
    (hsqFirstKey n).cfs = n.cfs ∧ (hsqFirstKey n).hsq.hall = n.keyedHall ∧ (hsqFirstKey n).hsq.mode = n.hsq.mode ∧
    (hsqFirstKey n).hsq.adjacent = n.hsq.adjacent ∧ (hsqFirstKey n).fiu = n.fiu ∧ (hsqFirstKey n).vcu = n.vcu ∧
    (hsqFirstKey n).svp = n.svp ∧ (hsqFirstKey n).lkc.link = n.lkc.link ∧
    (hsqFirstKey n).lkc.silence = n.lkc.silence ∧ (hsqFirstKey n).lkc.status = n.lkc.status := by
  unfold Node.keyedHall
  by_cases hlock : n.isolate = true ∧ n.hsq.hall = .quiet
  · obtain ⟨hk, hq⟩ := hlock
    have he : hsqFirstKey n = lockedOut (bidGivenUp n) := by
      refine (if_pos hk).trans ?_
      rw [hsqIsolate_before hk (by rw [hq]; simp [hallBefore])]
      have hrel : releaseGivenUp n = rclGiveUp n := if_neg (by rw [hq]; decide)
      rw [hrel, rclGiveUp_eq, if_neg (by rw [hq]; decide)]
    have hvcu : (bidGivenUp n).vcu = n.vcu := by
      rw [bidGivenUp_eq, bidGivenUp_selector hs]; rfl
    rw [if_pos ⟨hk, hq⟩, he]
    refine ⟨?_, rfl, ?_, ?_, ?_, hvcu, ?_, ?_, ?_, ?_⟩
    all_goals unfold lockedOut; rw [bidGivenUp_eq]; rfl
  · have he : hsqFirstKey n = n := by
      unfold hsqFirstKey
      split
      next hk => exact hsqIsolate_after (.inr (.inl (h.resolve_left fun hq => hlock ⟨hk, hq⟩)))
      next => exact if_neg (by rcases h with h | h <;> simp [h])
    rw [if_neg hlock, he]
    exact ⟨rfl, rfl, rfl, rfl, rfl, rfl, rfl, rfl, rfl, rfl⟩

end Sys2Proof.Machine

/-! # The units and the link at the entry to RUN (O47) -/

namespace Sys2Proof.Machine

/-! ## The key, the channels, the selector -/

theorem keyClass_counted_normal {a b : Bool} : (keyClass a b).counted = .normal ↔ a = true ∧ b = false := by
  cases a <;> cases b <;> decide

/-- The key's first sample is delivered at once (R29). -/
theorem firstFiu_key (i : LoadInputs) (now : Time) (f : Fiu) :
    (firstFiu i now f).key.delivered = .normal ↔ i.keyNormal = true ∧ i.keyIsolate = false :=
  keyClass_counted_normal

/-- The state of a channel by its first read, as the key allows it (R65, R67). -/
theorem Channel.build_state (n : Node) (role : Role) (reading : Nat) :
    (Channel.build n role reading).state = if role = .unused then .isolated
      else if n.cfg.fullThreshold ≤ min reading 150 then
        (if n.fiu.key.delivered = .normal then .ready else .isolated)
      else if 10 ≤ min reading 150 then .low else .spent := by
  have hrest : n.restState = if n.fiu.key.delivered = .normal then .ready else .isolated := by
    unfold Node.restState
    by_cases hk : n.fiu.key.delivered = .normal
    · rw [if_pos hk, Node.not_isolate_iff.2 hk]; rfl
    · have hi : n.isolate = true := by rw [← Bool.not_eq_false, Node.not_isolate_iff]; exact hk
      rw [if_neg hk, hi]; rfl
  unfold Channel.build pressureClass; dsimp only
  split
  · rfl
  · have hempty : Config.emptyThreshold = 10 := rfl
    rw [hempty]
    by_cases hf : n.cfg.fullThreshold ≤ min reading 150
    · rw [if_pos hf, if_pos hf]; exact hrest
    · rw [if_neg hf, if_neg hf]
      by_cases he : 10 ≤ min reading 150
      · rw [if_pos he, if_pos he]
      · rw [if_neg he, if_neg he]

/-- The selector's state by its first reading (R78). -/
def selBuilt (opened closed : Bool) : SelState :=
  match opened, closed with
  | false, true => .closed
  | true, true => .jammed
  | _, false => .closing

theorem selBuilt_shut (a b : Bool) : selBuilt a b ≠ .opening ∧ selBuilt a b ≠ .opened := by
  cases a <;> cases b <;> decide

theorem buildSelector_builds (a b : Bool) (n : Node) :
    (buildSelector (selReading a b) n).vcu.selector.state = selBuilt a b ∧
    (buildSelector (selReading a b) n).vcu.channels = n.vcu.channels ∧
    n.raisedIn (buildSelector (selReading a b) n) := by
  cases a <;> cases b
  case true.true => exact ⟨rfl, rfl, Node.raisedIn_setFlag n .selectorJam⟩
  all_goals exact ⟨rfl, rfl, Node.raisedIn_refl n⟩

/-! ## The units started -/

/-- What the entry to RUN makes of the part `v` that VALIDATE leaves. -/
structure runEntered (i : LoadInputs) (v t : Node) : Prop where
  cfs : t.cfs = v.cfs
  mode : t.hsq.mode = v.hsq.mode
  hall : t.hsq.hall = if ¬ (i.keyNormal = true ∧ i.keyIsolate = false) ∧ v.hsq.hall = .quiet then .lockout
    else v.hsq.hall
  key : t.fiu.key.delivered = .normal ↔ i.keyNormal = true ∧ i.keyIsolate = false
  temp : t.fiu.temp.value = i.temperature
  press : t.fiu.press.value = some i.pressure
  chans : ∀ c, (t.chan c).role = v.cfg.roles.get c ∧ (t.chan c).pressure = min (i.cylinders.get c) 150 ∧
    (t.chan c).state = (if v.cfg.roles.get c = .unused then .isolated
      else if v.cfg.fullThreshold ≤ min (i.cylinders.get c) 150 then
        (if i.keyNormal = true ∧ i.keyIsolate = false then .ready else .isolated)
      else if 10 ≤ min (i.cylinders.get c) 150 then .low else .spent)
  selector : t.vcu.selector.state = selBuilt i.selectorOpen i.selectorClosed
  link : t.lkc.link = v.lkc.link
  silence : t.lkc.silence = some (v.now + 3 * v.cfg.period)
  status : t.lkc.status = some (v.now + v.cfg.period)
  flags : v.raisedIn t

theorem unitsStarted_shut (i : LoadInputs) {v : Node} (hc : v.lkc.clash = false) :
    (unitsStarted i (inputsRead i v)).selectorShut := by
  obtain ⟨hsel, -⟩ := buildSelector_builds i.selectorOpen i.selectorClosed
    (buildChannels i.cylinders (inputsRead i v))
  have hs : (unitsStarted i (inputsRead i v)).vcu.selector.state =
      selBuilt i.selectorOpen i.selectorClosed := by
    rw [unitsStarted_eq i (n := inputsRead i v) hc]; exact hsel
  unfold Node.selectorShut; rw [hs]; exact selBuilt_shut _ _

/-- What the first key event leaves alone is as the units started it. -/
theorem hsqFirstKey_entered (i : LoadInputs) {v : Node} (h : v.hsq.hall = .quiet ∨ v.hsq.hall = .spent)
    (hc : v.lkc.clash = false) : runEntered i v (hsqFirstKey (unitsStarted i (inputsRead i v))) := by
  have hu := unitsStarted_eq i (n := inputsRead i v) hc
  obtain ⟨hsel, hchan, hflags⟩ := buildSelector_builds i.selectorOpen i.selectorClosed
    (buildChannels i.cylinders (inputsRead i v))
  have hkey := firstFiu_key i v.now v.fiu
  have hbuilt : ∀ c, (unitsBuilt i (inputsRead i v)).chan c =
      Channel.build (inputsRead i v) (v.cfg.roles.get c) (i.cylinders.get c) := fun c => by
    unfold Node.chan unitsBuilt; rw [hchan]; exact vget_ofFn _ c
  have hshut := unitsStarted_shut i hc
  have hhall : (unitsStarted i (inputsRead i v)).hsq = v.hsq := by rw [hu]; rfl
  have hiso : (unitsStarted i (inputsRead i v)).isolate = true ↔
      ¬ (i.keyNormal = true ∧ i.keyIsolate = false) := by
    rw [hu, ← hkey, ← Bool.not_eq_false, Node.not_isolate_iff]; exact Iff.rfl
  obtain ⟨h1, h2, h3, -, h4, h5, h6, h7, h8, h9⟩ := hsqFirstKey_leaves (by rw [hhall]; exact h) hshut
  have hvcu : (hsqFirstKey (unitsStarted i (inputsRead i v))).vcu = (unitsBuilt i (inputsRead i v)).vcu := by
    rw [h5, hu]
  refine {
    cfs := by rw [h1, hu]; rfl
    mode := by rw [h3, hu]; rfl
    hall := ?_
    key := by rw [h4, hu]; exact hkey
    temp := by rw [h4, hu]; rfl
    press := by rw [h4, hu]; rfl
    chans := fun c => ?_
    selector := by rw [hvcu]; exact hsel
    link := by rw [h7, hu]; rfl
    silence := by rw [h8, hu]; rfl
    status := by rw [h9, hu]; rfl
    flags := ?_ }
  · rw [h2]; unfold Node.keyedHall; rw [hhall]
    exact if_congr (and_congr_left' hiso) rfl rfl
  · have hc : (hsqFirstKey (unitsStarted i (inputsRead i v))).chan c = _ :=
      (congrArg (fun x : Vcu => x.channels.get c) hvcu).trans (hbuilt c)
    rw [hc, Channel.build_state]
    exact ⟨rfl, rfl, if_congr Iff.rfl rfl (if_congr Iff.rfl (if_congr hkey rfl rfl) rfl)⟩
  · have hsvp : (hsqFirstKey (unitsStarted i (inputsRead i v))).svp = (unitsBuilt i (inputsRead i v)).svp := by
      rw [h6, hu]
    exact Node.raisedIn_trans hflags (Node.raisedIn_of_svp hsvp)

/-- A node whose records are as those of an entry to RUN is one. -/
theorem runEntered.congr {i : LoadInputs} {v m t : Node} (h : runEntered i v m) (hb : t.begun = m.begun) :
    runEntered i v t := by
  simp only [Node.begun, Prod.mk.injEq] at hb
  obtain ⟨hcfs, ⟨hhall, hmode⟩, ⟨hkey, htemp, hpress⟩, hvcu, ⟨hlink, hsilence, hstatus⟩, hsvp⟩ := hb
  have hchan : ∀ c, t.chan c = m.chan c := fun c => by unfold Node.chan; rw [hvcu]
  exact {
    cfs := hcfs.trans h.cfs
    mode := hmode.trans h.mode
    hall := hhall.trans h.hall
    key := by rw [hkey]; exact h.key
    temp := by rw [htemp]; exact h.temp
    press := by rw [hpress]; exact h.press
    chans := fun c => by rw [hchan]; exact h.chans c
    selector := by rw [hvcu]; exact h.selector
    link := hlink.trans h.link
    silence := hsilence.trans h.silence
    status := hstatus.trans h.status
    flags := Node.raisedIn_trans h.flags (Node.raisedIn_of_svp hsvp) }

end Sys2Proof.Machine

/-! # The end of LOAD (O47) -/

namespace Sys2Proof.Machine

/-! ## The end of the event -/

/-- The end of an event in RUN that leaves a STANDING waiting drives the outputs and the placement timer. -/
theorem finish_standing {b n : Node} (hr : n.running = true) (h : n.lkc.outbox.standing = true) :
    finish b n = placementTest (pouEval n) := by
  have hw : announce b (pouEval n) = pouEval n := announce_waiting h
  exact (if_pos hr).trans (congrArg placementTest hw)

theorem placementTest_eq (n : Node) :
    placementTest n = { n with lkc.placement := (placementTest n).lkc.placement } := by
  unfold placementTest; split <;> rfl

theorem finish_begun {b n : Node} (hr : n.running = true) (h : n.lkc.outbox.standing = true) :
    (finish b n).begun = n.begun ∧ (finish b n).running = true ∧ (finish b n).lkc.outbox.standing = true := by
  rw [finish_standing hr h, placementTest_eq]
  exact ⟨rfl, hr, h⟩

/-! ## The entry to RUN -/

/-- What the entry to RUN asks of the part that VALIDATE leaves. -/
structure Node.readyToRun (v : Node) : Prop where
  hall : v.hsq.hall = .quiet ∨ v.hsq.hall = .spent
  clash : v.lkc.clash = false
  station : v.fiu.station.opRun = none
  running : v.running = true
  zoneA : v.fiu.zoneA.latched = false
  zoneB : v.fiu.zoneB.latched = false
  adjacent : v.hsq.adjacent = false

theorem hsqFirstKey_restsIn (i : LoadInputs) {v : Node} (h : v.readyToRun) :
    (hsqFirstKey (unitsStarted i (inputsRead i v))).restsIn := by
  obtain ⟨hhall, hc, -, -, hA, hB, hadj⟩ := h
  have hu := unitsStarted_eq i (n := inputsRead i v) hc
  have hhsq : (unitsStarted i (inputsRead i v)).hsq = v.hsq := by rw [hu]; rfl
  have hfiu : (unitsStarted i (inputsRead i v)).fiu = firstFiu i v.now v.fiu := by rw [hu]; rfl
  obtain ⟨-, h2, -, h3, h4, -⟩ := hsqFirstKey_leaves (by rw [hhsq]; exact hhall) (unitsStarted_shut i hc)
  refine ⟨?_, by rw [h4, hfiu]; exact hA, by rw [h4, hfiu]; exact hB, by rw [h3, hhsq]; exact hadj⟩
  rw [h2]; unfold Node.keyedHall; rw [hhsq]
  split
  · exact .inr (.inr rfl)
  · rcases hhall with hq | hs
    · exact .inl hq
    · exact .inr (.inl hs)

/-- LOAD's event ends in RUN, with the records that the first samples and reads give. -/
theorem enterRun_entered {i : LoadInputs} {v : Node} (b : Node) (h : v.readyToRun)
    (hA : ¬ (120 ≤ i.zoneA ∧ i.zoneA < 400)) (hB : ¬ (120 ≤ i.zoneB ∧ i.zoneB < 400)) :
    runEntered i v (finish b (enterRun i v)) ∧ (finish b (enterRun i v)).running = true ∧
      (finish b (enterRun i v)).lkc.outbox.standing = true := by
  have hrest := hsqFirstKey_restsIn i h
  obtain ⟨hhall, hc, hst, hr, -, -, -⟩ := h
  obtain ⟨hrun, hstand⟩ := enterRun_waits i hhall hc hst hr
  obtain ⟨hbegun, hrun', hstand'⟩ := finish_begun (b := b) hrun hstand
  have hlines := linesRead_restsIn hA hB hrest
  have hkeyed := hsqFirstKey_entered i hhall hc
  have hentered : (enterRun i v).begun =
      (linesRead i (hsqFirstKey (unitsStarted i (inputsRead i v)))).begun := by
    have houter := linesRead_first i hhall hc
    rw [enterRun_stages i hhall]
    generalize linesRead i (hsqFirstKey (unitsStarted i (inputsRead i v))) = m at houter ⊢
    have hm : m.fiu.station.opRun = none := by
      rw [show m.fiu.station = v.fiu.station from congrArg Prod.fst houter]; exact hst
    rw [stationEvent_first hm]; rfl
  exact ⟨hkeyed.congr (hbegun.trans (hentered.trans hlines)), hrun', hstand'⟩

/-! ## The part that VALIDATE leaves -/

/-- VALIDATE's findings, mode and working configuration are those of the data that LOAD kept (R162, R163). -/
theorem validate_judges (n : Node) : (validate n).cfs.findings = findings n.cfs.nodeId n.cfs.kept ∧
    ((validate n).cfs.findings = [] → (validate n).hsq.mode = .normal ∧ (validate n).cfs.validation = .valid ∧
      (validate n).cfg = cfgOf n.cfs.kept) ∧
    ((validate n).cfs.findings ≠ [] → (validate n).hsq.mode = .fallback ∧
      (validate n).cfs.validation = .invalid ∧ (validate n).cfg = fallbackOf n.cfs.kept ∧
      (validate n).flag .configInvalid = true) := by
  unfold validate Node.id; dsimp only
  generalize findings n.cfs.nodeId n.cfs.kept = fs
  cases fs with
  | nil => exact ⟨rfl, fun _ => ⟨rfl, rfl, rfl⟩, fun h => absurd rfl h⟩
  | cons f fs =>
    refine ⟨rfl, fun h => (by cases h), fun _ => ⟨rfl, rfl, rfl, ?_⟩⟩
    rw [Node.flag_setFlagIf]; exact .inr ⟨rfl, rfl⟩

/-- And what it leaves of LOAD's own steps. -/
theorem validate_leaves (n : Node) : (validate n).cfs.rows = n.cfs.rows ∧
    (validate n).cfs.rowResult = n.cfs.rowResult ∧ (validate n).cfs.release = n.cfs.release ∧
    (validate n).cfs.releaseTrouble = n.cfs.releaseTrouble ∧ (validate n).hsq.hall = n.hsq.hall ∧
    (validate n).hsq.adjacent = n.hsq.adjacent ∧ n.raisedIn (validate n) := by
  have hraised : n.raisedIn (validate n) := fun f hf => by
    unfold validate; dsimp only
    rw [Node.flag_setFlagIf]; exact .inl hf
  refine ⟨?_, ?_, ?_, ?_, ?_, ?_, hraised⟩
  all_goals unfold validate; dsimp only; rw [setFlagIf_eq]

section
variable {n : Node} (h : n.fresh) {k : Nat} (hk : 13 < k) (fs : List (RowId × Fin 128))
include h hk

theorem validated_readyToRun : (validated k fs n).readyToRun := by
  obtain ⟨hc, hst, hr⟩ := validated_ready h (k := k) fs
  obtain ⟨-, hfiu, -⟩ := fresh_parts h
  have hf : (validated k fs n).fiu = n.fiu := by rw [validated_eq]
  refine ⟨validated_hall h fs (by omega), hc, hst, hr, by rw [hf, hfiu]; rfl, by rw [hf, hfiu]; rfl, ?_⟩
  obtain ⟨-, -, -, -, -, hadj, -⟩ := validate_leaves (loadRows k (flipRows fs n))
  obtain ⟨hrel, -⟩ := loadRows_release (flipRows_unread h fs) (show 13 ≤ k by omega)
  obtain ⟨hhsq, -⟩ := flipRows_fresh h fs
  obtain ⟨-, -, hstart, -⟩ := fresh_parts h
  refine hadj.trans ?_
  rw [hrel, hhsq, hstart]; rfl

end

end Sys2Proof.Machine

/-! # LOAD judges the rows and enters RUN (O47) -/

namespace Sys2Proof.Machine

section
variable {s : State} (h : s.node.fresh) {i : LoadInputs} (hk : 13 < i.upTo)
include h hk

theorem exec_load_full : exec (.load i) s = .next { s with
    node := finish s.node (enterRun i (validated i.upTo i.flips s.node)) } := by
  rw [exec_load_fresh h, load_full h hk]; rfl

end

section
variable {n : Node} (h : n.fresh) {k : Nat} (hk : 13 < k) (fs : List (RowId × Fin 128))
include h hk

/-- VALIDATE judges the data that the rows read as. -/
theorem validated_kept : (loadRows k (flipRows fs n)).cfs.kept = (flipRows fs n).loaded := by
  obtain ⟨-, -, hkept, -⟩ := loadRows_cfs k (flipRows fs n)
  exact hkept.trans (keptTo_full (flipRows_unread h fs) (by omega))

theorem validated_rows : (validated k fs n).cfs.rows = (flipRows fs n).cfs.rows ∧
    ∀ r, (validated k fs n).cfs.rowResult.get r = some ((flipRows fs n).row r).read.1 := by
  obtain ⟨hrows, hres, -⟩ := loadRows_cfs k (flipRows fs n)
  obtain ⟨hv, hvres, -⟩ := validate_leaves (loadRows k (flipRows fs n))
  refine ⟨hv.trans hrows, fun r => ?_⟩
  have hr : r.val < k := by have := r.isLt; omega
  calc (validated k fs n).cfs.rowResult.get r = (resultsTo k (flipRows fs n)).get r :=
        congrArg (fun v : Vector (Option RowResult) 13 => v.get r) (hvres.trans hres)
    _ = some ((flipRows fs n).row r).read.1 := by
        rw [resultsTo_get (flipRows_unread h fs), if_pos hr]

theorem validated_judges :
    (validated k fs n).cfs.findings = findings n.cfs.nodeId (flipRows fs n).loaded ∧
    ((validated k fs n).cfs.findings = [] → (validated k fs n).hsq.mode = .normal ∧
      (validated k fs n).cfs.validation = .valid ∧ (validated k fs n).cfg = cfgOf (flipRows fs n).loaded) ∧
    ((validated k fs n).cfs.findings ≠ [] → (validated k fs n).hsq.mode = .fallback ∧
      (validated k fs n).cfs.validation = .invalid ∧ (validated k fs n).cfg = fallbackOf (flipRows fs n).loaded ∧
      (validated k fs n).flag .configInvalid = true) := by
  obtain ⟨-, -, -, -, hid, -⟩ := loadRows_cfs k (flipRows fs n)
  have hid' : (flipRows fs n).cfs.nodeId = n.cfs.nodeId := by rw [flipRows_eq]
  have hj := validate_judges (loadRows k (flipRows fs n))
  rw [validated_kept h hk fs, hid, hid'] at hj
  exact hj

theorem validated_corrected (hc : ∃ r : RowId, ((flipRows fs n).row r).read.1 = .corrected) :
    (validated k fs n).flag .secCorrected = true := by
  obtain ⟨r, hr⟩ := hc
  obtain ⟨hflag, -⟩ := loadRows_flags h fs k
  obtain ⟨-, -, -, -, -, -, hraised⟩ := validate_leaves (loadRows k (flipRows fs n))
  exact hraised _ (hflag.2 ⟨r, by have := r.isLt; omega, hr⟩)

/-- With row 12 lost, VALIDATE leaves the record UNREADABLE and the hall SPENT. -/
theorem validated_lost (hl : (flipRows fs n).loaded.get 12 = none) :
    (validated k fs n).cfs.release.state = .unreadable ∧ (validated k fs n).hsq.hall = .spent ∧
    (validated k fs n).flag .releaseRowLost = true ∧ (validated k fs n).cfs.releaseTrouble = true := by
  obtain ⟨h1, h2, h3, h4⟩ := loadRows_lost h fs (k := k) (by omega) hl
  obtain ⟨-, -, hrel, htrouble, hhall, -, hraised⟩ := validate_leaves (loadRows k (flipRows fs n))
  exact ⟨(congrArg ReleaseRec.state hrel).trans h2, hhall.trans (congrArg Hsq.hall h1), hraised _ h4,
    htrouble.trans h3⟩

/-- With row 12 read, VALIDATE leaves the record and the hall state that it gives. -/
theorem validated_found {d : RowData} (hl : (flipRows fs n).loaded.get 12 = some d) :
    (validated k fs n).cfs.release.state = (if d.get 0 = 0 then .clear else .released) ∧
    (validated k fs n).hsq.hall = if d.get 0 = 0 then .quiet else .spent := by
  obtain ⟨h1, h2, -⟩ := loadRows_found h fs (k := k) (by omega) hl
  obtain ⟨-, -, hrel, -, hhall, -⟩ := validate_leaves (loadRows k (flipRows fs n))
  exact ⟨congrArg ReleaseRec.state (hrel.trans h2), hhall.trans (congrArg Hsq.hall h1)⟩

end

/-- Settles O47. Up to a row LOAD keeps its results and goes on from them to the same end, for no block reads
the ATTN line, which alone the pause drives; to its end, each stage writes its own records, and a hall that
rests without a cause keeps what the stages before it gave. -/
theorem loadJudgesTheRowsAndEntersRun : Obligations.LoadJudgesTheRowsAndEntersRun := by
  intro s i now free rows id cause hstart rows' l normalKey
  have hfresh : s.node.fresh := ⟨now, free, rows, id, cause, hstart⟩
  refine ⟨fun hk => ?part, fun hk hA hB => ?full⟩
  case part =>
    have hnode : finish s.node (load i s.node) =
        withAttn (loadRows i.upTo (flipRows i.flips s.node)).attnNow (loadRows i.upTo (flipRows i.flips s.node)) := by
      rw [load_part hfresh hk, finish_before (loadRows_idle _ _)]
    have hp := loadRows_loadedPart hfresh i.flips hk
    refine ⟨_, exec_load_fresh hfresh, rfl, rfl, ?_⟩
    have hrest := exec_load_rest hfresh hk
    dsimp only
    rw [hnode] at hrest ⊢
    refine ⟨hp.idle, hp.phase, hp.rows, hp.results, hp.findings, hp.corrected, hp.attn, hp.before,
      fun h13 => ?_, hrest⟩
    split
    next hl => exact loadRows_lost hfresh i.flips (by omega) hl
    next d hl =>
      obtain ⟨h1, h2, h3, h4⟩ := loadRows_found hfresh i.flips (k := i.upTo) (by omega) hl
      exact ⟨h3, h4, h2, h1⟩
  case full =>
    have hready := validated_readyToRun hfresh hk i.flips
    obtain ⟨he, hrun, hstand⟩ := enterRun_entered s.node hready hA hB
    obtain ⟨hrows, hres⟩ := validated_rows hfresh hk i.flips
    obtain ⟨hfind, hvalid, hinvalid⟩ := validated_judges hfresh hk i.flips
    have hid : s.node.cfs.nodeId = id := by rw [hstart]; rfl
    have hnow : (validated i.upTo i.flips s.node).now = now := by rw [validated_eq, hstart]; rfl
    have hlink : (validated i.upTo i.flips s.node).lkc.link = .listen := by rw [validated_eq, hstart]; rfl
    rw [hid] at hfind
    refine ⟨_, exec_load_full hfresh hk, rfl, hrun, ?_⟩
    dsimp only
    unfold Node.cfg at hvalid hinvalid ⊢
    rw [he.cfs, he.mode]
    refine ⟨hrows, hres, ?found, hvalid, fun hf => ?invalid, fun hc => he.flags _ ?corrected, ?release,
      he.key, he.temp, he.press, he.chans, he.selector, he.link.trans hlink, hstand, ?_, ?_⟩
    case found =>
      rw [hfind]
      exact ⟨fun k => mem_findings.trans checkRow_rowUncorrectable, fun k => mem_findings.trans checkRow_format,
        fun k => mem_findings.trans checkRow_notCommissioned, fun k => mem_findings.trans checkRow_digest,
        fun k => mem_findings.trans checkRow_fieldRange, fun k => mem_findings.trans checkRow_relation,
        fun k => mem_findings.trans checkRow_specificVolume, fun k => mem_findings.trans checkRow_roleCount,
        fun k => mem_findings.trans checkRow_holderWithoutBank, findings_once⟩
    case invalid =>
      obtain ⟨h1, h2, h3, h4⟩ := hinvalid hf
      exact ⟨h1, h2, h3, he.flags _ h4⟩
    case corrected => exact validated_corrected hfresh hk i.flips hc
    case release =>
      rw [he.hall]
      split
      next hl =>
        obtain ⟨h1, h2, h3, h4⟩ := validated_lost hfresh hk i.flips hl
        rw [h2]
        exact ⟨h1, if_neg (by simp), he.flags _ h3, h4⟩
      next d hl =>
        obtain ⟨h1, h2⟩ := validated_found hfresh hk i.flips hl
        rw [h1, h2]
        refine ⟨fun h0 => ?_, fun h0 => ?_⟩
        · rw [if_pos h0, if_pos h0]
          refine ⟨rfl, ?_⟩
          by_cases hn : i.keyNormal = true ∧ i.keyIsolate = false
          · rw [if_pos hn, if_neg fun hc => hc.1 hn]
          · rw [if_neg hn, if_pos ⟨hn, rfl⟩]
        · rw [if_neg h0, if_neg h0]
          exact ⟨rfl, if_neg (by simp)⟩
    · rw [he.silence, hnow]
    · rw [he.status, hnow]

end Sys2Proof.Machine

/-! # Samples of the station, the hold switch and the key without an event (O7) -/

namespace Sys2Proof.Machine

/-! ## The station -/

theorem stationClass_fault {c : Nat} : decide (stationClass c = .fault) = true ↔ (c < 20 ∨ 400 ≤ c) := by
  rw [decide_eq_true_eq]; unfold stationClass; repeat' split
  all_goals simp; omega

/-- No sample at `now` can give a manual release event: an OPERATED run has given its event, or is
shorter than 500 ms. -/
def runUnripe (now : Time) (run : Option Run) : Prop :=
  ∀ r, run = some r → r.done = true ∨ now < r.since + 500

/-- An OPERATED sample without an event starts the run where none stood, and leaves one that did. -/
theorem operatedStep_waits {now : Time} {run : Option Run} (h : runUnripe now run) :
    operatedStep now .operated run = (some (run.getD { since := now, done := false }), false) := by
  cases run with
  | none => simp [operatedStep, Config.operatedTime]
  | some r =>
    obtain ⟨since, done⟩ := r
    rcases h _ rfl with hdone | hshort
    · rw [show done = true from hdone]; rfl
    · have hlen : ¬ since + 500 ≤ now := Nat.not_le.2 hshort
      simp [operatedStep, Config.operatedTime, hlen]

theorem operatedStep_of_other {now : Time} {cls : StationClass} {run : Option Run} (h : cls ≠ .operated) :
    operatedStep now cls run = (none, false) := if_neg h

theorem StationRec.sample_event (now : Time) (current : Nat) (r : StationRec) :
    (r.sample now current).2 = (operatedStep now (stationClass current) r.opRun).2 := rfl

theorem StationRec.sample_opRun (now : Time) (current : Nat) (r : StationRec) :
    (r.sample now current).1.opRun = (operatedStep now (stationClass current) r.opRun).1 := rfl

/-- The station's fault follows the rule of its runs (R37). -/
theorem StationRec.sample_faultRule (now : Time) (current : Nat) (r : StationRec) :
    faultRule now (current < 20 ∨ 400 ≤ current) r.faultRun r.recRun r.fault
      (r.sample now current).1.faultRun (r.sample now current).1.recRun (r.sample now current).1.fault :=
  faultRuns_rule stationClass_fault _ _ _

theorem StationRec.sample_waits {now : Time} {current : Nat} {r : StationRec}
    (h : 120 ≤ current ∧ current < 400 → runUnripe now r.opRun) : (r.sample now current).2 = false := by
  rw [StationRec.sample_event]
  by_cases hop : stationClass current = .operated
  · rw [hop, operatedStep_waits (h (stationClass_operated.1 hop))]
  · rw [operatedStep_of_other hop]

/-- A station sample without an event writes the station's record alone. -/
theorem stationEvent_waits {current : Nat} {n : Node} (h : (n.fiu.station.sample n.now current).2 = false) :
    stationEvent current n = { n with fiu.station := (n.fiu.station.sample n.now current).1 } :=
  if_neg (Bool.eq_false_iff.1 h)

/-! ## The hold switch and the key -/

/-- A change that has not lasted delivers nothing: its run is started or kept while the position counted
differs from the one delivered, and ends where it does not. -/
theorem changeStep_waits {α : Type} [DecidableEq α] {counted delivered : α} {now len : Time}
    {run : Option Time} (hpos : 0 < len)
    (h : counted ≠ delivered → ∀ t, run = some t → now < t + len) :
    changeStep now (decide (counted ≠ delivered)) len run =
      (if counted = delivered then none else some (run.getD now), false) := by
  by_cases hd : counted = delivered
  · simp [changeStep, hd]
  · have hshort : lasted now (startRun now run) len = false := by
      rw [← Bool.not_eq_true, lasted_startRun_of_pos hpos]
      exact fun ⟨t, ht, hle⟩ => Nat.not_le.2 (h hd t ht) hle
    rw [startRun_eq] at hshort
    simp [changeStep, hd, hshort, startRun_eq]

/-- The switch's record after a sample that delivers nothing. -/
def HoldRec.kept (now : Time) (current : Nat) (r : HoldRec) : HoldRec :=
  { r.moved now current with
    delivered := r.delivered,
    changeRun := if (holdClass current).counted = r.delivered then none else some (r.changeRun.getD now) }

theorem HoldRec.sample_waits {now : Time} {current : Nat} {r : HoldRec}
    (h : (holdClass current).counted ≠ r.delivered → ∀ t, r.changeRun = some t → now < t + 200) :
    r.sample now false current = (r.kept now current, false) := by
  have hstep := changeStep_waits (by decide) h
  unfold HoldRec.sample HoldRec.kept HoldRec.moved; dsimp only
  rw [show Config.holdChangeTime = 200 from rfl, hstep]; rfl

/-- A hold switch sample that delivers nothing writes the switch's record alone. -/
theorem holdEvent_waits {current : Nat} {n : Node}
    (h : (holdClass current).counted ≠ n.fiu.hold.delivered →
      ∀ t, n.fiu.hold.changeRun = some t → n.now < t + 200) :
    holdEvent false current n = { n with fiu.hold := n.fiu.hold.kept n.now current } := by
  unfold holdEvent; rw [HoldRec.sample_waits h]; rfl

/-- A clean NORMAL counts as NORMAL, and every other reading as ISOLATE (R40). -/
theorem keyClass_counted_eq (a b : Bool) :
    (keyClass a b).counted = if a = true ∧ b = false then .normal else .isolate := by
  split
  next h => exact keyClass_counted_normal.2 h
  next h => exact keyClass_counted h

theorem keyClass_eq (a b : Bool) :
    keyClass a b = if a = b then .fault else if a then .normal else .isolate := by
  cases a <;> cases b <;> rfl

theorem keyClass_fault {a b : Bool} : decide (keyClass a b = .fault) = true ↔ a = b := by
  rw [decide_eq_true_eq]; cases a <;> cases b <;> simp [keyClass]

/-- The key's record after a sample that delivers nothing. -/
def KeyRec.kept (now : Time) (a b : Bool) (r : KeyRec) : KeyRec :=
  { r.moved now a b with
    delivered := r.delivered,
    changeRun := if (keyClass a b).counted = r.delivered then none else some (r.changeRun.getD now) }

theorem KeyRec.sample_waits {now : Time} {a b : Bool} {r : KeyRec}
    (h : (keyClass a b).counted ≠ r.delivered → ∀ t, r.changeRun = some t → now < t + 100) :
    r.sample now false a b = (r.kept now a b, false) := by
  have hstep := changeStep_waits (by decide) h
  unfold KeyRec.sample KeyRec.kept KeyRec.moved; dsimp only
  rw [show Config.keyChangeTime = 100 from rfl, hstep]; rfl

/-- A key sample that delivers nothing writes the key's record alone. -/
theorem keyEvent_waits {a b : Bool} {n : Node}
    (h : (keyClass a b).counted ≠ n.fiu.key.delivered →
      ∀ t, n.fiu.key.changeRun = some t → n.now < t + 100) :
    keyEvent false a b n = { n with fiu.key := n.fiu.key.kept n.now a b } := by
  unfold keyEvent; rw [KeyRec.sample_waits h]; rfl

/-- Settles O7: none of the three samples gives an event, so each writes the input's record alone. -/
theorem inputSamplesWithoutEvent : Obligations.InputSamplesWithoutEvent := by
  refine ⟨?station, ?hold, ?key⟩
  case station =>
    intro s current hr n r operated hwait
    have hunripe : operated → runUnripe n.now r.opRun := fun hop run hrun => hwait run hrun hop
    refine ⟨(r.sample n.now current).1, rfl, r.sample_faultRule n.now current, fun hop => ?_, fun hop => ?_,
      rfl, ?_⟩
    · rw [StationRec.sample_opRun, stationClass_operated.2 hop, operatedStep_waits (hunripe hop)]
    · rw [StationRec.sample_opRun, operatedStep_of_other (mt stationClass_operated.1 hop)]
    · exact endsAs_inRun (stationEvent current) rfl hr
        (congrArg Node.bare (stationEvent_waits (StationRec.sample_waits hunripe)))
  case hold =>
    intro s current hr n r counted hwait
    have hcounted : (holdClass current).counted = counted := holdClass_counted current
    rw [← hcounted] at hwait ⊢
    exact ⟨r.kept n.now current, rfl, rfl, rfl, faultRuns_rule holdClass_fault _ _ _, rfl,
      endsAs_inRun (holdEvent false current) rfl hr (congrArg Node.bare (holdEvent_waits hwait))⟩
  case key =>
    intro s a b hr n r counted hwait
    have hcounted : (keyClass a b).counted = counted := keyClass_counted_eq a b
    rw [← hcounted] at hwait ⊢
    exact ⟨r.kept n.now a b, congrArg some (keyClass_eq a b), rfl, rfl, faultRuns_rule keyClass_fault _ _ _,
      rfl, endsAs_inRun (keyEvent false a b) rfl hr (congrArg Node.bare (keyEvent_waits hwait))⟩

end Sys2Proof.Machine

/-! # Temperature and hall pressure reads (O12) -/

namespace Sys2Proof.Machine

theorem pressStatus_ok {p : Int} (h : -500 ≤ p ∧ p ≤ 3000) : pressStatus p = .ok := if_pos h

theorem pressStatus_fault {p : Int} (h : ¬ (-500 ≤ p ∧ p ≤ 3000)) : pressStatus p = .fault := if_neg h

/-! ## The deferral's table (R73) -/

section
variable {n : Node} (hall : n.hsq.hall = .discharging) {reading : Int}
include hall

theorem deferralRead_starts (hd : n.vcu.deferral = .inactive) (h : (n.cfg.pressureLimit : Int) ≤ reading) :
    deferralRead .ok reading n = { n with vcu := { n.vcu with
      deferral := .active, deferTimer := some (n.now + 1000 * n.cfg.deferLimit) } } := by
  unfold deferralRead; rw [if_neg (not_not.2 hall), hd]; exact if_pos h

theorem deferralRead_below_limit (hd : n.vcu.deferral = .inactive) (h : reading < (n.cfg.pressureLimit : Int)) :
    deferralRead .ok reading n = n := by
  unfold deferralRead; rw [if_neg (not_not.2 hall), hd]; exact if_neg (Int.not_le.2 h)

theorem deferralRead_resumes (hd : n.vcu.deferral = .active) (h : reading < (n.cfg.resumeThreshold : Int)) :
    deferralRead .ok reading n = { n with vcu := { n.vcu with
      deferral := .inactive, deferTimer := none } } := by
  unfold deferralRead; rw [if_neg (not_not.2 hall), hd]; exact if_pos h

theorem deferralRead_goes_on (hd : n.vcu.deferral = .active) (h : (n.cfg.resumeThreshold : Int) ≤ reading) :
    deferralRead .ok reading n = n := by
  unfold deferralRead; rw [if_neg (not_not.2 hall), hd]; exact if_neg (Int.not_lt.2 h)

theorem deferralRead_waived (hd : n.vcu.deferral = .waived) : deferralRead .ok reading n = n := by
  unfold deferralRead; rw [if_neg (not_not.2 hall), hd]

theorem deferralRead_fault_inactive (hd : n.vcu.deferral = .inactive) : deferralRead .fault reading n =
    { n with vcu := { n.vcu with deferral := .waived } }.setFlag .pressureSensorFault := by
  unfold deferralRead; rw [if_neg (not_not.2 hall), hd]

theorem deferralRead_fault_active (hd : n.vcu.deferral = .active) : deferralRead .fault reading n =
    { n with vcu := { n.vcu with deferral := .waived, deferTimer := none } }.setFlag
      .pressureSensorFault := by
  unfold deferralRead; rw [if_neg (not_not.2 hall), hd]

theorem deferralRead_fault_waived (hd : n.vcu.deferral = .waived) :
    deferralRead .fault reading n = n.setFlag .pressureSensorFault := by
  unfold deferralRead; rw [if_neg (not_not.2 hall), hd]

end

/-! ## The reads -/

/-- The node once the pressure record of a read is taken (R44). -/
def pressTaken (reading : Int) (n : Node) : Node :=
  { n with fiu.press := { value := some reading, status := pressStatus reading,
                          sampleAt := n.now + Config.readPeriod } }

/-- A hall pressure read ends as the deferral's answer to the record taken. -/
theorem endsAs_hallPressureRead {s : State} {reading : Int} {k : PressStatus} {n : Node}
    (hr : s.node.running = true) (hk : pressStatus reading = k)
    (h : deferralRead k reading (pressTaken reading s.node) = n) :
    endsAs (.hallPressureRead reading) s n := by
  rw [← hk] at h
  exact endsAs_inRun (pressureEvent reading) rfl hr (congrArg Node.bare h)

/-- Settles O12: a temperature read by its record, a hall pressure read by the cells of R73's table. -/
theorem temperatureAndHallPressureReads : Obligations.TemperatureAndHallPressureReads := by
  refine ⟨?temperature, ?pressure⟩
  case temperature =>
    intro s reading hr status
    refine endsAs_inRun (temperatureEvent reading) rfl hr (congrArg Node.bare ?_)
    cases reading <;> rfl
  case pressure =>
    intro s reading hr n sound status m c
    refine ⟨fun hall => endsAs_hallPressureRead hr rfl (if_pos hall), fun hall => ?_⟩
    have hall' : (pressTaken reading s.node).hsq.hall = .discharging := hall
    have ok {u : Node} (hs : sound) (h : deferralRead .ok reading (pressTaken reading s.node) = u) :
        endsAs c s u := endsAs_hallPressureRead hr (pressStatus_ok hs) h
    have fault {u : Node} (hs : ¬ sound) (h : deferralRead .fault reading (pressTaken reading s.node) = u) :
        endsAs c s u := endsAs_hallPressureRead hr (pressStatus_fault hs) h
    exact ⟨fun hd hs h => ok hs (deferralRead_starts hall' hd h),
      fun hd hs h => ok hs (deferralRead_below_limit hall' hd h),
      fun hd hs h => ok hs (deferralRead_resumes hall' hd h),
      fun hd hs h => ok hs (deferralRead_goes_on hall' hd h),
      fun hd hs => ok hs (deferralRead_waived hall' hd),
      fun hd hs => fault hs (deferralRead_fault_inactive hall' hd),
      fun hd hs => fault hs (deferralRead_fault_active hall' hd),
      fun hd hs => fault hs (deferralRead_fault_waived hall' hd)⟩

end Sys2Proof.Machine

/-! # The demand figures (O41)

Each figure rounded up is the least whole number not below its quotient, and Ca the greatest not above
its own (`baseMass_le_iff`, `designMass_le_iff`, `le_achieved_iff`). So Ca reads Cd or more exactly when
W or more was delivered (`le_achieved_iff_baseMass_le`), and Wd is never below W. -/

namespace Sys2Proof.Machine

/-! ## The quotient rounded up -/

theorem ceilDiv_le_iff {a b c : Nat} (hb : 0 < b) : ceilDiv a b ≤ c ↔ a ≤ c * b := by
  rw [ceilDiv, ← Nat.ceilDiv_eq_add_pred_div, ceilDiv_le_iff_le_mul hb, Nat.mul_comm]

theorem le_ceilDiv_mul {a b : Nat} (hb : 0 < b) : a ≤ ceilDiv a b * b := (ceilDiv_le_iff hb).1 le_rfl

theorem ceilDiv_pos {a b : Nat} (ha : 0 < a) (hb : 0 < b) : 0 < ceilDiv a b :=
  Nat.pos_of_mul_pos_right (ha.trans_le (le_ceilDiv_mul hb))

theorem pred_ceilDiv_mul_lt {a b : Nat} (ha : 0 < a) (hb : 0 < b) : (ceilDiv a b - 1) * b < a := by
  have below : ¬ ceilDiv a b ≤ ceilDiv a b - 1 := Nat.not_le.2 (Nat.pred_lt_self (ceilDiv_pos ha hb))
  exact Nat.lt_of_not_le fun h => below ((ceilDiv_le_iff hb).2 h)

/-! ## W, Wd and Ca (R52, R53, R60) -/

theorem baseMass_le_iff {V Cd S8 w : Nat} (hden : 0 < S8 * (10000 - Cd)) :
    baseMass V Cd S8 ≤ w ↔ V * 10 ^ 9 * Cd ≤ w * (S8 * (10000 - Cd)) := ceilDiv_le_iff hden

theorem designMass_le_iff {w D k : Nat} : designMass w D ≤ k ↔ w * D ≤ k * 100 :=
  ceilDiv_le_iff (by decide)

theorem le_designMass {w D : Nat} (hD : 100 ≤ D) : w ≤ designMass w D := by
  have scaled : w * 100 ≤ w * D := Nat.mul_le_mul_left w hD
  have covered : w * D ≤ designMass w D * 100 := designMass_le_iff.1 le_rfl
  omega

theorem designMass_of_factor_100 (w : Nat) : designMass w 100 = w :=
  le_antisymm (designMass_le_iff.2 le_rfl) (le_designMass le_rfl)

section
variable {V S8 : Nat} (hV : 0 < V)
include hV

theorem achieved_den_pos (m : Nat) : 0 < V * 10 ^ 9 + m * S8 :=
  Nat.add_pos_left (Nat.mul_pos hV (by decide)) _

theorem le_achieved_iff {m c : Nat} :
    c ≤ achieved m S8 V ↔ c * (V * 10 ^ 9 + m * S8) ≤ 10000 * m * S8 :=
  Nat.le_div_iff_mul_le (achieved_den_pos hV m)

theorem achieved_lt_iff {m c : Nat} :
    achieved m S8 V < c ↔ 10000 * m * S8 < c * (V * 10 ^ 9 + m * S8) :=
  Nat.div_lt_iff_lt_mul (achieved_den_pos hV m)

theorem achieved_lt_10000 (m : Nat) : achieved m S8 V < 10000 := by
  rw [achieved_lt_iff hV, Nat.mul_assoc, Nat.mul_add]
  omega

/-- Ca reads Cd or more exactly when the base mass for Cd has been delivered: both compare
V 10^9 Cd with m S8 (10000 - Cd). -/
theorem le_achieved_iff_baseMass_le {Cd m : Nat} (hCd : Cd ≤ 10000) (hden : 0 < S8 * (10000 - Cd)) :
    Cd ≤ achieved m S8 V ↔ baseMass V Cd S8 ≤ m := by
  have split : 10000 * m * S8 = m * (S8 * (10000 - Cd)) + Cd * (m * S8) := by
    calc 10000 * m * S8 = ((10000 - Cd) + Cd) * m * S8 := by rw [Nat.sub_add_cancel hCd]
      _ = m * (S8 * (10000 - Cd)) + Cd * (m * S8) := by ring
  rw [le_achieved_iff hV, baseMass_le_iff hden, split, Nat.mul_add, Nat.mul_comm Cd (V * 10 ^ 9)]
  exact Nat.add_le_add_iff_right

end

/-! ## The bounds over the configured ranges -/

theorem baseMass_num_le {V Cd : Nat} (hV : V ≤ 30000) (hCd : Cd ≤ 2000) :
    V * 10 ^ 9 * Cd ≤ 6 * 10 ^ 16 :=
  calc V * 10 ^ 9 * Cd ≤ 30000 * 10 ^ 9 * 2000 := Nat.mul_le_mul (Nat.mul_le_mul_right _ hV) hCd
    _ = 6 * 10 ^ 16 := by norm_num

theorem baseMass_den_ge {S8 Cd : Nat} (hS : 100000 ≤ S8) (hCd : Cd ≤ 2000) :
    800000000 ≤ S8 * (10000 - Cd) :=
  Nat.mul_le_mul hS (show 8000 ≤ 10000 - Cd by omega)

theorem baseMass_den_le {S8 Cd : Nat} (hS : S8 ≤ 67000000) (hCd : 300 ≤ Cd) :
    S8 * (10000 - Cd) ≤ 649900000000 :=
  Nat.mul_le_mul hS (show 10000 - Cd ≤ 9700 by omega)

theorem baseMass_le {V Cd S8 : Nat} (hV : V ≤ 30000) (hCd : Cd ≤ 2000) (hS : 100000 ≤ S8) :
    baseMass V Cd S8 ≤ 75000000 := by
  have hden := baseMass_den_ge hS hCd
  refine (baseMass_le_iff (by omega)).2 ?_
  calc V * 10 ^ 9 * Cd ≤ 75000000 * 800000000 := baseMass_num_le hV hCd
    _ ≤ 75000000 * (S8 * (10000 - Cd)) := Nat.mul_le_mul_left _ hden

theorem designMass_le {w D : Nat} (hw : w ≤ 75000000) (hD : D ≤ 150) : designMass w D ≤ 112500000 :=
  designMass_le_iff.2 <|
    calc w * D ≤ 75000000 * 150 := Nat.mul_le_mul hw hD
      _ = 112500000 * 100 := by norm_num

/-- Settles O41: each figure by its rounding and its bounds, and the last clause through W ≤ Wd. -/
theorem demandFiguresAreRoundedAsStated : Obligations.DemandFiguresAreRoundedAsStated := by
  intro V Cd D S8 m hV hV' hCd hCd' hD hD' hS hS' num den W Wd Ca
  have hVpos : 0 < V := by omega
  have hnum : 0 < num := Nat.mul_pos (Nat.mul_pos hVpos (by decide)) (by omega)
  have hdenGe : 800000000 ≤ den := baseMass_den_ge hS hCd'
  have hden : 0 < den := by omega
  have hW : 1 ≤ W := ceilDiv_pos hnum hden
  have hWle : W ≤ 75000000 := baseMass_le hV' hCd' hS
  have hWD : 0 < W * D := Nat.mul_pos hW (by omega)
  refine ⟨baseMass_num_le hV' hCd', hdenGe, baseMass_den_le hS' hCd,
    le_ceilDiv_mul hden, pred_ceilDiv_mul_lt hnum hden, hW, hWle, ?wdCovers, ?wdLeast, ?wdOfFactor100,
    designMass_le hWle hD', (le_achieved_iff hVpos).1 le_rfl,
    (achieved_lt_iff hVpos).1 (Nat.lt_succ_self _), achieved_lt_10000 hVpos m, ?caOfNone, ?caReached⟩
  case wdCovers =>
    rw [Nat.mul_comm 100]
    exact designMass_le_iff.1 le_rfl
  case wdLeast =>
    rw [Nat.mul_comm 100]
    exact pred_ceilDiv_mul_lt hWD (by decide)
  case wdOfFactor100 =>
    rintro rfl
    exact designMass_of_factor_100 W
  case caOfNone =>
    rintro rfl
    simp [Ca, achieved]
  case caReached =>
    intro delivered
    exact (le_achieved_iff_baseMass_le hVpos (by omega) hden).2 ((le_designMass hD).trans delivered)

end Sys2Proof.Machine

/-! # The arbiter, its timers and the drive monitor (O18, O21, O22) -/

namespace Sys2Proof.Machine

/-! ## The stagger and the defer timer -/

theorem staggerOver_due {n : Node} {ends : Time} (h : n.vcu.stagger = some ends) (hle : ends ≤ n.now) :
    staggerOver n = { n with vcu.stagger := none } := if_pos (by simp [due, h, hle])

/-- The node with its defer timer stopped. -/
def deferStopped (n : Node) : Node := { n with vcu := { n.vcu with deferTimer := none } }

theorem deferOver_due {n : Node} {ends : Time} (h : n.vcu.deferTimer = some ends) (hle : ends ≤ n.now) :
    deferOver n = if n.vcu.deferral = .active then
        Node.setFlag { deferStopped n with vcu.deferral := .waived } .pressureForced
      else deferStopped n := if_pos (by simp [due, h, hle])

/-- Settles O21: each expiry by its timer, the deferral's by its state. -/
theorem staggerAndDeferTimersExpire : Obligations.StaggerAndDeferTimersExpire := by
  refine ⟨fun s ends hr h hle => ?stagger, ?defer⟩
  case stagger => exact endsAs_inRun staggerOver rfl hr (congrArg Node.bare (staggerOver_due h hle))
  case defer =>
    intro s ends hr h hle stopped
    have hover := deferOver_due h hle
    exact ⟨fun hd => endsAs_inRun deferOver rfl hr (congrArg Node.bare (hover.trans (if_pos hd))),
      fun hd => endsAs_inRun deferOver rfl hr (congrArg Node.bare (hover.trans (if_neg hd)))⟩

/-! ## The arbiter -/

theorem Vcu.anyChan_iff {v : Vcu} {p : Channel → Bool} :
    v.anyChan p = true ↔ ∃ c, p (v.channels.get c) = true := by
  simp [Vcu.anyChan, mem_allChans]

theorem Node.isolate_eq_false {n : Node} : n.isolate = false ↔ n.fiu.key.delivered = .normal := by
  unfold Node.isolate
  cases n.fiu.key.delivered <;> simp

/-- R71's conditions but for the entry: no output on, none drawing current, the stagger interval passed, the
key NORMAL. -/
theorem Node.arbiterFree_iff {n : Node} : n.arbiterFree = true ↔ n.vcu.outputOn = none ∧
    (∀ c, (n.chan c).currentSince = none) ∧ n.vcu.stagger = none ∧ n.fiu.key.delivered = .normal := by
  have hdrawing : n.vcu.anyChan (fun r => r.currentSince.isSome) = false ↔
      ∀ c, (n.chan c).currentSince = none := by
    rw [← Bool.not_eq_true, Vcu.anyChan_iff]; simp [Node.chan]
  unfold Node.arbiterFree
  simp only [Bool.and_eq_true, Option.isNone_iff_eq_none, Bool.not_eq_true', hdrawing, Node.isolate_eq_false,
    and_assoc]

theorem Node.eligible_iff {n : Node} {c : ChanId} : n.eligible c = true ↔ (n.chan c).role = .reserve ∨
    ((n.chan c).role = .hall ∧ n.vcu.deferral ≠ .active ∧ n.hsq.hall = .discharging) := by
  unfold Node.eligible
  cases (n.chan c).role <;> simp

theorem Node.nextPulse_none {n : Node}
    (h : ¬ n.arbiterFree = true ∨ ∀ c ∈ n.vcu.queue, ¬ n.eligible c = true) : n.nextPulse = none := by
  unfold Node.nextPulse
  by_cases hf : n.arbiterFree = true
  · rw [if_pos hf]; exact List.find?_eq_none.2 (h.resolve_left (not_not.2 hf))
  · exact if_neg hf

/-- The entry started is the oldest eligible one. -/
theorem Node.nextPulse_some {n : Node} {before after : List ChanId} {c : ChanId} (hf : n.arbiterFree = true)
    (hq : n.vcu.queue = before ++ c :: after) (hb : ∀ d ∈ before, ¬ n.eligible d = true)
    (hc : n.eligible c = true) : n.nextPulse = some c := by
  unfold Node.nextPulse
  rw [if_pos hf, hq, List.find?_append, List.find?_eq_none.2 hb, List.find?_cons_of_pos hc]; rfl

theorem arbiterStart_none {n : Node} (h : n.nextPulse = none) : arbiterStart n = n := by
  unfold arbiterStart; rw [h]

theorem arbiterStart_some {n : Node} {c : ChanId} (h : n.nextPulse = some c) :
    arbiterStart n = startPulse c n := by unfold arbiterStart; rw [h]

/-- Settles O18: the arbiter starts `nextPulse`, which is the oldest eligible entry of a free arbiter. -/
theorem arbiterStartsTheOldestEligibleEntry : Obligations.ArbiterStartsTheOldestEligibleEntry := by
  intro s hr n free eligible
  have hfree : n.arbiterFree = true ↔ free := Node.arbiterFree_iff
  have helig : ∀ c, n.eligible c = true ↔ eligible c := fun c => Node.eligible_iff
  refine ⟨fun h => ?nothing, fun before c after hf hq hb hc => ?starts⟩
  case nothing =>
    refine endsAs_inRun arbiterStart rfl hr (congrArg Node.bare (arbiterStart_none (Node.nextPulse_none ?_)))
    exact h.imp (mt hfree.1) fun hq c hc => mt (helig c).1 (hq c hc)
  case starts =>
    have hnext : n.nextPulse = some c := Node.nextPulse_some (hfree.2 hf) hq
      (fun d hd => mt (helig d).1 (hb d hd)) ((helig c).2 hc)
    refine endsAs_inRun arbiterStart rfl hr (congrArg Node.bare ((arbiterStart_some hnext).trans ?_))
    obtain ⟨-, hcur, -⟩ := hf
    have hidle : ((dequeue c n).chan c).currentSince = none := hcur c
    unfold startPulse Node.modChan; dsimp only; rw [hidle]; rfl

/-! ## The drive monitor's cut -/

/-- The channel's record under a drive cut: no current is drawn (R76). -/
def Channel.cut (r : Channel) : Channel := { r with driveCut := true, currentSince := none }

/-- The node with the command of `c`'s output ended. -/
def commandEnded (c : ChanId) (n : Node) : Node := if n.vcu.outputOn = some c then commandOff n else n

/-- The node with `c`'s drive cut, before its channel is taken out of use (R76). -/
def driveEnded (c : ChanId) (n : Node) : Node :=
  ((commandEnded c n).setChan c (n.chan c).cut).setFlag .driveFault

section
variable (c : ChanId) (n : Node)

theorem commandEnded_outputOn : (commandEnded c n).vcu.outputOn ≠ some c := by
  unfold commandEnded; split
  · exact (Option.some_ne_none c).symm
  next h => exact h

theorem driveEnded_chan : (driveEnded c n).chan c = (n.chan c).cut := Node.chan_setChan_same _ c _

theorem driveEnded_set (x : Channel) :
    (driveEnded c n).setChan c x = ((commandEnded c n).setChan c x).setFlag .driveFault :=
  congrArg (fun m => Node.setFlag m .driveFault) (Node.setChan_setChan _ c _ x)

/-- The cut by the channel's state: it acts on the node whose drive has ended. -/
theorem cutDrive_ended : cutDrive c n = match (n.chan c).state with
    | .firing => resolveFiring c (driveEnded c n)
    | .queued => (dequeue c ((driveEnded c n).setChan c ((n.chan c).cut.leave .failed)),
        pulseReport c (n.chan c).requester .failed)
    | .committed => ((driveEnded c n).setChan c { (n.chan c).cut with state := .failed, committedTo := none },
        ((n.chan c).committedTo.map VReport.uncommitted).toList)
    | .ready => ((driveEnded c n).setChan c { (n.chan c).cut with state := .failed }, [])
    | .isolated => (if (n.chan c).role = .unused then driveEnded c n
        else (driveEnded c n).setChan c { (n.chan c).cut with state := .failed }, [])
    | .low => ((driveEnded c n).setChan c { (n.chan c).cut with state := .failed }, [])
    | .spent => (driveEnded c n, [])
    | .failed => (driveEnded c n, []) := by
  unfold cutDrive
  extract_lets m₀ v m r
  have hm : m = driveEnded c n := by
    change (if n.vcu.outputOn = some c then _ else _) = _
    unfold driveEnded commandEnded; split <;> rfl
  have hr : r = (n.chan c).cut := by
    change m.chan c = _; rw [hm, driveEnded_chan]
  clear_value r m
  subst hm hr
  rfl

/-- The monitor's condition: no cut yet, and 3.0 s of continuous current (R76). -/
theorem Node.driveLong_iff : n.driveLong c = true ↔
    (n.chan c).driveCut = false ∧ ∃ t, (n.chan c).currentSince = some t ∧ t + 3000 ≤ n.now := by
  unfold Node.driveLong lasted
  rw [Bool.and_eq_true, Bool.not_eq_true', show Config.driveLimit = 3000 from rfl]
  cases (n.chan c).currentSince <;> simp

end

section
variable {c : ChanId} {n : Node}

theorem monitorCut_early (h : ∀ t, (n.chan c).currentSince = some t → n.now < t + 3000) : monitorCut c n = n := by
  refine if_neg fun hl => ?_
  obtain ⟨-, t, ht, hle⟩ := (Node.driveLong_iff c n).1 hl
  exact absurd hle (Nat.not_le.2 (h t ht))

theorem monitorCut_late {t : Time} (ht : (n.chan c).currentSince = some t) (hle : t + 3000 ≤ n.now)
    (hd : (n.chan c).driveCut = false) : monitorCut c n = afterReports (cutDrive c n) :=
  if_pos ((Node.driveLong_iff c n).2 ⟨hd, t, ht, hle⟩)

theorem resolveFiring_cut (hs : (n.chan c).state = .firing) (hd : (n.chan c).driveCut = true) :
    resolveFiring c n = (n.setChan c ((n.chan c).leave .failed), pulseReport c (n.chan c).requester .failed) := by
  unfold resolveFiring; simp [hs, hd]

/-! ## What the owners' reports leave of a failed channel -/

theorem soakTest_outputOn (n : Node) : (soakTest n).vcu.outputOn = n.vcu.outputOn := by
  unfold soakTest; split
  · rw [enterSoak_eq, soakSettled_eq]
  · rfl

theorem afterReports_outputOn (n : Node) (rs : List VReport) :
    (afterReports (n, rs)).vcu.outputOn = n.vcu.outputOn := by
  unfold afterReports; split
  · rfl
  · rw [soakTest_outputOn]
    exact congrArg (fun m => m.vcu.outputOn) (takeReports_sansReports (n, rs))

/-- A channel failed by a drive cut stands so at the end of the event, whatever its owner makes of the
report. -/
theorem driveCut_fails {s : State} {m : Node} {x : Channel} {q : Prop} {rs : List VReport}
    (hr : s.node.running = true) (hcut : monitorCut c s.node = afterReports (m, rs)) (h : m.holds c x q)
    (hx : x.state = .failed ∧ x.driveCut = true ∧ x.committedTo = none) (ho : m.vcu.outputOn ≠ some c)
    (hf : m.flag .driveFault = true) :
    ∃ u, exec (.driveMonitorCut c) s = .next u ∧ (u.node.chan c).state = .failed ∧
      (u.node.chan c).driveCut = true ∧ (u.node.chan c).committedTo = none ∧ (c ∈ u.node.vcu.queue → q) ∧
      u.node.vcu.outputOn ≠ some c ∧ u.node.flag .driveFault = true := by
  obtain ⟨hst, hdc, hcom⟩ := hx
  obtain ⟨hchan, hqueue⟩ := (chanInv_holds c q (.inr (.inr hst))).afterReports rs h
  refine ⟨_, if_pos hr, ?_⟩
  unfold Node.chan Node.flag
  dsimp only
  rw [finish_vcu, finish_svp, hcut, afterReports_outputOn]
  change (afterReports (m, rs)).chan c = x at hchan
  unfold Node.chan at hchan
  rw [hchan]
  exact ⟨hst, hdc, hcom, hqueue, ho, afterReports_raises m rs .driveFault hf⟩

/-! ## A driver that draws current of its own accord -/

/-- The event of a driver that begins or ceases to draw of its own accord. -/
def selfDriveEvent (c : ChanId) (b : Bool) (n : Node) : Node := afterReports (selfDrive c b n)

theorem selfDriveEvent_cut (b : Bool) (h : (n.chan c).driveCut = true) : selfDriveEvent c b n = n := by
  unfold selfDriveEvent selfDrive; dsimp only
  rw [if_pos h]; exact afterReports_none n

section
variable (hd : (n.chan c).driveCut = false)
include hd

theorem selfDriveEvent_begins : selfDriveEvent c true n = n.setChan c { n.chan c with
    selfDriven := true, currentSince := some ((n.chan c).currentSince.getD n.now) } := by
  unfold selfDriveEvent selfDrive; dsimp only
  rw [if_neg (by simp [hd]), if_pos rfl]; exact afterReports_none _

theorem selfDriveEvent_commanded (ho : n.vcu.outputOn = some c) :
    selfDriveEvent c false n = n.setChan c { n.chan c with selfDriven := false } := by
  unfold selfDriveEvent selfDrive; dsimp only
  rw [if_neg (by simp [hd]), if_neg Bool.false_ne_true, if_pos ho]; exact afterReports_none _

theorem selfDriveEvent_ceases (ho : n.vcu.outputOn ≠ some c) (hs : (n.chan c).state ≠ .firing) :
    selfDriveEvent c false n = n.setChan c { n.chan c with selfDriven := false, currentSince := none } := by
  unfold selfDriveEvent selfDrive; dsimp only
  rw [if_neg (by simp [hd]), if_neg Bool.false_ne_true, if_neg ho,
    resolveFiring_other (by rw [Node.chan_setChan_same]; exact hs)]
  exact afterReports_none _

end

end

/-- Settles O22: the cut by the channel's state, and a self-drawing driver by its command. -/
theorem driveMonitorTimesAndCutsTheCurrent : Obligations.DriveMonitorTimesAndCutsTheCurrent := by
  refine ⟨?cuts, ?draws⟩
  case cuts =>
    intro s c hr n r r' off
    refine ⟨fun h => endsAs_inRun (monitorCut c) rfl hr (congrArg Node.bare (monitorCut_early h)), ?late⟩
    intro t ht hle hd
    have hlate : monitorCut c n = afterReports (cutDrive c n) := monitorCut_late ht hle hd
    -- where VCU reports nothing, the event ends in what the cut leaves
    have silent : ∀ m, cutDrive c n = (m, []) → endsAs (.driveMonitorCut c) s m := fun m hm =>
      endsAs_inRun (monitorCut c) rfl hr
        (congrArg Node.bare (hlate.trans ((congrArg afterReports hm).trans (afterReports_none m))))
    refine ⟨fun hu hst => ?unfit, fun hu hst => ?unused, fun hst => ?final, fun hu hst => ?reported⟩
    case unfit =>
      change endsAs _ s (((commandEnded c n).setChan c _).setFlag .driveFault)
      rw [← driveEnded_set c n]
      refine silent _ ?_
      rw [cutDrive_ended]
      rcases hst with hst | hst | hst <;> rw [hst]
      · rfl
      · dsimp only; rw [if_neg hu]; rfl
      · rfl
    case unused =>
      refine silent (driveEnded c n) ?_
      rw [cutDrive_ended, hst]; dsimp only; rw [if_pos hu]
    case final =>
      refine silent (driveEnded c n) ?_
      rw [cutDrive_ended]
      rcases hst with hst | hst <;> rw [hst]
    case reported =>
      have ho := commandEnded_outputOn c n
      have hset : ∀ x, ((driveEnded c n).setChan c x).chan c = x := Node.chan_setChan_same _ c
      have hflag : ∀ x, ((driveEnded c n).setChan c x).flag .driveFault = true := fun x => by
        rw [driveEnded_set]; exact Node.flag_setFlag_same _ _
      rcases hst with hst | hst | hst
      · have hcut := cutDrive_ended c n
        rw [hst] at hcut
        obtain ⟨u, hu, hs, hdc, hcom, hq, hrest⟩ := driveCut_fails (q := False) hr
          (hlate.trans (congrArg afterReports hcut))
          ⟨hset ((n.chan c).cut.leave .failed), fun hx => by simpa using (List.mem_filter.1 hx).2⟩
          ⟨rfl, rfl, rfl⟩ ho (hflag ((n.chan c).cut.leave .failed))
        exact ⟨u, hu, hs, hdc, hcom, fun _ => hq, hrest⟩
      · have hcut := cutDrive_ended c n
        rw [hst] at hcut
        dsimp only at hcut
        rw [resolveFiring_cut (by rw [driveEnded_chan]; exact hst) (by rw [driveEnded_chan]; rfl)] at hcut
        obtain ⟨u, hu, hs, hdc, hcom, hq, hrest⟩ := driveCut_fails (q := True) hr
          (hlate.trans (congrArg afterReports hcut))
          ⟨hset (((driveEnded c n).chan c).leave .failed), fun _ => trivial⟩
          ⟨rfl, by rw [driveEnded_chan]; rfl, rfl⟩ ho (hflag (((driveEnded c n).chan c).leave .failed))
        exact ⟨u, hu, hs, hdc, hcom, fun hx => absurd (hst.symm.trans hx) (by decide), hrest⟩
      · have hcut := cutDrive_ended c n
        rw [hst] at hcut
        obtain ⟨u, hu, hs, hdc, hcom, hq, hrest⟩ := driveCut_fails (q := True) hr
          (hlate.trans (congrArg afterReports hcut))
          ⟨hset { (n.chan c).cut with state := .failed, committedTo := none }, fun _ => trivial⟩
          ⟨rfl, rfl, rfl⟩ ho (hflag { (n.chan c).cut with state := .failed, committedTo := none })
        exact ⟨u, hu, hs, hdc, hcom, fun hx => absurd (hst.symm.trans hx) (by decide), hrest⟩
  case draws =>
    intro s c hr n r
    have ends : ∀ {b m}, selfDriveEvent c b n = m → endsAs (.driveCurrentWithoutCommand c b) s m :=
      fun {b} _ hm => endsAs_inRun (selfDriveEvent c b) rfl hr (congrArg Node.bare hm)
    exact ⟨fun h b => ends (selfDriveEvent_cut b h), fun h => ends (selfDriveEvent_begins h),
      fun h ho => ends (selfDriveEvent_commanded h ho), fun h ho hs => ends (selfDriveEvent_ceases h ho hs)⟩

end Sys2Proof.Machine

/-! # The selector's readings and its travel timer (O23) -/

namespace Sys2Proof.Machine

/-! ## What RCL makes of the selector's reports -/

section
variable {n : Node}

theorem rclOpened_vcu (n : Node) : (rclOpened n).vcu = n.vcu := by
  unfold rclOpened; repeat' split
  · unfold sendWayopen; split
    · rfl
    next h hh => exact (congrArg Node.vcu (queueWayopen_eq h _ _) :)
  · rfl
  · rfl

theorem rclOpened_granted (hp : n.rcl.phase = .opening) (hg : 0 < n.rcl.grantHeard) :
    rclOpened n = sendWayopen n := (if_pos hp).trans (if_pos hg)

theorem closeAfterFlow_jammed (h : n.vcu.selector.state = .jammed) : closeAfterFlow n = n :=
  if_neg (by simp [h])

theorem rclEnd_jammed (b : Bool) (h : n.vcu.selector.state = .jammed) : (rclEnd b n).vcu = n.vcu := by
  have hd : (dropBid n).vcu = n.vcu := by rw [dropBid_eq]
  have hj : (dropBid n).vcu.selector.state = .jammed := by rw [hd]; exact h
  rw [rclEnd_eq, rclResolve_vcu, phaseLeft, closeAfterFlow_jammed hj, hd]

/-- A jammed selector is not driven by what RCL does of it. -/
theorem rclJammed_vcu (h : n.vcu.selector.state = .jammed) : (rclJammed n).vcu = n.vcu := by
  unfold rclJammed; repeat' split
  · exact rclEnd_jammed false h
  · rfl
  · rw [sendYield_eq]
  · rfl

theorem rclJammed_gives_up (hh : n.hsq.hall ≠ .discharging) (hb : n.rcl.bid = .queued ∨ n.rcl.bid = .placed) :
    (rclJammed n).rcl.bid = .none := by
  have hc : rclJammed n = sendYield { n with rcl.bid := .none, rcl.rebid := false } :=
    (if_neg hh).trans (if_pos (claims_iff.2 hb))
  rw [hc, sendYield_eq]

theorem jamReport_selector (h : n.vcu.selector.state = .jammed) :
    (selReports [.jammed] n).vcu.selector = n.vcu.selector :=
  (soakTest_selector _).trans (congrArg Vcu.selector (rclJammed_vcu h))

theorem jamReport_raises : n.raisedIn (selReports [.jammed] n) := fun f hf =>
  soakTest_raises _ f (Node.raisedIn_of_svp (svp_of_sansClient (rclJammed_sansClient n)) f hf)

/-! ## One read of the limit switches -/

/-- The node with a reading of the limit switches stored (section 4.8). -/
def limitsSeen (reading : SelReading) (n : Node) : Node :=
  { n with vcu.selector.reading := reading, vcu.selector.readAt := n.now + Config.readPeriod }

section
variable {r : SelReading}

theorem selRead_jammed (h : n.vcu.selector.state = .jammed) : selRead r n = (limitsSeen r n, []) := by
  unfold selRead; extract_lets _ _ m
  rw [show m.vcu.selector.state = _ from h]
  cases r <;> rfl

theorem selRead_fault (h : n.vcu.selector.state ≠ .jammed) :
    selRead .fault n = (selJam (limitsSeen .fault n), [.jammed]) := by
  unfold selRead; extract_lets _ _ m
  cases hs : m.vcu.selector.state with
  | jammed => exact absurd hs h
  | closed | opening | opened | closing => rfl

theorem selRead_opened (h : n.vcu.selector.state = .opening) :
    selRead .opened n = (selArrive .opened (limitsSeen .opened n), [.opened]) := by
  unfold selRead; extract_lets _ _ m
  rw [show m.vcu.selector.state = _ from h]; rfl

theorem selRead_closed (h : n.vcu.selector.state = .closing) :
    selRead .closed n = (selArrive .closed (limitsSeen .closed n), [.closed]) := by
  unfold selRead; extract_lets _ _ m
  rw [show m.vcu.selector.state = _ from h]; rfl

theorem selRead_opening (h : n.vcu.selector.state = .opening) (hr : r = .closed ∨ r = .moving) :
    selRead r n = (limitsSeen r n, []) := by
  unfold selRead; extract_lets _ _ m
  rw [show m.vcu.selector.state = _ from h]
  rcases hr with rfl | rfl <;> rfl

theorem selRead_closing (h : n.vcu.selector.state = .closing) (hr : r = .opened ∨ r = .moving) :
    selRead r n = (limitsSeen r n, []) := by
  unfold selRead; extract_lets _ _ m
  rw [show m.vcu.selector.state = _ from h]
  rcases hr with rfl | rfl <;> rfl

/-- The reading of a selector at rest is the one of its state. -/
def Selector.confirmed (s : Selector) (r : SelReading) : Prop :=
  (s.state = .closed ∧ r = .closed) ∨ (s.state = .opened ∧ r = .opened)

/-- The reading of a selector at rest differs from its state, and is not the fault reading. -/
def Selector.differs (s : Selector) (r : SelReading) : Prop :=
  (s.state = .closed ∧ (r = .opened ∨ r = .moving)) ∨ (s.state = .opened ∧ (r = .closed ∨ r = .moving))

theorem selRead_confirmed (h : n.vcu.selector.confirmed r) :
    selRead r n = (selWatch true (limitsSeen r n), []) := by
  unfold selRead; extract_lets _ _ m
  rcases h with ⟨h, rfl⟩ | ⟨h, rfl⟩ <;> rw [show m.vcu.selector.state = _ from h] <;> rfl

theorem selRead_differs (h : n.vcu.selector.differs r) :
    selRead r n = (selWatch false (limitsSeen r n), []) := by
  unfold selRead; extract_lets _ _ m
  rcases h with ⟨h, rfl | rfl⟩ | ⟨h, rfl | rfl⟩ <;> rw [show m.vcu.selector.state = _ from h] <;> rfl

end

/-- The first differing reading starts the travel timer, and a later one leaves it. -/
theorem selWatch_differs (n : Node) : selWatch false n = { n with
    vcu.selector.travel := some (n.vcu.selector.travel.getD (n.now + 1000 * n.cfg.selectorTime)) } := by
  unfold selWatch; rw [if_neg Bool.false_ne_true]
  cases ht : n.vcu.selector.travel with
  | none => rfl
  | some t => exact (if_pos rfl).trans (by rw [Option.getD_some, ← ht])

/-! ## The travel timer -/

theorem travelOver_jams {ends : Time} (ht : n.vcu.selector.travel = some ends) (hle : ends ≤ n.now)
    (hs : n.vcu.selector.state ≠ .jammed) : travelOver n = selReports [.jammed] (selJam n) :=
  (if_pos (by simp [due, ht, hle])).trans (if_neg hs)

end

theorem limitRead_eq {o c : Bool} {r : SelReading} {n m : Node} {rs : List SelReport}
    (hr : selReading o c = r) (h : selRead r n = (m, rs)) : limitRead o c n = selReports rs m := by
  unfold limitRead; rw [hr, h]

/-- Settles O23: the read by the selector's state and reading, and the travel timer's expiry as a jam. -/
theorem selectorFollowsItsReadingsAndTravelTimer : Obligations.SelectorFollowsItsReadingsAndTravelTimer := by
  refine ⟨?read, ?expiry⟩
  case read =>
    intro s o c hr n sel reading seen as
    have hreading : selReading o c = reading := rfl
    have reads : ∀ {m rs}, selRead reading n = (m, rs) → limitRead o c n = selReports rs m :=
      limitRead_eq hreading
    have quiet : ∀ {m}, selRead reading n = (m, []) → endsAs (.selectorLimitRead o c) s m := fun h =>
      endsAs_inRun (limitRead o c) rfl hr (congrArg Node.bare (reads h))
    have vcu_end : ∀ m, limitRead o c n = m → (finish s.node (limitRead o c n)).vcu = m.vcu := fun m h =>
      (finish_vcu _ _).trans (congrArg Node.vcu h)
    clear_value reading
    refine ⟨fun h => quiet (selRead_jammed h), fun h hc => ?closed, fun h hc => quiet (selRead_opening h hc),
      fun h hc => quiet (selRead_closing h hc), fun h => quiet (selRead_confirmed h), fun h => ?differs,
      fun h hc => ?opened, fun h hc => ?fault⟩
    case closed =>
      subst hc
      exact endsAs_inRun (limitRead o c) rfl hr (congrArg Node.bare (reads (selRead_closed h)))
    case differs => exact quiet ((selRead_differs h).trans (by rw [selWatch_differs]; rfl))
    case opened =>
      subst hc
      have hend := reads (selRead_opened h)
      refine ⟨_, if_pos hr, ?_, fun hp hg hh hl => ?_⟩
      · exact (congrArg Vcu.selector (vcu_end _ hend)).trans
          ((soakTest_selector _).trans (congrArg Vcu.selector (rclOpened_vcu _)))
      · obtain ⟨h', hh'⟩ := Option.isSome_iff_exists.1 hh
        have hopen := (rclOpened_granted (n := selArrive .opened (limitsSeen .opened n)) hp hg).trans
          (sendWayopen_of_holder hh' hl)
        have hrcl := (finish_rcl s.node _).trans ((congrArg Node.rcl hend).trans
          ((soakTest_rcl _).trans (congrArg Node.rcl hopen)))
        have hway := (finish_wayopen s.node _).trans ((congrArg (fun m => m.lkc.outbox.wayopen) hend).trans
          ((soakTest_wayopen _).trans (congrArg (fun m => m.lkc.outbox.wayopen) hopen)))
        exact ⟨congrArg Rcl.phase hrcl, hway.trans (by rw [hh']; rfl), congrArg Rcl.feedTimeout hrcl⟩
    case fault =>
      subst hc
      have hend := reads (selRead_fault h)
      refine ⟨_, if_pos hr, (congrArg Vcu.selector (vcu_end _ hend)).trans (jamReport_selector rfl), ?_⟩
      have hflag := jamReport_raises (n := selJam (limitsSeen .fault n)) .selectorJam (Node.flag_setFlag_same _ _)
      exact Node.raisedIn_of_svp ((finish_svp s.node _).trans (congrArg Node.svp hend)) _ hflag
  case expiry =>
    intro s ends hr ht hle hs
    have hend := travelOver_jams ht hle hs
    have hsel : (finish s.node (travelOver s.node)).vcu.selector = (selJam s.node).vcu.selector := by
      rw [finish_vcu, hend, jamReport_selector rfl]
    have hflag := jamReport_raises (n := selJam s.node) .selectorJam (Node.flag_setFlag_same _ _)
    refine ⟨_, if_pos hr, congrArg Selector.state hsel, congrArg Selector.drive hsel,
      congrArg Selector.travel hsel, ?_, fun hh hb => ?_⟩
    · exact Node.raisedIn_of_svp ((finish_svp s.node _).trans (congrArg Node.svp hend)) _ hflag
    · have hrcl : (finish s.node (travelOver s.node)).rcl = (rclJammed (selJam s.node)).rcl :=
        (finish_rcl _ _).trans ((congrArg Node.rcl hend).trans (soakTest_rcl _))
      exact (congrArg Rcl.bid hrcl).trans (rclJammed_gives_up hh hb)

end Sys2Proof.Machine

/-! # The key law kept (O51): the valve unit and the owners of its channels

Commands move the selector and the outputs in five ways only: OPEN and a pulse start, which a delivered
ISOLATE refuses (R67, R71), and CLOSE, a stop and the end of an output, which the law allows in every state.
`ValveLaw` is what the moves keep in RUN; everything else leaves what the law reads (`valvePart`). -/

namespace Sys2Proof.Machine

/-- What the key law reads of a node. -/
def Node.valvePart (n : Node) : KeyPos × Phase × Option ChanId × SelState × SelDrive :=
  (n.fiu.key.delivered, n.cfs.phase, n.vcu.outputOn, n.vcu.selector.state, n.vcu.selector.drive)

theorem valvePart_of_sansBank {a b : Node} (h : a.sansBank = b.sansBank) : a.valvePart = b.valvePart :=
  (congrArg Node.valvePart h :)
theorem valvePart_of_sansVent {a b : Node} (h : a.sansVent = b.sansVent) : a.valvePart = b.valvePart :=
  (congrArg Node.valvePart h :)
theorem valvePart_of_sansFire {a b : Node} (h : a.sansFire = b.sansFire) : a.valvePart = b.valvePart :=
  (congrArg Node.valvePart h :)
theorem valvePart_of_sansPlan {a b : Node} (h : a.sansPlan = b.sansPlan) : a.valvePart = b.valvePart :=
  (congrArg Node.valvePart h :)

/-- The law is read from `valvePart` and the selector. -/
theorem valvePart_of_sansClient {a b : Node} (h : a.sansClient = b.sansClient)
    (hs : a.vcu.selector = b.vcu.selector) : a.valvePart = b.valvePart := by
  have hk := congrArg (fun m => (m.fiu.key.delivered, m.cfs.phase, m.vcu.outputOn)) h
  unfold Node.valvePart
  rw [hs]
  exact congrArg (fun p => (p.1, p.2.1, p.2.2, b.vcu.selector.state, b.vcu.selector.drive)) hk

theorem valvePart_setFlagIf (n : Node) (b : Bool) (f : Flag) : (n.setFlagIf b f).valvePart = n.valvePart := by
  cases b <;> rfl

/-- A node in RUN of which the key law holds and whose selector is driven open only while OPENING. -/
structure ValveLaw (n : Node) : Prop where
  key : keyLaw n
  drive : driveLaw n
  run : n.cfs.phase = .run

namespace ValveLaw

variable {n m : Node}

theorem congr (h : ValveLaw n) (he : m.valvePart = n.valvePart) : ValveLaw m := by
  obtain ⟨hk, hd, hr⟩ := h
  simp only [Node.valvePart, Prod.mk.injEq] at he
  obtain ⟨ek, ep, eo, es, ed⟩ := he
  refine ⟨?_, ?_, ep.trans hr⟩
  · unfold keyLaw at hk ⊢; rw [ek, eo, es, ed]; exact hk
  · unfold driveLaw at hd ⊢; rw [es, ed]; exact hd

theorem setFlag (h : ValveLaw n) (f : Flag) : ValveLaw (n.setFlag f) := h.congr rfl

/-- A selector that neither opens nor is driven open, under the same key and outputs, keeps the law. -/
theorem shut (h : ValveLaw n) (hst : m.vcu.selector.state ≠ .opening) (hd : m.vcu.selector.drive ≠ .driveOpen)
    (ho : m.vcu.outputOn = n.vcu.outputOn) (hk : m.fiu.key.delivered = n.fiu.key.delivered)
    (hp : m.cfs.phase = n.cfs.phase) : ValveLaw m :=
  ⟨fun hi => ⟨ho.trans (h.key (hk ▸ hi)).1, hst, hd⟩, fun hx => absurd hx hd, hp.trans h.run⟩

/-- Under a delivered NORMAL key the law asks for the drive alone. -/
theorem of_normal (hi : m.isolate = false) (hd : driveLaw m) (hp : m.cfs.phase = .run) : ValveLaw m :=
  ⟨fun hk => absurd (Node.isolate_iff.2 hk) (by simp [hi]), hd, hp⟩

/-- No output on, with the selector and the key as before, keeps the law. -/
theorem outputEnded (h : ValveLaw n) (ho : m.vcu.outputOn = none)
    (hs : m.vcu.selector = n.vcu.selector) (hk : m.fiu.key.delivered = n.fiu.key.delivered)
    (hp : m.cfs.phase = n.cfs.phase) : ValveLaw m := by
  refine ⟨fun hi => ?_, ?_, hp.trans h.run⟩
  · rw [hs]; exact ⟨ho, (h.key (hk ▸ hi)).2⟩
  · unfold driveLaw; rw [hs]; exact h.drive

theorem of_sansBank (h : ValveLaw n) (he : m.sansBank = n.sansBank) : ValveLaw m :=
  h.congr (valvePart_of_sansBank he)
theorem of_sansVent (h : ValveLaw n) (he : m.sansVent = n.sansVent) : ValveLaw m :=
  h.congr (valvePart_of_sansVent he)
theorem of_sansFire (h : ValveLaw n) (he : m.sansFire = n.sansFire) : ValveLaw m :=
  h.congr (valvePart_of_sansFire he)
theorem of_sansPlan (h : ValveLaw n) (he : m.sansPlan = n.sansPlan) : ValveLaw m :=
  h.congr (valvePart_of_sansPlan he)
theorem of_sansClient (h : ValveLaw n) (he : m.sansClient = n.sansClient)
    (hs : m.vcu.selector = n.vcu.selector) : ValveLaw m :=
  h.congr (valvePart_of_sansClient he hs)

/-! ## The selector's commands -/

theorem selClose (h : ValveLaw n) : ValveLaw (selClose n) := by
  unfold Machine.selClose; split
  · exact h.shut (by simp [selTravel]) (by simp [selTravel]) rfl rfl rfl
  · exact h.shut (by simp [selTravel]) (by simp [selTravel]) rfl rfl rfl
  all_goals exact h

theorem selOpen (h : ValveLaw n) : ValveLaw (selOpen n) := by
  unfold Machine.selOpen; split
  · exact h
  next hi =>
    have hn : n.isolate = false := Bool.not_eq_true _ ▸ hi
    split
    · exact of_normal hn (fun _ => rfl) h.run
    · exact of_normal hn (fun _ => rfl) h.run
    all_goals exact h

theorem selJam (h : ValveLaw n) : ValveLaw (selJam n) :=
  h.shut (m := Machine.selJam n) (fun hx => nomatch hx) (fun hx => nomatch hx) rfl rfl rfl

theorem selArrive (h : ValveLaw n) {st : SelState} (hst : st ≠ .opening) : ValveLaw (selArrive st n) :=
  h.shut (m := Machine.selArrive st n) hst (fun hx => nomatch hx) rfl rfl rfl

theorem selWatch (h : ValveLaw n) (b : Bool) : ValveLaw (selWatch b n) := by
  unfold Machine.selWatch; repeat' split
  all_goals exact h.congr rfl

theorem selRead (h : ValveLaw n) (r : SelReading) : ValveLaw (selRead r n).1 := by
  have hm : ValveLaw { n with vcu.selector.reading := r, vcu.selector.readAt := n.now + Config.readPeriod } :=
    h.congr rfl
  unfold Machine.selRead; dsimp only; split
  case h_2 => exact hm.selJam
  case h_3 => exact hm.selArrive (by decide)
  case h_6 => exact hm.selArrive (by decide)
  case h_1 | h_4 | h_5 | h_7 | h_8 => exact hm
  case h_9 | h_12 => exact hm.selWatch true
  all_goals exact hm.selWatch false

/-! ## The Reserve Client -/

theorem sendBid (h : ValveLaw n) : ValveLaw (sendBid n) := by
  refine h.of_sansClient (sendBid_sansClient n) ?_
  unfold Machine.sendBid queueBid; repeat' split
  all_goals rfl

theorem retryBid (h : ValveLaw n) : ValveLaw (retryBid n) := by
  unfold Machine.retryBid; split
  · exact h.sendBid
  · exact h

theorem sendYield (h : ValveLaw n) : ValveLaw (sendYield n) :=
  h.of_sansClient (sendYield_sansClient n) (by rw [sendYield_eq])

theorem rclCountdown (h : ValveLaw n) : ValveLaw (rclCountdown n) := by
  have hr : ∀ k, ValveLaw (rclRestarted k n) := fun k => by
    unfold rclRestarted; split
    · exact h.selClose.congr rfl
    · exact h.congr rfl
  rcases Nat.eq_zero_or_pos n.apl.nRes with hz | hp
  · rw [rclCountdown_zero hz]; exact hr 0
  · rw [rclCountdown_pos hp]
    exact (hr _).of_sansClient (placeOrHold_sansClient _) (congrArg Vcu.selector (placeOrHold_vcu _))

theorem rclResolve (h : ValveLaw n) (o : ReserveOutcome) : ValveLaw (rclResolve o n) :=
  h.of_sansClient (rclResolve_sansClient o n) (congrArg Vcu.selector (rclResolve_vcu o n))

theorem closeAfterFlow (h : ValveLaw n) : ValveLaw (closeAfterFlow n) := by
  unfold Machine.closeAfterFlow; split
  · split
    · exact h.congr rfl
    · exact h.selClose
  · exact h

theorem rclEnd (h : ValveLaw n) (b : Bool) : ValveLaw (rclEnd b n) :=
  (h.of_sansClient (dropBid_sansClient n) (by rw [dropBid_eq])).closeAfterFlow.rclResolve _

theorem sendWayopen (h : ValveLaw n) : ValveLaw (sendWayopen n) := by
  refine h.of_sansClient (sendWayopen_sansClient n) ?_
  unfold Machine.sendWayopen; split
  · rfl
  · dsimp only; rw [queueWayopen_eq]

theorem rclAct (h : ValveLaw n) : ValveLaw (rclAct n) := by
  unfold Machine.rclAct; split
  · split
    · exact selOpen (h.congr (by rfl))
    · exact selOpen (h.congr (by rfl))
    · exact h.congr rfl
    · exact h.sendWayopen
    · exact h.rclEnd false
  · exact h

theorem rclOpened (h : ValveLaw n) : ValveLaw (rclOpened n) := by
  unfold Machine.rclOpened; repeat' split
  · exact h.sendWayopen
  · exact h.congr rfl
  · exact h

theorem rclJammed (h : ValveLaw n) : ValveLaw (rclJammed n) := by
  unfold Machine.rclJammed; repeat' split
  · exact h.rclEnd false
  · exact h
  · exact sendYield (h.congr (by rfl))
  · exact h

theorem rclHolder (h : ValveLaw n) (i : NodeId) : ValveLaw (rclHolder i n) := by
  have hg : ValveLaw (grantTaken i n) := h.congr rfl
  rw [rclHolder_eq]
  refine (retryBid ?_).rclAct
  split
  · exact hg.sendBid
  · exact hg

theorem fedAnswer (h : ValveLaw n) (o : FedOutcome) : ValveLaw (fedAnswer o n) := by
  unfold Machine.fedAnswer; dsimp only; split
  · exact rclEnd (h.congr (by rfl)) false
  · split
    · split
      · exact sendBid (h.congr (by rfl))
      · exact h.congr rfl
    all_goals exact h.congr rfl

theorem rclFed (h : ValveLaw n) (k : Nat) (o : FedOutcome) : ValveLaw (rclFed k o n) := by
  have ht : ValveLaw (fedTaken k n) := h.congr rfl
  rw [rclFed_eq]; repeat' split
  · exact ht.fedAnswer o
  · exact ht.rclEnd false
  · exact ht
  · exact ht.rclEnd false
  all_goals exact ht

theorem rclFeedLost (h : ValveLaw n) (b : Bool) : ValveLaw (rclFeedLost b n) :=
  (selClose (n := Node.setFlag { n with rcl.feedTimeout := none } .feedLost) (h.congr (by rfl))).rclEnd b

theorem rclLoss (h : ValveLaw n) (b : Bool) : ValveLaw (rclLoss b n) := by
  have hf : ValveLaw (lossFlagged n) :=
    congr (n := { n with rcl.grantHeard := 0 }) (h.congr (by rfl)) (valvePart_setFlagIf ..)
  have hm : ValveLaw (lossMarked b n) := by
    rw [lossMarked_eq]; split
    · exact hf.congr rfl
    · exact hf
  obtain ⟨r, e⟩ | ⟨_, _, ⟨_, e⟩ | e⟩ := rclLoss_cases b n
  · rw [e]; exact hm.congr rfl
  · rw [e]; exact hm.rclFeedLost true
  · rw [e]; exact hm.rclEnd true

theorem rclGiveUp (h : ValveLaw n) : ValveLaw (rclGiveUp n) := by
  have hs : ValveLaw (rclStopped n) := h.congr rfl
  have hg : ValveLaw (bidGivenUp n) := by
    unfold bidGivenUp; refine selClose ?_; split
    · exact hs.sendYield
    · exact hs
  rw [rclGiveUp_eq]; split
  · exact hg.rclResolve _
  · exact hg

theorem openReserve (h : ValveLaw n) : ValveLaw (openReserve n) := by
  unfold Machine.openReserve; split
  · exact rclAct (h.congr (by rfl))
  · exact h.congr rfl

theorem flowOver (h : ValveLaw n) : ValveLaw (flowOver n) := by
  unfold Machine.flowOver; dsimp only; repeat' split
  · exact selClose (h.congr (by rfl))
  · exact h.congr rfl
  · exact h

/-! ## The course of a release -/

theorem releaseWrite (h : ValveLaw n) (x y z : Nat) : ValveLaw (releaseWrite x y z n) := by
  refine h.congr ?_
  unfold Machine.releaseWrite; dsimp only; split <;> rfl

theorem discharged (h : ValveLaw n) : ValveLaw ((startDuration n).setFlag .released) := h.congr rfl

theorem noReservePhase (h : ValveLaw n) : ValveLaw (noReservePhase n) := h.congr rfl

theorem enterDischarging (h : ValveLaw n) : ValveLaw (enterDischarging n) := by
  have hd : ValveLaw (toDischarging n) := h.congr rfl
  have hf : ValveLaw (dischargeFired n) := (hd.releaseWrite ..).of_sansFire (fireOwn_sansFire ..)
  rw [enterDischarging_eq]
  exact hf.openReserve.discharged

theorem enterFallback (h : ValveLaw n) : ValveLaw (enterFallback n) := by
  have hd : ValveLaw (toDischarging n) := h.congr rfl
  have hf : ValveLaw (fallbackFired n) := (hd.releaseWrite ..).of_sansFire (fireOwn_sansFire ..)
  rw [enterFallback_eq]
  exact hf.noReservePhase.discharged

theorem isolatedRelease (h : ValveLaw n) : ValveLaw (isolatedRelease n) :=
  (enterDischarging (n := n.setFlag .isolatedRelease) (h.congr (by rfl))).of_sansVent (vsuIsolated_sansVent _)

theorem takeSlot {r : Node × Bool} (h : ValveLaw r.1) : ValveLaw (takeSlot r) := by
  unfold Machine.takeSlot slotHeld; repeat' split
  · exact h.enterDischarging
  · exact h
  · exact h

theorem enterSoak (h : ValveLaw n) : ValveLaw (enterSoak n) := by
  rw [enterSoak_eq, soakSettled_eq]; exact h.congr rfl

theorem soakTest (h : ValveLaw n) : ValveLaw (soakTest n) := by
  unfold Machine.soakTest; split
  · exact h.enterSoak
  · exact h

theorem atExpiry (h : ValveLaw n) : ValveLaw (atExpiry n) := by
  have hb : ValveLaw (bidRenewed n) := of_sansClient (n := aplReplan n) (h.congr (by rfl)) (bidRenewed_sansClient n)
    (rclNewCount_selector ..)
  rw [atExpiry_eq]; exact hb.congr rfl

theorem expire (h : ValveLaw n) : ValveLaw (expire n) := by
  cases hn : n.normal with
  | false => rw [expire_fallback hn]; exact h.enterFallback
  | true =>
    by_cases hl : n.lkc.link = .lost
    · rw [expire_normal_lost hn hl]; exact h.atExpiry.isolatedRelease
    · rw [expire_normal hn hl]; exact takeSlot (h.atExpiry.of_sansVent (vsuAsk_sansVent _))

theorem expireIfDone (h : ValveLaw n) : ValveLaw (expireIfDone n) := by
  unfold Machine.expireIfDone; split
  · exact h.expire
  · exact h

theorem epoTest (h : ValveLaw n) : ValveLaw (epoTest n) := by
  rw [epoTest_eq]; exact h.congr rfl

theorem holdOperated (h : ValveLaw n) : ValveLaw (holdOperated n) := by
  unfold Machine.holdOperated; repeat' split
  all_goals exact h.congr rfl

theorem resume (h : ValveLaw n) (k : Nat) : ValveLaw (resume k n) :=
  (epoTest (h.congr (by rfl))).expireIfDone

theorem holdReleased (h : ValveLaw n) : ValveLaw (holdReleased n) := by
  unfold Machine.holdReleased; split
  · exact h.resume _
  · exact h

theorem enterCountdown (h : ValveLaw n) (c : Cause) (left : Nat) : ValveLaw (enterCountdown c left n) := by
  have hs : ValveLaw (startCountdown c left n) := h.congr rfl
  have hb : ValveLaw (countdownBegun c left n) := by
    unfold countdownBegun; dsimp only; split
    · exact (hs.of_sansPlan (aplPlan_sansPlan _)).rclCountdown
    · exact hs
  have he : ValveLaw (countdownEntered c left n) := by
    unfold countdownEntered; dsimp only; split
    · exact hb.epoTest.holdOperated
    · exact hb.epoTest
  rw [enterCountdown_eq]; exact he.expireIfDone

theorem reeval (h : ValveLaw n) : ValveLaw (reeval n) := by
  unfold Machine.reeval; repeat' split
  · exact h.enterCountdown _ _
  · unfold rest; dsimp only; split <;> exact h.congr rfl
  · exact h

theorem enterQuiet (h : ValveLaw n) : ValveLaw (enterQuiet n) := reeval (h.congr (by rfl))

theorem enterLockout (h : ValveLaw n) : ValveLaw (enterLockout n) := by
  unfold Machine.enterLockout; dsimp only; split
  · exact h.congr rfl
  · exact enterQuiet (h.congr (by rfl))

theorem manualRelease (h : ValveLaw n) : ValveLaw (manualRelease n) := by
  unfold Machine.manualRelease; dsimp only; split
  · exact h.enterCountdown _ _
  · exact h.enterCountdown _ _
  · exact resume (h.congr (by rfl)) _
  · exact resume (h.congr (by rfl)) _
  all_goals exact h.congr rfl

theorem hsqIsolate (h : ValveLaw n) : ValveLaw (hsqIsolate n) := by
  have hc : ValveLaw (cancelOwn n) := h.of_sansFire (cancelOwn_sansFire n)
  unfold Machine.hsqIsolate; dsimp only; split
  case h_5 => exact (h.rclGiveUp.of_sansVent (vsuWithdraw_sansVent _)).enterLockout
  case h_6 =>
    refine enterSoak ?_; split
    · exact hc.rclGiveUp
    · exact hc
  case h_1 | h_2 | h_3 | h_4 => exact h.rclGiveUp.enterLockout
  all_goals exact h

theorem hsqNormal (h : ValveLaw n) : ValveLaw (hsqNormal n) := by
  unfold Machine.hsqNormal; split
  · exact h.enterQuiet
  · exact h

theorem hsqLost (h : ValveLaw n) : ValveLaw (hsqLost n) := by
  have hm : ValveLaw (refreshAdjacent n) := reeval (h.congr (by rfl))
  unfold Machine.hsqLost; dsimp only; split
  · exact hm.isolatedRelease
  · exact hm

/-! ## The valve unit's reports -/

theorem takeReports {r : Node × List VReport} (h : ValveLaw r.1) : ValveLaw (takeReports r) :=
  h.congr (congrArg Node.valvePart (takeReports_sansReports r) :)

theorem afterReports {r : Node × List VReport} (h : ValveLaw r.1) : ValveLaw (afterReports r) := by
  unfold Machine.afterReports; split
  · exact h
  · exact (takeReports h).soakTest

theorem selReport (h : ValveLaw n) (r : SelReport) : ValveLaw (selReport r n) := by
  cases r with
  | opened => exact h.rclOpened.soakTest
  | closed => exact h
  | jammed => exact h.rclJammed.soakTest

theorem selReports (h : ValveLaw n) (rs : List SelReport) : ValveLaw (selReports rs n) := by
  induction rs generalizing n with
  | nil => exact h
  | cons r rs ih => exact ih (h.selReport r)

end ValveLaw

end Sys2Proof.Machine

/-! # The key law kept (O51): the events of RUN -/

namespace Sys2Proof.Machine

/-- A key sample that delivers no event leaves the delivered position. -/
theorem KeyRec.sample_silent {now : Time} {first a b : Bool} {r : KeyRec}
    (h : (r.sample now first a b).2 = false) : (r.sample now first a b).1.delivered = r.delivered := by
  unfold KeyRec.sample at h ⊢; dsimp only at h ⊢; rw [h]; rfl

/-- A hall pressure read moves the deferral alone. -/
theorem pressureEvent_valvePart (k : Int) (n : Node) : (pressureEvent k n).valvePart = n.valvePart := by
  unfold pressureEvent deferralRead; repeat' split
  all_goals rfl

namespace ValveLaw

variable {n : Node}

/-! ## The valve unit's own events -/

/-- A read, a window or a report that leaves the output and the selector. -/
theorem of_sansValve {m : Node} (h : ValveLaw n) (he : m.sansValve = n.sansValve)
    (ho : m.vcu.outputOn = n.vcu.outputOn ∨ m.vcu.outputOn = none)
    (hs : m.vcu.selector = n.vcu.selector) : ValveLaw m := by
  have hk : m.fiu.key.delivered = n.fiu.key.delivered := congrArg (fun k => k.fiu.key.delivered) he
  have hp : m.cfs.phase = n.cfs.phase := congrArg (fun k => k.cfs.phase) he
  rcases ho with ho | ho
  · exact h.congr (by unfold Node.valvePart; rw [hk, hp, ho, hs])
  · exact h.outputEnded ho hs hk hp

theorem resolveFiring (h : ValveLaw n) (c : ChanId) : ValveLaw (resolveFiring c n).1 := by
  obtain ⟨ho, -⟩ := resolveFiring_rest c n
  refine h.of_sansValve (resolveFiring_sansValve c n) (.inl ho) ?_
  unfold Machine.resolveFiring; dsimp only; repeat' split
  all_goals rfl

theorem classifyRead (h : ValveLaw n) (c : ChanId) (k : PressureClass) : ValveLaw (classifyRead c k n).1 := by
  unfold Machine.classifyRead; dsimp only; split
  case h_1 => exact resolveFiring (n := n.setChan c _) (h.congr (by rfl)) c
  all_goals exact h.congr rfl

theorem cylinderRead (h : ValveLaw n) (c : ChanId) (k : Nat) : ValveLaw (cylinderRead c k n).1 := by
  have hs : ValveLaw (readStored c k n) := h.congr rfl
  by_cases hr : (n.chan c).role = .unused
  · rw [cylinderRead_unused hr]; exact hs
  · rw [cylinderRead_used hr]; exact hs.classifyRead c _

theorem outputOff (h : ValveLaw n) : ValveLaw (outputOff n) := by
  refine h.of_sansValve (outputOff_sansValve n) (.inr (outputOff_rest n).1) ?_
  unfold Machine.outputOff; split <;> rfl

theorem endPulse (h : ValveLaw n) : ValveLaw (endPulse n).1 := by
  unfold Machine.endPulse; split
  · exact h
  · exact h.outputOff.resolveFiring _

/-- The arbiter starts a pulse under a delivered NORMAL key alone (R71). -/
theorem arbiterStart (h : ValveLaw n) : ValveLaw (arbiterStart n) := by
  unfold Machine.arbiterStart; split
  · exact h
  next c hc =>
    have hfree : n.arbiterFree = true := by
      by_contra hf
      rw [Node.nextPulse_none (.inl hf)] at hc; exact nomatch hc
    obtain ⟨-, -, -, hkey⟩ := Node.arbiterFree_iff.1 hfree
    have hi : n.isolate = false := Node.isolate_eq_false.2 hkey
    exact of_normal (m := startPulse c n) hi h.drive h.run

theorem driveEnded (h : ValveLaw n) (c : ChanId) : ValveLaw (driveEnded c n) := by
  have hoff : ValveLaw (commandEnded c n) := by
    unfold commandEnded; split
    · exact h.outputEnded rfl rfl rfl rfl
    · exact h
  exact hoff.congr rfl

theorem cutDrive (h : ValveLaw n) (c : ChanId) : ValveLaw (cutDrive c n).1 := by
  have hm := h.driveEnded c
  rw [cutDrive_ended]; split
  case h_1 => exact hm.resolveFiring c
  case h_5 =>
    dsimp only; split
    · exact hm
    · exact hm.congr rfl
  case h_7 | h_8 => exact hm
  all_goals exact hm.congr rfl

theorem selfDrive (h : ValveLaw n) (c : ChanId) (b : Bool) : ValveLaw (selfDrive c b n).1 := by
  unfold Machine.selfDrive; dsimp only; repeat' split
  · exact h
  · exact h.congr rfl
  · exact h.congr rfl
  · exact resolveFiring (n := n.setChan c _) (h.congr (by rfl)) c

/-- At the change to ISOLATE VCU ends the output and closes the selector, so the law holds under the new
position however the key stood before (R67). -/
theorem vcuIsolate (hd : driveLaw n) (hr : n.cfs.phase = .run) : ValveLaw (vcuIsolate n).1 := by
  obtain ⟨ho, -⟩ := endPulse_rest n
  have hsel : (Machine.endPulse n).1.vcu.selector = n.vcu.selector := by
    unfold Machine.endPulse Machine.resolveFiring Machine.outputOff; dsimp only; repeat' split
    all_goals rfl
  have hsealed : driveLaw (channelsSealed n) := by
    have hs : (channelsSealed n).vcu.selector = n.vcu.selector := hsel
    unfold driveLaw; rw [hs]; exact hd
  have hdrive : (Machine.selClose (channelsSealed n)).vcu.selector.drive ≠ .driveOpen := by
    rw [selClose_selector]; split
    · simp
    next hs => exact fun hx => hs (.inl (hsealed hx))
  have hphase : (Machine.selClose (channelsSealed n)).cfs.phase = .run :=
    (congrArg (fun m => m.cfs.phase) (vcuIsolate_sansValve n)).trans hr
  rw [vcuIsolate_eq]
  refine ⟨fun _ => ⟨?_, (selClose_shut _).1, hdrive⟩, fun hx => absurd hx hdrive, hphase⟩
  obtain ⟨-, -, hout, -⟩ := selClose_sameChans (channelsSealed n)
  exact hout.trans ho

/-! ## The field inputs -/

theorem zoneEvent (h : ValveLaw n) (z : Zone) (k : Nat) : ValveLaw (zoneEvent z k n) := by
  cases z <;> exact reeval (h.congr (by rfl))

theorem stationEvent (h : ValveLaw n) (k : Nat) : ValveLaw (stationEvent k n) := by
  unfold Machine.stationEvent; dsimp only; split
  · exact manualRelease (h.congr (by rfl))
  · exact h.congr rfl

theorem holdEvent (h : ValveLaw n) (first : Bool) (k : Nat) : ValveLaw (holdEvent first k n) := by
  unfold Machine.holdEvent; dsimp only; repeat' split
  · exact holdOperated (h.congr (by rfl))
  · exact holdReleased (h.congr (by rfl))
  · exact h.congr rfl

theorem keyIsolate (hd : driveLaw n) (hr : n.cfs.phase = .run) : ValveLaw (keyIsolate n) := by
  have hm := takeReports (vcuIsolate hd hr)
  refine hsqIsolate ?_
  split
  · exact hm.of_sansBank (rvaIsolate_sansBank _)
  · exact hm

theorem keyNormal (h : ValveLaw n) : ValveLaw (keyNormal n) := by
  have hm : ValveLaw (vcuNormal (alarmsEnded n)).1 := h.congr rfl
  exact ((takeReports hm).of_sansBank (feedTest_sansBank _)).hsqNormal

theorem keyEvent (h : ValveLaw n) (a b : Bool) : ValveLaw (keyEvent false a b n) := by
  unfold Machine.keyEvent; dsimp only; split
  next he =>
    split
    · exact keyIsolate h.drive h.run
    next hn => exact keyNormal (of_normal (by simp [Node.isolate, hn]) h.drive h.run)
  next he =>
    refine h.congr ?_
    unfold Node.valvePart; dsimp only
    rw [KeyRec.sample_silent (Bool.not_eq_true _ ▸ he)]

/-! ## The sequencer's timers -/

theorem degradedExpiry (h : ValveLaw n) : ValveLaw (degradedExpiry n) := by
  unfold Machine.degradedExpiry; repeat' split
  · exact (h.enterCountdown _ _).setFlag _
  · exact h.congr rfl
  · exact h

theorem countdownOver (h : ValveLaw n) : ValveLaw (countdownOver n) := by
  unfold Machine.countdownOver; repeat' split
  · exact h.expire
  all_goals exact h

theorem durationOver (h : ValveLaw n) : ValveLaw (durationOver n) := by
  unfold Machine.durationOver; dsimp only; repeat' split
  · exact soakTest (h.congr (by rfl))
  · exact h.congr rfl
  · exact h

theorem soakOver (h : ValveLaw n) : ValveLaw (soakOver n) := by
  unfold Machine.soakOver; dsimp only; repeat' split
  · exact h.congr rfl
  · exact h.congr rfl
  · exact h

/-! ## The valve unit's timers and reads -/

theorem pressureEvent (h : ValveLaw n) (k : Int) : ValveLaw (pressureEvent k n) :=
  h.congr (pressureEvent_valvePart k n)

theorem deferOver (h : ValveLaw n) : ValveLaw (deferOver n) := by
  unfold Machine.deferOver; dsimp only; repeat' split
  · exact h.congr rfl
  · exact h.congr rfl
  · exact h

theorem pulseOver (h : ValveLaw n) : ValveLaw (pulseOver n) := by
  unfold Machine.pulseOver; split
  · exact afterReports h.endPulse
  · exact h

theorem windowOver (h : ValveLaw n) (c : ChanId) : ValveLaw (windowOver c n) := by
  unfold Machine.windowOver; split
  · exact afterReports (resolveFiring (n := n.modChan c _) (h.congr (by rfl)) c)
  · exact h

theorem staggerOver (h : ValveLaw n) : ValveLaw (staggerOver n) := by
  unfold Machine.staggerOver; split
  · exact h.congr rfl
  · exact h

theorem monitorCut (h : ValveLaw n) (c : ChanId) : ValveLaw (monitorCut c n) := by
  unfold Machine.monitorCut; split
  · exact afterReports (h.cutDrive c)
  · exact h

theorem limitRead (h : ValveLaw n) (a b : Bool) : ValveLaw (limitRead a b n) :=
  (h.selRead _).selReports _

theorem travelOver (h : ValveLaw n) : ValveLaw (travelOver n) := by
  unfold Machine.travelOver; repeat' split
  · exact h.congr rfl
  · exact h.selJam.selReports _
  · exact h

/-! ## The link -/

theorem holderLoss (h : ValveLaw n) (b : Bool) : ValveLaw (holderLoss b n) := (h.rclLoss b).soakTest

theorem hsqAndRcl {f g : Node → Node} (hf : ∀ {m}, ValveLaw m → ValveLaw (f m))
    (hg : ∀ {m}, ValveLaw m → ValveLaw (g m)) (h : ValveLaw n) : ValveLaw (hsqAndRcl f g n) := by
  unfold Machine.hsqAndRcl eitherOrder; dsimp only; repeat' split
  · exact hf (hg (h.congr (by rfl)))
  · exact hg (hf (h.congr (by rfl)))
  · exact hg (hf h)

theorem linkLost (h : ValveLaw n) : ValveLaw (linkLost n) := by
  have hm : ValveLaw (lkcLost n) := h.congr rfl
  exact ((hsqAndRcl hsqLost (fun hx => hx.holderLoss true) hm).of_sansBank (rvaLost_sansBank _)).of_sansVent
    (vsuLost_sansVent _)

theorem idClash (h : ValveLaw n) : ValveLaw (idClash n) := by
  unfold Machine.idClash; dsimp only; split
  · exact h.congr rfl
  · exact linkLost (h.congr (by rfl))

theorem refreshAdjacent (h : ValveLaw n) : ValveLaw (refreshAdjacent n) := reeval (h.congr (by rfl))

theorem peerAbsent (h : ValveLaw n) (i : NodeId) : ValveLaw (peerAbsent i n) := by
  have hm : ValveLaw (n.setPeer i (n.peer i).absent) := h.congr rfl
  refine hsqAndRcl (fun hx => takeSlot (hx.of_sansVent (vsuAbsent_sansVent i _))) (fun hx => ?_)
    (hm.refreshAdjacent.of_sansBank (rvaPeer_sansBank i _))
  split
  · exact hx.holderLoss false
  · exact hx

theorem when (h : ValveLaw n) (b : Bool) {f : Node → Node} (hf : ∀ {m}, ValveLaw m → ValveLaw (f m)) :
    ValveLaw (when b f n) := by
  cases b
  · exact h
  · exact hf h

theorem peerStanding (h : ValveLaw n) (src : NodeId) (c : Standing) : ValveLaw (peerStanding src c n) := by
  have hm : ValveLaw (n.setPeer src (Peer.ofStanding n.now n.cfg.period c)) := h.congr rfl
  exact (((hm.when _ refreshAdjacent).when _ fun hx => hx.of_sansBank (rvaPeer_sansBank src _)).when _
    fun hx => (hx.rclHolder src).soakTest).when _
    fun hx => takeSlot (hx.of_sansVent (vsuRepair_sansVent src _))

theorem countHeard (h : ValveLaw n) : ValveLaw (countHeard n) := by
  unfold Machine.countHeard; dsimp only; split <;> exact h.congr rfl

theorem returnInFlight (h : ValveLaw n) : ValveLaw (returnInFlight n) := by
  unfold Machine.returnInFlight; split
  · exact h
  · exact h.congr rfl

theorem handOn (h : ValveLaw n) (f : Frame) : ValveLaw (handOn f n) := by
  unfold Machine.handOn; split
  case h_1 => exact h.peerStanding _ _
  all_goals split
  case h_2.isTrue => exact h.of_sansBank (rvaBid_sansBank ..)
  case h_3.isTrue => exact h.of_sansBank (rvaYield_sansBank ..)
  case h_4.isTrue => exact h.of_sansBank (rvaWayopen_sansBank ..)
  case h_5.isTrue => exact (h.rclFed _ _).soakTest
  case h_6.isTrue => exact takeSlot (h.of_sansVent (vsuVent_sansVent ..))
  case h_7.isTrue => exact takeSlot (h.of_sansVent (vsuVentfree_sansVent ..))
  all_goals exact h

theorem bidPlaced (h : ValveLaw n) : ValveLaw (bidPlaced n) := by
  unfold Machine.bidPlaced; split
  · exact h.congr rfl
  · exact h

theorem reportPlaced (h : ValveLaw n) (f : Frame) : ValveLaw (reportPlaced f n) := by
  unfold Machine.reportPlaced; split
  · exact h.bidPlaced
  · exact takeSlot (h.of_sansVent (ventPlaced_sansVent n))
  · exact h.of_sansBank (answerPlaced_sansBank n)
  all_goals exact h

theorem hearForeign (h : ValveLaw n) (f : Frame) : ValveLaw (hearForeign f n) := by
  have hc := h.returnInFlight.countHeard
  unfold Machine.hearForeign; split
  · split
    · split
      · exact hc.handOn _
      · exact h.idClash
    all_goals exact hc
  · exact hc.handOn _

theorem hearBad (h : ValveLaw n) : ValveLaw (hearBad n) := returnInFlight (h.congr (by rfl))

theorem hear (h : ValveLaw n) (f : Frame) : ValveLaw (hear f n) := by
  unfold Machine.hear; repeat' split
  · exact h
  · exact ((countHeard (h.congr (by rfl))).handOn f).reportPlaced f
  · exact h.hearForeign f
  · exact h.hearBad

theorem hearBytes (h : ValveLaw n) (bs : List Byte) : ValveLaw (hearBytes bs n) := by
  unfold Machine.hearBytes; split
  · exact h.hear _
  · exact h.hearBad

theorem offer (h : ValveLaw n) (d : Option Nat) : ValveLaw (offer d n) := by
  unfold Machine.offer; dsimp only; repeat' split
  all_goals exact h.congr rfl

theorem queueStanding (h : ValveLaw n) : ValveLaw (queueStanding n) := by
  unfold Machine.queueStanding; split
  · exact h
  · exact h.congr rfl

theorem statusOver (h : ValveLaw n) : ValveLaw (statusOver n) := by
  unfold Machine.statusOver; split
  · exact queueStanding (h.congr (by rfl))
  · exact h

theorem listenOver (h : ValveLaw n) : ValveLaw (listenOver n) := by
  unfold Machine.listenOver; split
  · have hbid := retryBid (n := { n with lkc.link := .joined, lkc.listen := none }) (h.congr (by rfl))
    exact takeSlot ((hbid.of_sansBank (rvaRebuild_sansBank _)).of_sansVent (vsuJoined_sansVent _))
  · exact h

theorem silenceOver (h : ValveLaw n) : ValveLaw (silenceOver n) := by
  unfold Machine.silenceOver; split
  · exact h.linkLost
  · exact h

theorem placementOver (h : ValveLaw n) : ValveLaw (placementOver n) := by
  unfold Machine.placementOver; split
  · exact h.linkLost
  · exact h

theorem presenceOver (h : ValveLaw n) (i : NodeId) : ValveLaw (presenceOver i n) := by
  unfold Machine.presenceOver; split
  · exact h.peerAbsent i
  · exact h

/-! ## The timers of the reserve and of the slot -/

theorem waitOver (h : ValveLaw n) : ValveLaw (waitOver n) := by
  unfold Machine.waitOver; dsimp only; repeat' split
  · exact h.congr rfl
  · exact (rclEnd (h.congr (by rfl)) false).soakTest
  all_goals exact h

theorem feedOver (h : ValveLaw n) : ValveLaw (feedOver n) := by
  unfold Machine.feedOver; repeat' split
  · exact (h.rclFeedLost false).soakTest
  · exact h.congr rfl
  · exact h

theorem slotOver (h : ValveLaw n) : ValveLaw (slotOver n) := by
  unfold Machine.slotOver slotForced; dsimp only; repeat' split
  · exact enterDischarging (h.congr (by rfl))
  · exact h.congr rfl
  · exact h.congr rfl
  · exact h

/-! ## The plant outputs, the store and the port -/

theorem supervise (h : ValveLaw n) (o : SupOutput) (k : SupClass) : ValveLaw (supervise o k n) := by
  unfold Machine.supervise; dsimp only; repeat' split
  · exact h.congr rfl
  · exact h.congr (valvePart_setFlagIf ..)
  · exact h

theorem settleOver (h : ValveLaw n) (o : SupOutput) : ValveLaw (settleOver o n) := by
  unfold Machine.settleOver; split
  · exact h.congr rfl
  · exact h

theorem phaseOver (h : ValveLaw n) : ValveLaw (phaseOver n) := by
  unfold Machine.phaseOver; split
  · exact h.congr rfl
  · exact h

theorem startPending (h : ValveLaw n) : ValveLaw (startPending n) := by
  unfold Machine.startPending; split
  · exact h
  · exact h.congr rfl

theorem writeOver (h : ValveLaw n) : ValveLaw (writeOver n) := by
  unfold Machine.writeOver; repeat' split
  · exact h
  · refine startPending ?_
    unfold reportWrite rowErased; repeat' split
    · exact h.congr rfl
    · exact h.congr rfl
    · exact enterLockout (h.congr (by rfl))
    · exact h.congr rfl
  · exact h

theorem resetZones (h : ValveLaw n) : ValveLaw (resetZones n) := by
  unfold Machine.resetZones; dsimp only; split
  · exact reeval (h.congr (by rfl))
  · exact h.congr rfl

end ValveLaw

end Sys2Proof.Machine

/-! # Every step keeps the key law (O51) -/

namespace Sys2Proof.Machine

/-! ## The laws of the key, the drive and the part before RUN -/

/-- The three laws of the valves. -/
structure LawfulValves (n : Node) : Prop where
  key : keyLaw n
  drive : driveLaw n
  quiet : quietLaw n

/-- No output on, the drive OFF and the selector CLOSED. -/
def Node.valvesRest (n : Node) : Prop :=
  n.vcu.outputOn = none ∧ n.vcu.selector.drive = .off ∧ n.vcu.selector.state = .closed

section
variable {n m : Node}

theorem Node.valvesRest.laws (h : n.valvesRest) : LawfulValves n := by
  obtain ⟨ho, hd, hs⟩ := h
  refine ⟨fun _ => ⟨ho, ?_, ?_⟩, fun hx => ?_, fun _ => ⟨ho, hd, hs⟩⟩
  · rw [hs]; decide
  · rw [hd]; decide
  · rw [hd] at hx; exact nomatch hx

theorem ValveLaw.laws (h : ValveLaw n) : LawfulValves n := ⟨h.key, h.drive, fun hp => absurd h.run hp⟩

theorem LawfulValves.inRun (h : LawfulValves n) (hr : n.running = true) : ValveLaw n :=
  ⟨h.key, h.drive, Node.running_phase hr⟩

theorem LawfulValves.rest (h : LawfulValves n) (hp : n.cfs.phase ≠ .run) : n.valvesRest := h.quiet hp

theorem LawfulValves.congr (h : LawfulValves n) (he : m.valvePart = n.valvePart) : LawfulValves m := by
  by_cases hp : n.cfs.phase = .run
  · exact (ValveLaw.congr ⟨h.key, h.drive, hp⟩ he).laws
  · obtain ⟨ho, hd, hs⟩ := h.rest hp
    simp only [Node.valvePart, Prod.mk.injEq] at he
    obtain ⟨-, -, eo, es, ed⟩ := he
    exact Node.valvesRest.laws ⟨eo.trans ho, ed.trans hd, es.trans hs⟩

theorem finish_lawfulValves (b : Node) (h : LawfulValves n) : LawfulValves (finish b n) :=
  h.congr (by unfold Node.valvePart; rw [finish_fiu, finish_cfs, finish_vcu])

end

theorem nodeStart_valvesRest (now free : Nat) (rows : Vector Row 13) (id : NodeId) (cause : ResetCause) :
    (Node.start now free rows id cause).valvesRest := ⟨rfl, rfl, rfl⟩

/-! ## The entry to RUN -/

section
variable {n : Node}

/-- The selector as first read neither opens nor is driven open (R78). -/
theorem buildSelector_valveLaw (r : SelReading) (hp : n.cfs.phase = .run) (ho : n.vcu.outputOn = none) :
    ValveLaw (buildSelector r n) := by
  cases r with
  | closed | fault | opened | moving =>
    exact ⟨fun _ => ⟨ho, (nomatch ·), (nomatch ·)⟩, (nomatch ·), hp⟩

theorem ValveLaw.startLink (h : ValveLaw n) : ValveLaw (startLink n) := queueStanding (h.congr (by rfl))

theorem ValveLaw.hsqFirstKey (h : ValveLaw n) : ValveLaw (hsqFirstKey n) := by
  unfold Machine.hsqFirstKey; split
  · exact h.hsqIsolate
  · exact h.hsqNormal

theorem enterRun_valveLaw (i : LoadInputs) (hp : n.cfs.phase = .run) (ho : n.vcu.outputOn = none) :
    ValveLaw (enterRun i n) := by
  have hread := pressureEvent_valvePart i.pressure (temperatureEvent i.temperature n)
  simp only [Node.valvePart, Prod.mk.injEq] at hread
  obtain ⟨-, ep, eo, -, -⟩ := hread
  have hbuilt := buildSelector_valveLaw (selReading i.selectorOpen i.selectorClosed)
    (n := buildChannels i.cylinders (firstKey i.keyNormal i.keyIsolate
      (pressureEvent i.pressure (temperatureEvent i.temperature n)))) (ep.trans hp) (eo.trans ho)
  exact ((((hbuilt.startLink.hsqFirstKey.holdEvent true i.hold).zoneEvent .a i.zoneA).zoneEvent .b
    i.zoneB).stationEvent i.manual).congr rfl

theorem rowsLoaded_vcu (k : Nat) (fs : List (RowId × Fin 128)) (n : Node) :
    (loadRows k (flipRows fs n)).vcu = n.vcu := by
  rw [loadRows_sans, flipRows_keeps]

theorem load_lawfulValves (i : LoadInputs) (h : n.valvesRest) : LawfulValves (load i n) := by
  have hrows : ∃ m, load i n = (if 13 < i.upTo then enterRun i (validate m) else m) ∧ m.vcu = n.vcu := by
    by_cases hp : n.cfs.phase = .load
    · exact ⟨_, by unfold load; rw [if_pos hp], rowsLoaded_vcu ..⟩
    · exact ⟨n, by unfold load; rw [if_neg hp], rfl⟩
  obtain ⟨m, hload, hm⟩ := hrows
  have hrest : m.valvesRest := by unfold Node.valvesRest; rw [hm]; exact h
  rw [hload]; split
  · refine (enterRun_valveLaw i (validate_phase m) ?_).laws
    rw [validate_eq]; exact hrest.1
  · exact hrest.laws

end

/-! ## The service port -/

section
variable (b : Byte) (n : Node)

theorem setIndex_valvePart : (setIndex b n).valvePart = n.valvePart := by
  unfold setIndex; split <;> rfl

theorem setPointer_valvePart : (setPointer b n).valvePart = n.valvePart := by
  unfold setPointer; repeat' split
  all_goals rfl

theorem writeRegister_valvePart : (writeRegister b n).valvePart = n.valvePart := by
  unfold writeRegister; dsimp only; repeat' split
  all_goals rfl

theorem clearReleaseCommand_valvePart : (clearReleaseCommand n).valvePart = n.valvePart := by
  unfold clearReleaseCommand; repeat' split
  all_goals rfl

theorem readRowCommand_valvePart : (readRowCommand b n).valvePart = n.valvePart := by
  unfold readRowCommand readRow; dsimp only; repeat' split
  all_goals rfl

theorem writeRow_valvePart : (writeRow n).valvePart = n.valvePart := by
  unfold writeRow; dsimp only; repeat' split
  all_goals rfl

theorem writeRowCommand_valvePart : (writeRowCommand b n).valvePart = n.valvePart := by
  unfold writeRowCommand; dsimp only; repeat' split
  · rfl
  · rfl
  · exact writeRow_valvePart _

end

theorem alarmResetCommand_lawfulValves {n : Node} (h : LawfulValves n) : LawfulValves (alarmResetCommand n) := by
  unfold alarmResetCommand; split
  next hr => exact (h.inRun hr).resetZones.laws
  next => exact h.congr rfl

theorem readBytes_valvePart (k : Nat) (s : State) : (readBytes k s).node.valvePart = s.node.valvePart := by
  induction k generalizing s with
  | zero => rfl
  | succ k ih =>
    refine (ih _).trans ?_
    change (clearCounter s).node.valvePart = _
    unfold clearCounter; dsimp only; split <;> rfl

theorem readOn_valvePart (k : Nat) (s : State) : (readOn k s).node.valvePart = s.node.valvePart := by
  unfold readOn; split
  · exact readBytes_valvePart k s
  · rfl

theorem readAddressed_valvePart (s : State) : (readAddressed s).node.valvePart = s.node.valvePart := by
  unfold readAddressed; dsimp only; split <;> rfl

theorem startTransaction_valvePart (a : BitVec 7) (r : Bool) (s : State) :
    (startTransaction a r s).node.valvePart = s.node.valvePart := by
  unfold startTransaction; repeat' split
  · rfl
  · exact readAddressed_valvePart s
  all_goals rfl

/-! ## Every command keeps the laws -/

/-- The outcome's next state keeps the laws of the valves. -/
def valvesKept (s : State) (o : Host.Outcome State Fault Refusal) : Prop :=
  LawfulValves s.node → ∀ t, o = .next t → LawfulValves t.node

section
variable {s t : State} {f : Node → Node}

theorem valvesKept_next (h : LawfulValves s.node → LawfulValves t.node) : valvesKept s (.next t) := by
  rintro hs _ ⟨⟩; exact h hs

theorem valvesKept_still (he : t.node.valvePart = s.node.valvePart) : valvesKept s (.next t) :=
  valvesKept_next fun h => h.congr he

theorem valvesKept_rest (hr : t.node.valvesRest) : valvesKept s (.next t) := valvesKept_next fun _ => hr.laws

theorem valvesKept_onNode (h : LawfulValves s.node → LawfulValves (f s.node)) : valvesKept s (onNode f s) :=
  valvesKept_next fun hs => finish_lawfulValves _ (h hs)

/-- An event of RUN starts from a node in RUN. -/
theorem valvesKept_inRun (h : ValveLaw s.node → ValveLaw (f s.node)) : valvesKept s (inRun f s) := by
  unfold inRun; split
  next hr => exact valvesKept_onNode fun hs => (h (hs.inRun hr)).laws
  next => exact valvesKept_next id

theorem valvesKept_onByte {here : Svp → Bool} (h : LawfulValves s.node → LawfulValves (f s.node)) :
    valvesKept s (onByte here f s) := by
  unfold onByte; split
  · exact valvesKept_onNode h
  · exact valvesKept_next id

theorem valvesKept_onByte_still {here : Svp → Bool} (he : (f s.node).valvePart = s.node.valvePart) :
    valvesKept s (onByte here f s) := valvesKept_onByte fun h => h.congr he

end

section
variable {s : State}

theorem beginLoad_valvesRest (straps : NodeId) (cause : ResetCause) (s : State) :
    (beginLoad straps cause s).node.valvesRest := nodeStart_valvesRest ..

theorem letGo_lawfulValves (straps : NodeId) (h : LawfulValves s.node) : LawfulValves (letGo straps s).node := by
  unfold letGo; split
  · exact h
  · exact (beginLoad_valvesRest ..).laws

theorem holdInReset_lawfulValves {cause : ResetCause} {mark : Node → Node}
    (hm : ∀ n, (mark n).valvePart = n.valvePart) (h : LawfulValves s.node) :
    LawfulValves (holdInReset cause mark s).node := by
  refine LawfulValves.congr ?_ (hm _)
  split
  · exact h
  · exact (nodeStart_valvesRest ..).laws

end

theorem exec_keeps_lawfulValves (c : Instr) (s : State) : valvesKept s (exec c s) := by
  cases c with
  | powerOn straps =>
    change valvesKept s (execPowerOn straps s)
    unfold execPowerOn; split
    · exact valvesKept_next fun h => letGo_lawfulValves straps (h.congr rfl)
    · exact valvesKept_rest (beginLoad_valvesRest ..)
  | resetLine micros straps =>
    change valvesKept s (execResetLine micros straps s)
    unfold execResetLine; split
    · split
      · exact valvesKept_next id
      · exact valvesKept_next (holdInReset_lawfulValves fun _ => rfl)
    · split
      · exact valvesKept_next fun h => letGo_lawfulValves _ (h.congr rfl)
      · split
        · exact valvesKept_next id
        · exact valvesKept_rest (beginLoad_valvesRest ..)
  | load inputs =>
    change valvesKept s (execLoad inputs s)
    unfold execLoad; split
    next hp => exact valvesKept_onNode fun h => load_lawfulValves inputs (h.rest hp.2)
    next => exact valvesKept_next id
  | zoneSample zone current => exact valvesKept_inRun fun h => h.zoneEvent zone current
  | manualStationSample current => exact valvesKept_inRun fun h => h.stationEvent current
  | holdSwitchSample current => exact valvesKept_inRun fun h => h.holdEvent false current
  | keySample a b => exact valvesKept_inRun fun h => h.keyEvent a b
  | degradedConfirmExpiry => exact valvesKept_inRun ValveLaw.degradedExpiry
  | epoPointReached => exact valvesKept_inRun ValveLaw.epoTest
  | countdownExpiry => exact valvesKept_inRun ValveLaw.countdownOver
  | dischargeDurationExpiry => exact valvesKept_inRun ValveLaw.durationOver
  | soakExpiry => exact valvesKept_inRun ValveLaw.soakOver
  | temperatureRead reading => exact valvesKept_inRun fun h => h.congr rfl
  | hallPressureRead reading => exact valvesKept_inRun fun h => h.pressureEvent reading
  | deferTimerExpiry => exact valvesKept_inRun ValveLaw.deferOver
  | cylinderPressureRead c reading => exact valvesKept_inRun fun h => ValveLaw.afterReports (h.cylinderRead c reading)
  | pulseStart => exact valvesKept_inRun ValveLaw.arbiterStart
  | pulseLengthExpiry => exact valvesKept_inRun ValveLaw.pulseOver
  | confirmWindowExpiry c => exact valvesKept_inRun fun h => h.windowOver c
  | staggerTimerExpiry => exact valvesKept_inRun ValveLaw.staggerOver
  | driveMonitorCut c => exact valvesKept_inRun fun h => h.monitorCut c
  | selectorLimitRead a b => exact valvesKept_inRun fun h => h.limitRead a b
  | selectorTravelExpiry => exact valvesKept_inRun ValveLaw.travelOver
  | frameOffer d => exact valvesKept_inRun fun h => h.offer d
  | badFrame bytes => exact valvesKept_inRun fun h => h.hearBytes bytes
  | standingReceived src c => exact valvesKept_inRun fun h => h.hear _
  | bidReceived a b k c => exact valvesKept_inRun fun h => h.hear _
  | yieldReceived a b => exact valvesKept_inRun fun h => h.hear _
  | wayopenReceived a b k => exact valvesKept_inRun fun h => h.hear _
  | fedReceived a b k f o => exact valvesKept_inRun fun h => h.hear _
  | ventReceived a g => exact valvesKept_inRun fun h => h.hear _
  | ventfreeReceived a g => exact valvesKept_inRun fun h => h.hear _
  | statusTimerExpiry => exact valvesKept_inRun ValveLaw.statusOver
  | listenTimerExpiry => exact valvesKept_inRun ValveLaw.listenOver
  | silenceTimerExpiry => exact valvesKept_inRun ValveLaw.silenceOver
  | placementTimerExpiry => exact valvesKept_inRun ValveLaw.placementOver
  | presenceTimerExpiry i => exact valvesKept_inRun fun h => h.presenceOver i
  | grantHoldExpiry i => exact valvesKept_inRun fun h => h.of_sansBank (grantOver_sansBank i _)
  | reserveWaitExpiry => exact valvesKept_inRun ValveLaw.waitOver
  | feedTimeoutExpiry => exact valvesKept_inRun ValveLaw.feedOver
  | flowTimerExpiry => exact valvesKept_inRun ValveLaw.flowOver
  | slotWaitExpiry => exact valvesKept_inRun ValveLaw.slotOver
  | supervisionRead o c => exact valvesKept_inRun fun h => h.supervise o c
  | settleTimeExpiry o => exact valvesKept_inRun fun h => h.settleOver o
  | sounderPhaseExpiry => exact valvesKept_inRun ValveLaw.phaseOver
  | storeWriteCompletion => exact valvesKept_inRun ValveLaw.writeOver
  | indexWrite b =>
    change valvesKept s (execIndexWrite b s)
    unfold execIndexWrite; split
    · exact valvesKept_onNode fun h => h.congr (setIndex_valvePart b _)
    · exact valvesKept_next id
  | readAddress k =>
    change valvesKept s (execReadAddress k s)
    unfold execReadAddress; split
    · exact valvesKept_next id
    · exact valvesKept_still ((readBytes_valvePart k _).trans (readAddressed_valvePart s))
  | windowRecordRead => exact valvesKept_still (readOn_valvePart ..)
  | badFrameCounterRead => exact valvesKept_still (readOn_valvePart ..)
  | stickyFlagClear b =>
    change valvesKept s (execStickyFlagClear b s)
    exact valvesKept_onByte_still rfl
  | windowPointerWrite b => exact valvesKept_onByte_still (setPointer_valvePart b _)
  | autoSnapWrite b =>
    change valvesKept s (execAutoSnapWrite b s)
    exact valvesKept_onByte_still rfl
  | registerWrite b =>
    change valvesKept s (execRegisterWrite b s)
    exact valvesKept_onByte_still (writeRegister_valvePart b _)
  | snap =>
    change valvesKept s (execSnap s)
    unfold execSnap; split
    · exact valvesKept_still rfl
    · exact valvesKept_next id
  | alarmReset => exact valvesKept_onByte alarmResetCommand_lawfulValves
  | clearRelease => exact valvesKept_onByte_still (clearReleaseCommand_valvePart _)
  | restart straps =>
    change valvesKept s (execRestart straps s)
    unfold execRestart restartCommand; split
    · split
      · exact valvesKept_rest (beginLoad_valvesRest ..)
      · exact valvesKept_onNode fun h => h.congr rfl
    · exact valvesKept_next id
  | storeReadRow b =>
    change valvesKept s (execStoreReadRow b s)
    exact valvesKept_onByte_still (readRowCommand_valvePart b _)
  | storeWriteRow b =>
    change valvesKept s (execStoreWriteRow b s)
    exact valvesKept_onByte_still (writeRowCommand_valvePart b _)
  | startCondition a r => exact valvesKept_still (startTransaction_valvePart ..)
  | supplyBelowThreshold => exact valvesKept_next (holdInReset_lawfulValves fun _ => rfl)
  | driveCurrentWithoutCommand c d => exact valvesKept_inRun fun h => ValveLaw.afterReports (h.selfDrive c d)

theorem idle_valvePart (s : State) : (idle s).node.valvePart = s.node.valvePart := by
  unfold idle; split <;> rfl

/-- Settles O51: the laws are an invariant of the step. In RUN each event keeps `ValveLaw`; before it the
valves rest, and every reset brings them to rest. -/
theorem everyStepKeepsTheKeyLaw : Obligations.EveryStepKeepsTheKeyLaw := by
  intro s t hkey hdrive hquiet hstep
  have h : LawfulValves s.node := ⟨hkey, hdrive, hquiet⟩
  suffices ht : LawfulValves t.node from ⟨ht.key, ht.drive, ht.quiet⟩
  unfold step at hstep
  split at hstep
  · injection hstep with he
    exact he ▸ h.congr (idle_valvePart s)
  next c rest _ => exact exec_keeps_lawfulValves c { s with pending := rest } h t hstep

end Sys2Proof.Machine

/-! # The port and the bad-frame counter through the events of RUN (O52) -/

namespace Sys2Proof.Machine

/-- What the port's law is read from: the index, the command count, the pointers and the bad-frame counter. -/
def Node.portPart (n : Node) : Nat × Nat × Vector Nat 8 × Nat :=
  (n.svp.index, n.svp.count, n.svp.pointers, n.lkc.badFrames)

theorem portPart_of_still {a b : Node} (h : a.still = b.still) : a.portPart = b.portPart :=
  (congrArg Node.portPart h : a.still.portPart = b.still.portPart)

theorem portPart_setFlagIf (n : Node) (b : Bool) (f : Flag) : (n.setFlagIf b f).portPart = n.portPart := by
  cases b <;> rfl

/-! ## The field inputs and the timers -/

section
variable (n : Node)

theorem zoneEvent_portPart (z : Zone) (k : Nat) : (zoneEvent z k n).portPart = n.portPart := by
  cases z <;> exact (portPart_of_still (refreshZones_still _)).trans rfl

theorem stationEvent_portPart (k : Nat) : (stationEvent k n).portPart = n.portPart := by
  unfold stationEvent; dsimp only; split
  · exact (portPart_of_still (manualRelease_still _)).trans rfl
  · rfl

theorem holdEvent_portPart (first : Bool) (k : Nat) : (holdEvent first k n).portPart = n.portPart := by
  unfold holdEvent; dsimp only; repeat' split
  · exact (portPart_of_still (holdOperated_still _)).trans rfl
  · exact (portPart_of_still (holdReleased_still _)).trans rfl
  · rfl

theorem keyIsolate_still : (keyIsolate n).still = n.still := by
  unfold keyIsolate; dsimp only; split <;> simp

theorem keyNormal_portPart : (keyNormal n).portPart = n.portPart := by
  refine portPart_of_still (b := alarmsEnded n) ?_
  unfold keyNormal; dsimp only
  rw [hsqNormal_still, feedTest_still, takeReports_still, vcuNormal_still]; rfl

theorem keyEvent_portPart (first a b : Bool) : (keyEvent first a b n).portPart = n.portPart := by
  unfold keyEvent; dsimp only; repeat' split
  · exact (portPart_of_still (keyIsolate_still _)).trans rfl
  · exact keyNormal_portPart _
  · rfl

theorem pressureEvent_portPart (k : Int) : (pressureEvent k n).portPart = n.portPart :=
  (portPart_of_still (deferralRead_still ..)).trans rfl

theorem supervise_portPart (o : SupOutput) (k : SupClass) : (supervise o k n).portPart = n.portPart := by
  unfold supervise; dsimp only; repeat' split
  · rfl
  · exact portPart_setFlagIf ..
  · rfl

theorem settleOver_portPart (o : SupOutput) : (settleOver o n).portPart = n.portPart := by
  unfold settleOver; split <;> rfl

theorem phaseOver_portPart : (phaseOver n).portPart = n.portPart := by
  unfold phaseOver; split <;> rfl

theorem reportWrite_portPart (k : WriteKind) : (reportWrite k n).portPart = n.portPart := by
  cases k with
  | config => rfl
  | release => rfl
  | erase => exact (portPart_of_still (rowErased_still (svpComplete (eraseRecord n)))).trans rfl

theorem writeOver_portPart : (writeOver n).portPart = n.portPart := by
  unfold writeOver; repeat' split
  · rfl
  next w _ _ =>
    rw [portPart_of_still (startPending_still _), reportWrite_portPart]; rfl
  · rfl

/-! ## The link -/

theorem linkLost_portPart : (linkLost n).portPart = n.portPart :=
  (portPart_of_still (linkLost_still n)).trans rfl

theorem idClash_portPart : (idClash n).portPart = n.portPart := by
  unfold idClash; dsimp only; split
  · rfl
  · exact linkLost_portPart _

theorem countHeard_portPart : (countHeard n).portPart = n.portPart := by
  unfold countHeard; dsimp only; split <;> rfl

theorem returnInFlight_portPart : (returnInFlight n).portPart = n.portPart := by
  unfold returnInFlight; split <;> rfl

/-- A frame of another kind than STANDING writes the records of its owners alone. -/
theorem handOn_still {f : Frame} (h : ∀ src c, f ≠ .standing src c) : (handOn f n).still = n.still := by
  cases f with
  | standing src c => exact absurd rfl (h src c)
  | bid | yield | wayopen | fed | vent | ventfree => unfold handOn; dsimp only; split <;> simp

theorem handOn_portPart (f : Frame) : (handOn f n).portPart = n.portPart := by
  by_cases h : ∃ src c, f = .standing src c
  · obtain ⟨src, c, rfl⟩ := h
    exact (portPart_of_still (peerStanding_still src c n)).trans rfl
  · exact portPart_of_still (handOn_still n fun src c he => h ⟨src, c, he⟩)

@[simp] theorem reportPlaced_still (f : Frame) : (reportPlaced f n).still = n.still := by
  unfold reportPlaced; split <;> simp

theorem hearForeign_portPart (f : Frame) : (hearForeign f n).portPart = n.portPart := by
  have hheard : (countHeard (returnInFlight n)).portPart = n.portPart := by
    rw [countHeard_portPart, returnInFlight_portPart]
  unfold hearForeign; split
  · split
    · split
      · rw [handOn_portPart, hheard]
      · exact idClash_portPart n
    all_goals exact hheard
  · rw [handOn_portPart, hheard]

theorem offer_portPart (d : Option Nat) : (offer d n).portPart = n.portPart := by
  unfold offer; dsimp only; repeat' split
  all_goals rfl

theorem statusOver_portPart : (statusOver n).portPart = n.portPart := by
  unfold statusOver; split
  · exact (portPart_of_still (queueStanding_still _)).trans rfl
  · rfl

theorem listenOver_portPart : (listenOver n).portPart = n.portPart := by
  unfold listenOver; split
  · refine portPart_of_still (b := { n with lkc.link := .joined, lkc.listen := none }) ?_
    simp [joinLink]
  · rfl

theorem silenceOver_portPart : (silenceOver n).portPart = n.portPart := by
  unfold silenceOver; split
  · exact linkLost_portPart n
  · rfl

theorem placementOver_portPart : (placementOver n).portPart = n.portPart := by
  unfold placementOver; split
  · exact linkLost_portPart n
  · rfl

theorem presenceOver_portPart (i : NodeId) : (presenceOver i n).portPart = n.portPart := by
  unfold presenceOver; split
  · exact (portPart_of_still (peerAbsent_still i n)).trans rfl
  · rfl

/-! ## LOAD -/

theorem validate_portPart : (validate n).portPart = n.portPart := by
  unfold validate; exact portPart_setFlagIf ..

theorem rowsLoaded_portPart (k : Nat) (fs : List (RowId × Fin 128)) :
    (loadRows k (flipRows fs n)).portPart = n.portPart := by
  rw [flipRows_keeps]
  unfold loadRows; dsimp only; split
  · exact (portPart_setFlagIf ..).trans (portPart_setFlagIf ..)
  · exact portPart_setFlagIf ..

theorem buildSelector_portPart (r : SelReading) : (buildSelector r n).portPart = n.portPart := by
  cases r <;> rfl

theorem hsqFirstKey_still : (hsqFirstKey n).still = n.still := by
  unfold hsqFirstKey; split <;> simp

theorem enterRun_portPart (i : LoadInputs) : (enterRun i n).portPart = n.portPart := by
  refine (stationEvent_portPart ..).trans ?_
  rw [zoneEvent_portPart, zoneEvent_portPart, holdEvent_portPart, portPart_of_still (hsqFirstKey_still _)]
  refine (portPart_of_still (queueStanding_still _)).trans ?_
  exact (buildSelector_portPart _ _).trans (pressureEvent_portPart ..)

theorem load_portPart (i : LoadInputs) : (load i n).portPart = n.portPart := by
  have hrows : (if n.cfs.phase = .load then loadRows i.upTo (flipRows i.flips n) else n).portPart =
      n.portPart := by
    split
    · exact rowsLoaded_portPart ..
    · rfl
  unfold load; dsimp only; split
  · rw [enterRun_portPart, validate_portPart, hrows]
  · exact hrows

end

end Sys2Proof.Machine

/-! # Every step keeps the port in range (O52) -/

namespace Sys2Proof.Machine

/-- The port's own record lies in its ranges (R172, R174, R184). -/
def Svp.inRange (v : Svp) : Prop :=
  v.index ≤ 0xFC ∧ v.count ≤ 255 ∧ ∀ w : Fin 8, v.pointers.get w < windowCap w

theorem portLaw_iff {n : Node} : portLaw n ↔ n.svp.inRange ∧ n.lkc.badFrames ≤ 65535 := by
  unfold portLaw Svp.inRange; tauto

theorem portLaw.congr {n m : Node} (h : portLaw n) (he : m.portPart = n.portPart) : portLaw m := by
  simp only [Node.portPart, Prod.mk.injEq] at he
  obtain ⟨hi, hc, hp, hb⟩ := he
  unfold portLaw; rw [hi, hc, hp, hb]; exact h

theorem portLaw.modSvp {n : Node} (h : portLaw n) {f : Svp → Svp} (hf : n.svp.inRange → (f n.svp).inRange) :
    portLaw (n.modSvp f) :=
  portLaw_iff.2 ⟨hf (portLaw_iff.1 h).1, (portLaw_iff.1 h).2⟩

theorem windowCap_pos (w : Fin 8) : 0 < windowCap w := by revert w; decide

theorem nodeStart_portLaw (now free : Nat) (rows : Vector Row 13) (id : NodeId) (cause : ResetCause) :
    portLaw (Node.start now free rows id cause) := by
  refine ⟨Nat.zero_le _, Nat.zero_le _, Nat.zero_le _, fun w => ?_⟩
  change (Vector.replicate 8 0).get w < _
  rw [vget, Vector.getElem_replicate]; exact windowCap_pos w

/-! ## The port's record -/

section
variable {v : Svp}

theorem windowBase_lt (w : Fin 8) : windowBase w + 1 ≤ 0xFC := by revert w; decide

theorem nextIndex_le {i : Nat} (h : i ≤ 0xFC) : nextIndex i ≤ 0xFC := by
  unfold nextIndex; split <;> omega

theorem Svp.inRange.step1 (h : v.inRange) : (step1 v).inRange := ⟨nextIndex_le h.1, h.2⟩

theorem Svp.inRange.nack (h : v.inRange) : (nack v).inRange := h

theorem Svp.inRange.taken (h : v.inRange) (c : Command) (r : CmdResult) : (taken c r v).inRange :=
  ⟨nextIndex_le h.1, Nat.le_of_lt_succ (Nat.mod_lt _ (by decide)), h.2.2⟩

theorem Svp.inRange.codeTaken (h : v.inRange) (c : Command) (r : CmdResult) : (codeTaken c r v).inRange :=
  h.taken c r

theorem Svp.inRange.setPointer (h : v.inRange) (w : Fin 8) {p : Nat} (hp : p < windowCap w) :
    ({ v with pointers := v.pointers.set w p } : Svp).inRange := by
  refine ⟨h.1, h.2.1, fun x => ?_⟩
  rw [vget, Vector.getElem_set]
  split
  next e => rwa [← Fin.ext e]
  · exact h.2.2 x

/-- A byte read moves the index on, or within a window's record, whose pointer turns round at its
capacity (R174). -/
theorem Svp.inRange.afterRead (h : v.inRange) : (afterRead v).inRange := by
  unfold Machine.afterRead; split
  · exact h.step1
  next w _ =>
    obtain ⟨-, hc, hp⟩ := h.setPointer w (Nat.mod_lt (v.pointers.get w + 1) (windowCap_pos w))
    exact ⟨windowBase_lt w, hc, hp⟩

end

/-! ## Bytes read and written -/

section
variable {n : Node} (b : Byte)

theorem portLaw.setIndex (h : portLaw n) : portLaw (setIndex b n) := by
  unfold Machine.setIndex; split
  next hb => exact h.modSvp fun hv => ⟨hb, hv.2⟩
  · exact h.modSvp Svp.inRange.nack

theorem portLaw.setPointer (h : portLaw n) : portLaw (setPointer b n) := by
  unfold Machine.setPointer; repeat' split
  · exact h
  next w _ hb => exact h.modSvp fun hv => (hv.setPointer w hb).step1
  · exact h.modSvp Svp.inRange.nack

theorem portLaw.writeRegister (h : portLaw n) : portLaw (writeRegister b n) := by
  have hnack : portLaw (n.modSvp nack) := h.modSvp Svp.inRange.nack
  unfold Machine.writeRegister; dsimp only; repeat' split
  · exact h.modSvp fun hv => Svp.inRange.step1 (v := { n.svp with param := b }) hv
  · exact h.modSvp fun hv => Svp.inRange.step1 (v := { n.svp with rowNumber := b }) hv
  · exact hnack
  · exact h
  next op _ _ =>
    exact h.modSvp fun hv => Svp.inRange.step1 (v := { n.svp with op := op, enable := b.getLsbD 2 }) hv
  next hi =>
    exact h.modSvp fun hv =>
      Svp.inRange.step1 (v := { n.svp with buffer := n.svp.buffer.set (n.svp.index - 0xBC) b hi.1 }) hv
  · exact h
  · exact hnack
  · exact h
  · exact hnack

theorem portLaw.resetZones (h : portLaw n) : portLaw (resetZones n) := by
  unfold Machine.resetZones; dsimp only; split
  · refine portLaw.congr ?_ (portPart_of_still (refreshZones_still _))
    exact portLaw_iff.2 ⟨(portLaw_iff.1 h).1.codeTaken _ _, (portLaw_iff.1 h).2⟩
  · exact h.modSvp fun hv => hv.codeTaken _ _

theorem portLaw.alarmResetCommand (h : portLaw n) : portLaw (alarmResetCommand n) := by
  unfold Machine.alarmResetCommand; split
  · exact h.resetZones
  · exact h.modSvp fun hv => hv.codeTaken _ _

theorem portLaw.clearReleaseCommand (h : portLaw n) : portLaw (clearReleaseCommand n) := by
  have htaken : ∀ r, portLaw (n.modSvp (codeTaken .clearRelease r)) := fun r =>
    h.modSvp fun hv => hv.codeTaken _ r
  unfold Machine.clearReleaseCommand; repeat' split
  · exact htaken _
  · exact htaken _
  · exact htaken _
  · exact (htaken .accepted).congr rfl

theorem portLaw.readRowCommand (h : portLaw n) : portLaw (readRowCommand b n) := by
  have htaken : ∀ r, portLaw ((n.modSvp fun v =>
      { v with op := .read, enable := b.getLsbD 2, startBit := false }).modSvp (taken .storeReadRow r)) :=
    fun r => (h.modSvp id).modSvp fun hv => hv.taken _ r
  unfold Machine.readRowCommand readRow; dsimp only; repeat' split
  · exact htaken _
  · exact htaken _
  · exact (htaken .done).congr rfl
  · exact htaken _

theorem portLaw.writeRow (h : portLaw n) : portLaw (writeRow n) := by
  have htaken : ∀ r, portLaw (n.modSvp (taken .storeWriteRow r)) := fun r =>
    h.modSvp fun hv => hv.taken _ r
  unfold Machine.writeRow; dsimp only; repeat' split
  · exact htaken _
  · exact htaken _
  · exact htaken _
  · exact (htaken .accepted).congr rfl

theorem portLaw.writeRowCommand (h : portLaw n) : portLaw (writeRowCommand b n) := by
  have hm : portLaw (n.modSvp fun v =>
    { v with op := .write, enable := b.getLsbD 2, startBit := false }) := h.modSvp id
  unfold Machine.writeRowCommand; dsimp only; repeat' split
  · exact hm.modSvp fun hv => hv.taken _ _
  · exact hm.modSvp fun hv => hv.taken _ _
  · exact hm.writeRow

end

section
variable {s : State}

/-- The read-clear takes the snapshot's count off the counter (R176). -/
theorem clearCounter_portLaw (h : portLaw s.node) : portLaw (clearCounter s).node := by
  unfold clearCounter; dsimp only; split
  · exact ⟨h.1, h.2.1, (Nat.sub_le _ _).trans h.2.2.1, h.2.2.2⟩
  · exact h

theorem readBytes_portLaw (k : Nat) (h : portLaw s.node) : portLaw (readBytes k s).node := by
  induction k generalizing s with
  | zero => exact h
  | succ k ih =>
    refine ih ((clearCounter_portLaw h).modSvp fun hv => ?_)
    exact Svp.inRange.afterRead (v := { (clearCounter s).node.svp with out := _ }) hv

theorem readAddressed_portLaw (h : portLaw s.node) : portLaw (readAddressed s).node := by
  unfold readAddressed; dsimp only; split <;> exact h

theorem readOn_portLaw (k : Nat) (h : portLaw s.node) : portLaw (readOn k s).node := by
  unfold readOn; split
  · exact readBytes_portLaw k h
  · exact h

theorem startTransaction_portLaw (a : BitVec 7) (r : Bool) (h : portLaw s.node) :
    portLaw (startTransaction a r s).node := by
  unfold startTransaction; repeat' split
  · exact h
  · exact readAddressed_portLaw h
  · exact h
  · exact h

end

/-! ## The bad-frame counter -/

section
variable {n : Node}

theorem portLaw.hearBad (h : portLaw n) : portLaw (hearBad n) := by
  refine portLaw.congr ?_ (returnInFlight_portPart _)
  exact ⟨h.1, h.2.1, Nat.min_le_left .., h.2.2.2⟩

theorem portLaw.hear (h : portLaw n) (f : Frame) : portLaw (hear f n) := by
  unfold Machine.hear; repeat' split
  · exact h
  · refine h.congr ((portPart_of_still (reportPlaced_still _ f)).trans ?_)
    exact (handOn_portPart _ f).trans (countHeard_portPart _)
  · exact h.congr (hearForeign_portPart n f)
  · exact h.hearBad

theorem portLaw.hearBytes (h : portLaw n) (bs : List Byte) : portLaw (hearBytes bs n) := by
  unfold Machine.hearBytes; split
  · exact h.hear _
  · exact h.hearBad

end

/-! ## Every command keeps the law -/

/-- The outcome's next state keeps the port's law. -/
def portKept (s : State) (o : Host.Outcome State Fault Refusal) : Prop :=
  portLaw s.node → ∀ t, o = .next t → portLaw t.node

section
variable {s t : State} {f : Node → Node}

theorem portKept_next (h : portLaw s.node → portLaw t.node) : portKept s (.next t) := by
  rintro hs _ ⟨⟩; exact h hs

theorem finish_portPart (b n : Node) : (finish b n).portPart = n.portPart := by
  unfold Node.portPart; rw [finish_svp, finish_badFrames]

theorem portKept_onNode (h : portLaw s.node → portLaw (f s.node)) : portKept s (onNode f s) :=
  portKept_next fun hs => (h hs).congr (finish_portPart ..)

theorem portKept_inRun (h : portLaw s.node → portLaw (f s.node)) : portKept s (inRun f s) := by
  unfold inRun; split
  · exact portKept_onNode h
  · exact portKept_next id

/-- An event of RUN that writes nothing of what the port's law is read from. -/
theorem portKept_inRun_part (he : (f s.node).portPart = s.node.portPart) : portKept s (inRun f s) :=
  portKept_inRun fun h => h.congr he

theorem portKept_inRun_still (he : (f s.node).still = s.node.still) : portKept s (inRun f s) :=
  portKept_inRun_part (portPart_of_still he)

theorem portKept_onByte {here : Svp → Bool} (h : portLaw s.node → portLaw (f s.node)) :
    portKept s (onByte here f s) := by
  unfold onByte; split
  · exact portKept_onNode h
  · exact portKept_next id

theorem beginLoad_portLaw (straps : NodeId) (cause : ResetCause) (s : State) :
    portLaw (beginLoad straps cause s).node := nodeStart_portLaw ..

theorem letGo_portLaw (straps : NodeId) (h : portLaw s.node) : portLaw (letGo straps s).node := by
  unfold letGo; split
  · exact h
  · exact beginLoad_portLaw ..

theorem holdInReset_portLaw {cause : ResetCause} {mark : Node → Node}
    (hm : ∀ n, (mark n).portPart = n.portPart) (h : portLaw s.node) :
    portLaw (holdInReset cause mark s).node := by
  refine portLaw.congr ?_ (hm _)
  split
  · exact h
  · exact nodeStart_portLaw ..

end

theorem exec_keeps_portLaw (c : Instr) (s : State) : portKept s (exec c s) := by
  cases c with
  | powerOn straps =>
    change portKept s (execPowerOn straps s)
    unfold execPowerOn; split
    · exact portKept_next fun h => letGo_portLaw straps h
    · exact portKept_next fun _ => beginLoad_portLaw ..
  | resetLine micros straps =>
    change portKept s (execResetLine micros straps s)
    unfold execResetLine; repeat' split
    · exact portKept_next id
    · exact portKept_next (holdInReset_portLaw fun _ => rfl)
    · exact portKept_next fun h => letGo_portLaw _ h
    · exact portKept_next id
    · exact portKept_next fun _ => beginLoad_portLaw ..
  | load inputs =>
    change portKept s (execLoad inputs s)
    unfold execLoad; split
    · exact portKept_onNode fun h => h.congr (load_portPart ..)
    · exact portKept_next id
  | zoneSample zone current => exact portKept_inRun_part (zoneEvent_portPart ..)
  | manualStationSample current => exact portKept_inRun_part (stationEvent_portPart ..)
  | holdSwitchSample current => exact portKept_inRun_part (holdEvent_portPart ..)
  | keySample a b => exact portKept_inRun_part (keyEvent_portPart ..)
  | degradedConfirmExpiry => exact portKept_inRun_still (degradedExpiry_still _)
  | epoPointReached => exact portKept_inRun_still (epoPoint_still _)
  | countdownExpiry => exact portKept_inRun_still (countdownOver_still _)
  | dischargeDurationExpiry => exact portKept_inRun_still (durationOver_still _)
  | soakExpiry => exact portKept_inRun_still (soakOver_still _)
  | temperatureRead reading => exact portKept_inRun_part rfl
  | hallPressureRead reading => exact portKept_inRun_part (pressureEvent_portPart ..)
  | deferTimerExpiry => exact portKept_inRun_still (deferOver_still _)
  | cylinderPressureRead c reading =>
    exact portKept_inRun_still ((afterReports_still _).trans (cylinderRead_still ..))
  | pulseStart => exact portKept_inRun_still (arbiterStart_still _)
  | pulseLengthExpiry => exact portKept_inRun_still (pulseOver_still _)
  | confirmWindowExpiry c => exact portKept_inRun_still (windowOver_still ..)
  | staggerTimerExpiry => exact portKept_inRun_still (staggerOver_still _)
  | driveMonitorCut c => exact portKept_inRun_still (monitorCut_still ..)
  | selectorLimitRead a b => exact portKept_inRun_still (limitRead_still ..)
  | selectorTravelExpiry => exact portKept_inRun_still (travelOver_still _)
  | frameOffer d => exact portKept_inRun_part (offer_portPart ..)
  | badFrame bytes => exact portKept_inRun fun h => h.hearBytes bytes
  | standingReceived | bidReceived | yieldReceived | wayopenReceived | fedReceived | ventReceived
  | ventfreeReceived => exact portKept_inRun fun h => h.hear _
  | statusTimerExpiry => exact portKept_inRun_part (statusOver_portPart _)
  | listenTimerExpiry => exact portKept_inRun_part (listenOver_portPart _)
  | silenceTimerExpiry => exact portKept_inRun_part (silenceOver_portPart _)
  | placementTimerExpiry => exact portKept_inRun_part (placementOver_portPart _)
  | presenceTimerExpiry i => exact portKept_inRun_part (presenceOver_portPart ..)
  | grantHoldExpiry i => exact portKept_inRun_still (grantOver_still ..)
  | reserveWaitExpiry => exact portKept_inRun_still (waitOver_still _)
  | feedTimeoutExpiry => exact portKept_inRun_still (feedOver_still _)
  | flowTimerExpiry => exact portKept_inRun_still (flowOver_still _)
  | slotWaitExpiry => exact portKept_inRun_still (slotOver_still _)
  | supervisionRead o c => exact portKept_inRun_part (supervise_portPart ..)
  | settleTimeExpiry o => exact portKept_inRun_part (settleOver_portPart ..)
  | sounderPhaseExpiry => exact portKept_inRun_part (phaseOver_portPart _)
  | storeWriteCompletion => exact portKept_inRun_part (writeOver_portPart _)
  | indexWrite b =>
    change portKept s (execIndexWrite b s)
    unfold execIndexWrite; split
    · exact portKept_onNode (portLaw.setIndex b)
    · exact portKept_next id
  | readAddress k =>
    change portKept s (execReadAddress k s)
    unfold execReadAddress; split
    · exact portKept_next id
    · exact portKept_next fun h => readBytes_portLaw k (readAddressed_portLaw h)
  | windowRecordRead => exact portKept_next (readOn_portLaw _)
  | badFrameCounterRead => exact portKept_next (readOn_portLaw _)
  | stickyFlagClear b =>
    change portKept s (execStickyFlagClear b s)
    exact portKept_onByte fun h =>
      portLaw.modSvp (n := s.node.clearFlags (s.node.svp.index - 0x1F) b) h Svp.inRange.step1
  | windowPointerWrite b => exact portKept_onByte (portLaw.setPointer b)
  | autoSnapWrite b =>
    change portKept s (execAutoSnapWrite b s)
    exact portKept_onByte fun h => h.modSvp fun hv =>
      Svp.inRange.step1 (v := { s.node.svp with autoSnap := b.getLsbD 0 }) hv
  | registerWrite b =>
    change portKept s (execRegisterWrite b s)
    exact portKept_onByte (portLaw.writeRegister b)
  | snap =>
    change portKept s (execSnap s)
    unfold execSnap; split
    · exact portKept_next fun h => h.modSvp fun hv => hv.codeTaken .snap .done
    · exact portKept_next id
  | alarmReset => exact portKept_onByte portLaw.alarmResetCommand
  | clearRelease => exact portKept_onByte portLaw.clearReleaseCommand
  | restart straps =>
    change portKept s (execRestart straps s)
    unfold execRestart restartCommand; repeat' split
    · exact portKept_next fun _ => beginLoad_portLaw ..
    · exact portKept_onNode fun h => h.modSvp fun hv => hv.codeTaken _ _
    · exact portKept_next id
  | storeReadRow b =>
    change portKept s (execStoreReadRow b s)
    exact portKept_onByte (portLaw.readRowCommand b)
  | storeWriteRow b =>
    change portKept s (execStoreWriteRow b s)
    exact portKept_onByte (portLaw.writeRowCommand b)
  | startCondition a r => exact portKept_next (startTransaction_portLaw a r)
  | supplyBelowThreshold => exact portKept_next (holdInReset_portLaw fun _ => rfl)
  | driveCurrentWithoutCommand c d =>
    exact portKept_inRun_still ((afterReports_still _).trans (selfDrive_still ..))

/-- Settles O52: each event in RUN writes nothing of the port but through a byte of it, whose meaning keeps
the ranges; a bad frame alone counts up, to 65535; and every reset brings the port to 0. -/
theorem everyStepKeepsThePortInRange : Obligations.EveryStepKeepsThePortInRange := by
  intro s t h hstep
  unfold step at hstep
  split at hstep
  · injection hstep with he
    have hidle : (idle s).node.portPart = s.node.portPart := by unfold idle; split <;> rfl
    exact he ▸ h.congr hidle
  next c rest _ => exact exec_keeps_portLaw c { s with pending := rest } h t hstep

end Sys2Proof.Machine

/-! # A frame's bytes read back (O55) -/

namespace Sys2Proof.Machine

/-! ## Numbers and codes in a byte -/

theorem byte_toNat {x : Nat} (h : x < 256) : (byte x).toNat = x := by
  rw [BitVec.toNat_ofNat]; exact Nat.mod_eq_of_lt h

/-- A node id is read from the low four bits of a number. -/
theorem nodeOf_add (i : NodeId) (k : Nat) : nodeOf (i.val + 16 * k) = i :=
  Fin.ext ((Nat.add_mul_mod_self_left ..).trans (Nat.mod_eq_of_lt i.isLt))

theorem nodeOf_val (i : NodeId) : nodeOf i.val = i := nodeOf_add i 0

theorem add_mul16_mod {x k : Nat} (h : x < 16) : (x + 16 * k) % 16 = x := by omega

theorem add_mul16_div {x k : Nat} (h : x < 16) : (x + 16 * k) / 16 = k := by omega

theorem hallOf_hallCode (h : HallState) : hallOf (hallCode h) = h := by cases h <;> rfl

theorem hallCode_lt (h : HallState) : hallCode h < 16 := by cases h <;> decide

theorem modeOf_modeCode (m : Mode) : modeOf (modeCode m) = m := by cases m <;> rfl

theorem modeCode_le (m : Mode) : modeCode m ≤ 1 := by cases m <;> decide

theorem classOf_classCode (c : BidClass) : classOf (classCode c) = c := by cases c <;> rfl

theorem classCode_le (c : BidClass) : classCode c ≤ 1 := by cases c <;> decide

theorem ventOf_ventCode (v : VentStatus) : ventOf (ventCode v) = v := by cases v <;> rfl

theorem ventCode_le (v : VentStatus) : ventCode v ≤ 2 := by cases v <;> decide

theorem fedOf_fedCode (o : FedOutcome) : fedOf (fedCode o) = o := by cases o <;> rfl

theorem fedCode_le (o : FedOutcome) : fedCode o ≤ 3 := by cases o <;> decide

theorem byte_id_toNat (i : NodeId) : (byte i.val).toNat = i.val := byte_toNat (by omega)

/-- The byte of a node id and a class gives both back. -/
theorem idClass_toNat (i : NodeId) (c : BidClass) : (byte (idClass i c)).toNat = i.val + 16 * classCode c :=
  byte_toNat (by have := classCode_le c; unfold idClass; omega)

/-! ## The fields of a STANDING -/

/-- Byte 4 of a STANDING as a number. -/
theorem flagsByte_toNat (s : Standing) : (byte (standingFlags s + 128 * s.holderPart.isSome.toNat)).toNat =
    standingFlags s + 128 * s.holderPart.isSome.toNat := by
  refine byte_toNat ?_
  have h := fun b : Bool => b.toNat_le
  have h1 := h s.lockout; have h2 := h s.short; have h3 := h s.low; have h4 := h s.trouble
  have h5 := h s.holderPart.isSome
  unfold standingFlags; omega

/-- Each bit of byte 4 gives its field back. -/
theorem flagsByte_bits (s : Standing) : ∀ b, b = standingFlags s + 128 * s.holderPart.isSome.toNat →
    b.testBit 0 = s.lockout ∧ b.testBit 1 = s.short ∧ b.testBit 2 = s.low ∧ b.testBit 3 = s.trouble ∧
      b.testBit 7 = s.holderPart.isSome := by
  rintro _ rfl
  unfold standingFlags
  generalize s.lockout = a, s.short = b, s.low = c, s.trouble = d, s.holderPart.isSome = e
  revert a b c d e; decide

/-- The ready count and the lockout of a holder part share a byte. -/
theorem readyByte (r : Nat) (h : r ≤ 8) (l : Bool) : (byte (r + 16 * l.toNat)).toNat % 16 = r ∧
    (byte (r + 16 * l.toNat)).toNat.testBit 4 = l := by
  have hall : ∀ x : Fin 9, ∀ b : Bool, (byte (x.val + 16 * b.toNat)).toNat % 16 = x.val ∧
    (byte (x.val + 16 * b.toNat)).toNat.testBit 4 = b := by decide
  exact hall ⟨r, by omega⟩ l

theorem grantOfByte_byte {g : Grant} (h : g.valid = true) :
    grantOfByte (byte (16 * g.grantee.val + g.count)) = g := by
  simp only [Grant.valid, Bool.and_eq_true, decide_eq_true_eq] at h
  have hb : (byte (16 * g.grantee.val + g.count)).toNat = g.count + 16 * g.grantee.val :=
    (byte_toNat (by omega)).trans (Nat.add_comm ..)
  unfold grantOfByte
  rw [hb, add_mul16_mod (by omega), add_mul16_div (by omega), nodeOf_val]

/-- The bytes of a holder part's grants, and what follows them, give the grants back. -/
theorem grantBytes_read {gs : List Grant} (hv : ∀ g ∈ gs, g.valid = true) (hl : gs.length ≤ 8)
    (tail : List Byte) :
    (((gs.map fun g => byte (16 * g.grantee.val + g.count)) ++ tail).take (byte gs.length).toNat).map
      grantOfByte = gs := by
  rw [byte_toNat (by omega), List.take_left' (by simp), List.map_map]
  exact (List.map_congr_left fun g hg => grantOfByte_byte (hv g hg)).trans (List.map_id gs)

/-- The bytes of a STANDING's holder part, none without one. -/
def partBytes : Option HolderPart → List Byte
  | none => []
  | some h => holderBytes h

/-- The holder part that the bytes after the five fixed ones give. -/
theorem readStanding_holderPart {p : Option HolderPart} (hv : ∀ h, p = some h → h.valid = true)
    (b3 b4 b5 b6 b7 : Nat) (hb : b4.testBit 7 = p.isSome) (tail : List Byte) :
    (readStanding b3 b4 b5 b6 b7 (partBytes p ++ tail)).holderPart = p := by
  unfold readStanding; dsimp only; rw [hb]
  cases p with
  | none => rfl
  | some h =>
    have hh := hv h rfl
    simp only [HolderPart.valid, Bool.and_eq_true, decide_eq_true_eq, List.all_eq_true] at hh
    obtain ⟨⟨⟨hready, hlen⟩, hgrants⟩, -⟩ := hh
    obtain ⟨hr, hk⟩ := readyByte h.ready hready h.lockout
    refine congrArg some ?_
    rw [hr, hk]
    exact congrArg (HolderPart.mk _ _) (grantBytes_read hgrants hlen tail)

theorem standingBytes_eq (s : Standing) : standingBytes s =
    [byte (hallCode s.hall + 16 * modeCode s.mode),
     byte (standingFlags s + 128 * s.holderPart.isSome.toNat),
     byte (s.ventGroup + 16 * ventCode s.ventStatus), byte (idClass s.bidHolder s.cls), byte s.wanted]
      ++ partBytes s.holderPart := rfl

/-- The field bytes of a valid STANDING, and what follows them, are read as it. -/
theorem readStanding_bytes {s : Standing} (hv : s.valid = true) (tail : List Byte) :
    readStanding (byte (hallCode s.hall + 16 * modeCode s.mode)).toNat
      (byte (standingFlags s + 128 * s.holderPart.isSome.toNat)).toNat
      (byte (s.ventGroup + 16 * ventCode s.ventStatus)).toNat (byte (idClass s.bidHolder s.cls)).toNat
      (byte s.wanted).toNat
      (partBytes s.holderPart ++ tail) = s := by
  simp only [Standing.valid, Bool.and_eq_true, decide_eq_true_eq] at hv
  obtain ⟨⟨hgroup, hwanted⟩, hpart⟩ := hv
  have hhall := hallCode_lt s.hall
  have hmode := modeCode_le s.mode
  have hvent := ventCode_le s.ventStatus
  have hcls := classCode_le s.cls
  obtain ⟨h0, h1, h2, h3, h7⟩ := flagsByte_bits s _ (flagsByte_toNat s)
  have hp := readStanding_holderPart (p := s.holderPart)
    (fun h e => by rw [e] at hpart; exact hpart)
    (byte (hallCode s.hall + 16 * modeCode s.mode)).toNat _
    (byte (s.ventGroup + 16 * ventCode s.ventStatus)).toNat (byte (idClass s.bidHolder s.cls)).toNat
    (byte s.wanted).toNat h7 tail
  have h3b : (byte (hallCode s.hall + 16 * modeCode s.mode)).toNat = hallCode s.hall + 16 * modeCode s.mode :=
    byte_toNat (by omega)
  have h5b : (byte (s.ventGroup + 16 * ventCode s.ventStatus)).toNat =
    s.ventGroup + 16 * ventCode s.ventStatus := byte_toNat (by omega)
  have h7b : (byte s.wanted).toNat = s.wanted := byte_toNat (by omega)
  unfold readStanding at hp ⊢
  dsimp only at hp
  rw [hp, h0, h1, h2, h3, h3b, h5b, h7b, idClass_toNat, add_mul16_mod hhall, add_mul16_div hhall,
    add_mul16_mod (by omega), add_mul16_div (by omega), nodeOf_add, add_mul16_div (by omega), hallOf_hallCode,
    modeOf_modeCode, ventOf_ventCode, classOf_classCode]

/-! ## The frame -/

/-- The bytes on the line: the kind code, the source id, the length, the fields, and the three bytes of the
check code and the end mark. -/
theorem encode_eq (f : Frame) : ∃ tail, encode f =
    byte (kindCode f) :: byte (frameSource f).val :: byte (frameLength f) :: ((frameParts f).2.2 ++ tail) := by
  refine ⟨[(crc (frameBody f)).extractLsb' 8 8, (crc (frameBody f)).extractLsb' 0 8, byte 0x7E], ?_⟩
  cases f <;> rfl

theorem readFrame_encode {f : Frame} (hv : f.valid = true) : readFrame (encode f) = some f := by
  obtain ⟨tail, he⟩ := encode_eq f
  rw [he]
  have hsrc : nodeOf (byte (frameSource f).val).toNat = frameSource f := by
    rw [byte_id_toNat, nodeOf_val]
  cases f with
  | standing src s =>
    change readFrame (_ :: _ :: _ :: (standingBytes s ++ tail)) = _
    rw [standingBytes_eq]
    refine congrArg some (congrArg₂ Frame.standing hsrc ?_)
    exact readStanding_bytes hv tail
  | bid src holder wanted cls =>
    simp only [Frame.valid, Bool.and_eq_true, decide_eq_true_eq] at hv
    change some (Frame.bid (nodeOf _) (nodeOf _) _ (classOf _)) = _
    rw [hsrc, idClass_toNat, nodeOf_add, add_mul16_div holder.isLt, classOf_classCode, byte_toNat (by omega)]
    rfl
  | yield src holder =>
    change some (Frame.yield (nodeOf _) (nodeOf _)) = _
    rw [hsrc, byte_id_toNat, nodeOf_val]; rfl
  | wayopen src holder count =>
    simp only [Frame.valid, Bool.and_eq_true, decide_eq_true_eq] at hv
    change some (Frame.wayopen (nodeOf _) (nodeOf _) _) = _
    rw [hsrc, byte_id_toNat, nodeOf_val, byte_toNat (by omega)]; rfl
  | fed src grantee c f out =>
    simp only [Frame.valid, Bool.and_eq_true, decide_eq_true_eq] at hv
    have hout := fedCode_le out
    change some (Frame.fed (nodeOf _) (nodeOf _) _ _ (fedOf _)) = _
    rw [hsrc, byte_id_toNat, nodeOf_val, byte_toNat (x := c) (by omega), byte_toNat (x := f) (by omega),
      byte_toNat (x := fedCode out) (by omega), fedOf_fedCode]; rfl
  | vent src group =>
    simp only [Frame.valid, Bool.and_eq_true, decide_eq_true_eq] at hv
    change some (Frame.vent (nodeOf _) _) = _
    rw [hsrc, byte_toNat (by omega)]; rfl
  | ventfree src group =>
    simp only [Frame.valid, Bool.and_eq_true, decide_eq_true_eq] at hv
    change some (Frame.ventfree (nodeOf _) _) = _
    rw [hsrc, byte_toNat (by omega)]; rfl

/-- Settles O55: the frame read from the bytes, before any check, is the frame, and it passes the checks. -/
theorem frameBytesReadBackAsTheFrame : Obligations.FrameBytesReadBackAsTheFrame := by
  intro f hv
  unfold parse; rw [readFrame_encode hv]
  exact if_pos (by simp [hv])

end Sys2Proof.Machine

/-! # The end of an event that leaves the STANDING's fields -/

namespace Sys2Proof.Machine

/-! ## The fields of the STANDING -/

theorem setSup_inFault (o : SupOutput) (x : Option Time) (p : Pou) (i : Fin 8) :
    ((p.setSup o fun r => { r with settle := x }).sup.get i).inFault = (p.sup.get i).inFault := by
  unfold Pou.setSup; dsimp only
  rw [vget, Vector.getElem_set]; split
  next h => rw [vget, vget]; simp only [h]
  · rfl

/-- The settle times leave the faults of the supervised outputs. -/
theorem settleChanges_inFault (now : Time) (old p : Pou) (i : Fin 8) :
    ((settleChanges now old p).sup.get i).inFault = (p.sup.get i).inFault := by
  have hfold : ∀ (os : List SupOutput) (q : Pou), ((os.foldl (fun q o =>
      if old.level o = p.level o then q
      else q.setSup o fun r => { r with settle := some (now + Config.settleTime) }) q).sup.get i).inFault =
      (q.sup.get i).inFault := by
    intro os
    induction os with
    | nil => exact fun _ => rfl
    | cons o os ih =>
      intro q
      refine (ih _).trans ?_
      dsimp only; split
      · rfl
      · exact setSup_inFault ..
  exact hfold allOutputs p

theorem outputs_sup (n : Node) : n.outputs.sup = n.pou.sup := by
  change (n.pou.setStage n.now n.stageNow).sup = _
  unfold Pou.setStage; split <;> rfl

/-- Driving the outputs leaves the trouble aggregate. -/
theorem pouEval_trouble (n : Node) : (pouEval n).trouble = n.trouble := by
  have hfault : ∀ o, ((pouEval n).pou.sup.get (supIdx o)).inFault = (n.pou.sup.get (supIdx o)).inFault := by
    intro o
    refine (settleChanges_inFault ..).trans ?_
    rw [outputs_sup]
  unfold Node.trouble Node.troubles
  simp only [hfault]; rfl

theorem pouEval_standing (h : NodeId) (n : Node) : (pouEval n).standing h = n.standing h := by
  unfold Node.standing; rw [pouEval_trouble]; rfl

/-! ## The outbox at the end of an event -/

/-- An event that leaves the STANDING's fields queues none. -/
theorem finish_keeps_outbox {b n : Node} (h : n.standing 0 = b.standing 0) :
    (finish b n).lkc.outbox = n.lkc.outbox := by
  unfold finish; split
  · have ha : announce b (pouEval n) = pouEval n := if_pos (.inl (h.symm.trans (pouEval_standing 0 n).symm))
    rw [ha, placementTest_eq]; rfl
  · rfl

/-- While the clash stands no STANDING is queued (R97). -/
theorem finish_clash_outbox {b n : Node} (h : n.lkc.clash = true) : (finish b n).lkc.outbox = n.lkc.outbox := by
  have hq : queueStanding (pouEval n) = pouEval n := if_pos h
  unfold finish announce; rw [hq, ite_self]; split
  · rw [placementTest_eq]; rfl
  · rfl

/-- An event in RUN that leaves the STANDING's fields ends with the outbox that its effect leaves. -/
theorem endsWith_inRun {c : Instr} {s : State} {n : Node} (f : Node → Node) (hc : exec c s = inRun f s)
    (hr : s.node.running = true) (hf : f s.node = n) (hs : n.standing 0 = s.node.standing 0) :
    endsWith c s n := by
  refine ⟨_, hc.trans (if_pos hr), rfl, rfl, ?_, ?_⟩
  · rw [finish_bare, hf]
  · rw [hf]; exact finish_keeps_outbox hs

/-! ## A frame delivered -/

/-- A command that delivers a frame lets it be heard. -/
theorem exec_of_frame {c : Instr} {f : Frame} (s : State) (h : c.frame? = some f) :
    exec c s = inRun (hear f) s := by
  cases c <;> cases h <;> rfl

theorem frame?_standing {c : Instr} {src : NodeId} {x : Standing} (h : c.frame? = some (.standing src x)) :
    c = .standingReceived src x := by
  cases c <;> cases h; rfl

/-- The outbox once a frame in flight is back in it. -/
def Node.returned (n : Node) : Outbox :=
  match n.lkc.inFlight with
  | none => n.lkc.outbox
  | some f => returnFrame f n.lkc.outbox

theorem returnInFlight_eq (n : Node) : returnInFlight n =
    { n with lkc := { n.lkc with inFlight := none, outbox := n.returned } } := by
  unfold returnInFlight; split
  next h =>
    have hbox : n.returned = n.lkc.outbox := by unfold Node.returned; rw [h]
    rw [hbox, ← h]
  next f h =>
    have hbox : n.returned = returnFrame f n.lkc.outbox := by unfold Node.returned; rw [h]
    rw [hbox]

/-- A bad frame counted (R83), with a frame in flight back in the outbox (R86). -/
def badCounted (n : Node) : Node :=
  { n with lkc := { n.lkc with
    badFrames := min 65535 (n.lkc.badFrames + 1), inFlight := none, dropped := none, outbox := n.returned } }

theorem hearBad_eq (n : Node) : hearBad n = badCounted n := by
  unfold hearBad; rw [returnInFlight_eq]; rfl

theorem hear_invalid {f : Frame} (h : f.valid = false) (n : Node) : hear f n = badCounted n :=
  (if_neg (by simp [h])).trans (hearBad_eq n)

theorem hear_clashed {f : Frame} {n : Node} (h : f.valid = true) (hc : n.lkc.clash = true) : hear f n = n :=
  (if_pos h).trans (if_pos hc)

/-- A valid frame that is no echo, at a node without a clash. -/
theorem hear_unechoed {f : Frame} {n : Node} (h : f.valid = true) (hc : n.lkc.clash = false)
    (hf : n.lkc.inFlight ≠ some f) : hear f n = hearForeign f n :=
  (if_pos h).trans ((if_neg (by simp [hc])).trans (if_neg hf))

theorem hear_echo {f : Frame} {n : Node} (h : f.valid = true) (hc : n.lkc.clash = false)
    (hf : n.lkc.inFlight = some f) : hear f n = hearEcho f n :=
  (if_pos h).trans ((if_neg (by simp [hc])).trans (if_pos hf))

/-- A frame of another kind than STANDING is handed on in JOINED alone (R87). -/
theorem handOn_unjoined {f : Frame} {n : Node} (hs : ∀ src x, f ≠ .standing src x)
    (hl : n.lkc.link ≠ .joined) : handOn f n = n := by
  cases f with
  | standing src x => exact absurd rfl (hs src x)
  | fed => exact if_neg fun h => hl h.1
  | bid | yield | wayopen | vent | ventfree => exact if_neg hl

/-- A frame of another kind than STANDING with the own id that is no echo only counts as heard (R88). -/
theorem hearForeign_own {f : Frame} {n : Node} (hs : ∀ src x, f ≠ .standing src x)
    (hid : frameSource f = n.id) : hearForeign f n = countHeard (returnInFlight n) := by
  refine (if_pos hid).trans ?_
  cases f with
  | standing src x => exact absurd rfl (hs src x)
  | bid | yield | wayopen | fed | vent | ventfree => rfl

theorem hearForeign_other {f : Frame} {n : Node} (hid : frameSource f ≠ n.id) :
    hearForeign f n = handOn f (countHeard (returnInFlight n)) := if_neg hid

end Sys2Proof.Machine

/-! # The status timer, the identity clash, and frames that do nothing more (O24, O29, O30, O31) -/

namespace Sys2Proof.Machine

/-- Settles O24: the expiry restarts the timer and hands a STANDING over, which the clash alone refuses. -/
theorem statusExpiryQueuesAStanding : Obligations.StatusExpiryQueuesAStanding := by
  intro s ends hr hstatus hends
  let m : Node := { s.node with lkc.status := some (s.node.now + s.node.cfg.period) }
  have hover : statusOver s.node = queueStanding m := if_pos (by simp [due, hstatus, hends])
  refine ⟨_, if_pos (c := s.node.running = true) hr, rfl, rfl, ?_, ?_⟩
  · rw [finish_bare, hover, queueStanding_bare]
  · rw [hover]
    cases hc : s.node.lkc.clash with
    | true =>
      have hq : queueStanding m = m := if_pos hc
      rw [hq]
      exact congrArg Outbox.standing (finish_clash_outbox (n := m) hc)
    | false =>
      have hq : queueStanding m = m.modOutbox fun o => { o with standing := true } :=
        if_neg (by simp [m, hc])
      rw [hq, finish_standing (n := m.modOutbox _) hr rfl, placementTest_eq]; rfl

theorem idClash_marks (n : Node) : (idClash n).lkc.clash = true ∧ (idClash n).lkc.link = .lost ∧
    (idClash n).lkc.inFlight = none ∧ (idClash n).flag .idClash = true := by
  let m : Node := { n with lkc.clash := true }.setFlag .idClash
  have hm : m.flag .idClash = true := Node.flag_setFlag_same ..
  by_cases hl : n.lkc.link = .lost
  · have he : idClash n = { m with lkc.inFlight := none } := if_pos (c := m.lkc.link = .lost) hl
    rw [he]; exact ⟨rfl, hl, rfl, hm⟩
  · have he : idClash n = linkLost m := if_neg (c := m.lkc.link = .lost) hl
    rw [he, linkLost_lkc]
    exact ⟨rfl, rfl, rfl, linkLost_raises m _ (Node.flag_setFlag_mono _ _ _ hm)⟩

/-- Settles O29: the STANDING is no echo and no late one, so it is a clash, which loses the link. -/
theorem ownIdStandingIsAClash : Obligations.OwnIdStandingIsAClash := by
  intro s c hr hclash hv hf hd
  have hlate : s.node.lateEcho (.standing s.node.id c) = false := by
    simpa [Node.lateEcho] using hd
  have hclashes : hearForeign (.standing s.node.id c) s.node = idClash s.node :=
    (if_pos rfl).trans (if_neg (by simp [hlate]))
  have hear : hear (.standing s.node.id c) s.node = idClash s.node :=
    (hear_unechoed (f := .standing s.node.id c) hv hclash hf).trans hclashes
  obtain ⟨h1, h2, h3, h4⟩ := idClash_marks s.node
  refine ⟨_, if_pos (c := s.node.running = true) hr, ?_, ?_, ?_, ?_⟩
  · rw [finish_clash, hear, h1]
  · rw [finish_link, hear, h2]
  · rw [finish_inFlight, hear, h3]
  · rw [Node.flag, finish_svp, hear]; exact h4

/-- Settles O30: a frame that fails the checks is counted and returns what is in flight; a valid one is not
taken while the clash stands. -/
theorem badFrameIsOnlyCounted : Obligations.BadFrameIsOnlyCounted := by
  intro c s hr
  refine ⟨?_, fun f hc hv => ?_, fun f hc hv hclash => ?_, ?_⟩
  · rintro ⟨bytes, rfl, hp⟩
    have hbad : hearBytes bytes s.node = badCounted s.node := by
      unfold hearBytes; rw [hp]; exact hearBad_eq _
    exact endsWith_inRun (hearBytes bytes) rfl hr hbad rfl
  · exact endsWith_inRun (hear f) (exec_of_frame s hc) hr (hear_invalid hv _) rfl
  · exact endsWith_inRun (hear f) (exec_of_frame s hc) hr (hear_clashed hv hclash) rfl
  · rintro bytes f rfl hp hclash
    have hv : f.valid = true := by
      unfold parse at hp; repeat' split at hp
      next h => cases hp; simp_all
      all_goals cases hp
    have hear : hearBytes bytes s.node = s.node := by
      unfold hearBytes; rw [hp]; exact hear_clashed hv hclash
    exact endsWith_inRun (hearBytes bytes) rfl hr hear rfl

/-- Settles O31: the frame counts as heard, which leaves the link in LISTEN, where it is not handed on. -/
theorem otherKindsWaitForTheJoin : Obligations.OtherKindsWaitForTheJoin := by
  intro c f s hr hc hkind hv hclash hf hl
  have hs : ∀ src x, f ≠ .standing src x := fun src x h => hkind src x (frame?_standing (h ▸ hc))
  have hret : returnInFlight s.node = s.node := by unfold returnInFlight; rw [hf]
  have hlisten : (countHeard s.node).lkc.link ≠ .joined := by
    unfold countHeard; dsimp only; split
    · exact nofun
    next h => rw [h]; exact nofun
    next h => exact absurd h hl
  have hforeign : hearForeign f s.node = countHeard s.node := by
    by_cases hid : frameSource f = s.node.id
    · rw [hearForeign_own hs hid, hret]
    · rw [hearForeign_other hid, hret, handOn_unjoined hs hlisten]
  have hear : hear f s.node = countHeard s.node :=
    (hear_unechoed hv hclash (by simp [hf])).trans hforeign
  refine endsAs_inRun _ (exec_of_frame s hc) hr ?_
  rw [hear]; unfold countHeard; dsimp only
  cases hk : s.node.lkc.link with
  | lost => rfl
  | joined => exact absurd hk hl
  | listen => cases s.node.lkc.listen <;> (simp only [← hk]; rfl)

end Sys2Proof.Machine

/-! # The offer of a frame (O32) -/

namespace Sys2Proof.Machine

/-- A node once an offer has ended: no dropped frame is waited for (log 46). -/
def Node.offeredTo (n : Node) (free : Nat) (flight : Option Frame) (box : Outbox) : Node :=
  { n with free := free, lkc := { n.lkc with dropped := none, inFlight := flight, outbox := box } }

/-- The offer sends `f`, with `rest` left in the outbox; a lost bit brings `f` back (R82). -/
def Offers (differsAt : Option Nat) (s : State) (f : Frame) (rest : Outbox) : Prop :=
  ∃ free,
    (differsAt = none → endsWith (.frameOffer differsAt) s (s.node.offeredTo free (some f) rest)) ∧
    (∀ k, differsAt = some k → 8 * frameLength f ≤ k →
      endsWith (.frameOffer differsAt) s (s.node.offeredTo free (some f) rest)) ∧
    (∀ k, differsAt = some k → k < 8 * frameLength f →
      endsWith (.frameOffer differsAt) s (s.node.offeredTo free none s.node.lkc.outbox))

section
variable {d : Option Nat} {n : Node}

theorem offer_in_flight (h : n.lkc.inFlight.isSome = true) :
    offer d n = n.offeredTo n.free n.lkc.inFlight n.lkc.outbox :=
  if_pos (c := n.lkc.inFlight.isSome = true) h

theorem offer_nothing (h : n.nextOffer = none) :
    offer d n = n.offeredTo n.free n.lkc.inFlight n.lkc.outbox := by
  have hnext : Node.nextOffer { n with lkc.dropped := none } = none := h
  unfold offer; dsimp only; rw [hnext, ite_self]; rfl

theorem offer_sends {f : Frame} {rest : Outbox} (hf : n.lkc.inFlight = none)
    (h : n.nextOffer = some (f, rest)) : offer d n =
      if sentWhole f d then n.offeredTo (n.free + 1) (some f) rest
      else n.offeredTo (n.free + 1) none (returnFrame f rest) := by
  have hnext : Node.nextOffer { n with lkc.dropped := none } = some (f, rest) := h
  unfold offer Node.offeredTo; dsimp only; rw [hnext]; simp [hf]

end

section
variable {d : Option Nat} {s : State}

/-- An offer that comes to nothing. -/
theorem endsWith_no_offer (hr : s.node.running = true)
    (h : s.node.lkc.inFlight.isSome = true ∨ s.node.nextOffer = none) :
    endsWith (.frameOffer d) s (s.node.offeredTo s.node.free s.node.lkc.inFlight s.node.lkc.outbox) :=
  endsWith_inRun (offer d) rfl hr (h.elim offer_in_flight offer_nothing) rfl

/-- The next frame of the order is offered, and comes back to where it was. -/
theorem offers_next {f : Frame} {rest : Outbox} (hr : s.node.running = true)
    (hf : s.node.lkc.inFlight = none) (hnext : s.node.nextOffer = some (f, rest))
    (hback : returnFrame f rest = s.node.lkc.outbox) : Offers d s f rest := by
  have hsent (hw : sentWhole f d = true) :
      endsWith (.frameOffer d) s (s.node.offeredTo (s.node.free + 1) (some f) rest) :=
    endsWith_inRun (offer d) rfl hr ((offer_sends hf hnext).trans (if_pos hw)) rfl
  have hlost (hw : ¬ sentWhole f d = true) :
      endsWith (.frameOffer d) s (s.node.offeredTo (s.node.free + 1) none s.node.lkc.outbox) :=
    hback ▸ endsWith_inRun (offer d) rfl hr ((offer_sends hf hnext).trans (if_neg hw)) rfl
  refine ⟨s.node.free + 1, ?_, ?_, ?_⟩
  · rintro rfl; exact hsent rfl
  · rintro k rfl hk; exact hsent (by simpa [sentWhole] using hk)
  · rintro k rfl hk; exact hlost (by simpa [sentWhole] using hk)

end

/-! ## The next frame -/

/-- The next frame of another kind, given back, restores the outbox: its place is empty, and of a YIELD or a
VENTFREE that would meet it none waits, for it would be offered first (R89 to R91). -/
theorem returnFrame_nextOther {src : NodeId} {o rest : Outbox} {f : Frame}
    (h : nextOther src o = some (f, rest)) : returnFrame f rest = o := by
  obtain ⟨fed, wayopen, yieldTo, ventfree, bid, vent, standing⟩ := o
  unfold nextOther at h; dsimp only at h
  repeat' split at h
  all_goals cases h
  all_goals simp_all [returnFrame, newer, Answer.frame]

section
variable {n : Node}

theorem nextOffer_clashed (h : n.lkc.clash = true) : n.nextOffer = none := if_pos h

theorem nextOffer_joined {r : Frame × Outbox} (hc : n.lkc.clash = false) (hl : n.lkc.link = .joined)
    (h : nextOther n.id n.lkc.outbox = some r) : n.nextOffer = some r := by
  simp [Node.nextOffer, hc, hl, h]

/-- With nothing of another kind that may be offered, a STANDING is next where one waits. -/
theorem nextOffer_standing (hc : n.lkc.clash = false)
    (h : n.lkc.link = .joined → nextOther n.id n.lkc.outbox = none) : n.nextOffer =
      if n.lkc.outbox.standing then
        some (.standing n.id (n.standing n.shownHolder), { n.lkc.outbox with standing := false })
      else none := by
  by_cases hl : n.lkc.link = .joined
  · simp [Node.nextOffer, hc, hl, h hl]
  · simp [Node.nextOffer, hc, hl]

theorem nextOffer_unqueued (h : n.lkc.outbox.standing = false)
    (ho : n.lkc.link = .joined → nextOther n.id n.lkc.outbox = none) : n.nextOffer = none := by
  cases hc : n.lkc.clash with
  | true => exact nextOffer_clashed hc
  | false => rw [nextOffer_standing hc ho, h]; rfl

end

/-- What the STANDING shows of the owners' states (R85, R103, R109, R120). -/
def Shows (n : Node) (c : Standing) : Prop :=
  c.hall = n.hsq.hall ∧ c.mode = n.hsq.mode ∧
  c.lockout = decide (n.fiu.key.delivered = .isolate) ∧ c.short = n.apl.short ∧
  c.low = n.apl.low ∧ c.trouble = n.trouble ∧ c.ventStatus = n.vsu.status ∧
  c.ventGroup = (if n.hsq.mode = .normal then n.cfg.ventGroup else 0) ∧
  c.wanted = (if n.rcl.bid = .queued ∨ n.rcl.bid = .placed then n.rcl.n else 0) ∧
  (∀ h, n.cfg.holder = some h → c.bidHolder = h) ∧ c.cls = n.cfg.cls ∧
  (let bank : Prop := ∃ d, (n.chan d).role = .reserve
   (¬ bank → c.holderPart = none) ∧
   (bank → ∃ part, c.holderPart = some part ∧
     part.lockout = decide (n.fiu.key.delivered = .isolate) ∧
     (n.hsq.mode = .normal →
       part.ready = (allChans.filter (fun d =>
         (n.chan d).role = .reserve ∧ (n.chan d).state = .ready)).length ∧
       part.grants = (n.rva.bids.filter (fun e => 0 < e.granted)).map
         (fun e => { grantee := e.node, count := e.granted })) ∧
     (n.hsq.mode = .fallback → part.ready = 0 ∧ part.grants = [])))

theorem Node.hasReserve_iff {n : Node} : n.hasReserve = true ↔ ∃ d, (n.chan d).role = .reserve := by
  simp [Node.hasReserve, Vcu.anyChan_iff, Node.chan]

section
variable {n : Node}

theorem holderPart_none (h : n.hasReserve = false) : n.holderPart = none := by simp [Node.holderPart, h]

theorem holderPart_normal (hb : n.hasReserve = true) (hm : n.hsq.mode = .normal) : n.holderPart =
    some { ready := n.freeReserve.length, lockout := n.isolate,
           grants := (n.rva.bids.filter (fun e => decide (0 < e.granted))).map
             (fun e => { grantee := e.node, count := e.granted }) } := by
  simp [Node.holderPart, Node.rvaActive, hb, Node.normal_iff.2 hm]

theorem holderPart_fallback (hb : n.hasReserve = true) (hm : n.hsq.mode = .fallback) : n.holderPart =
    some { ready := 0, lockout := n.isolate, grants := [] } := by
  simp [Node.holderPart, Node.rvaActive, hb, Node.normal, hm]

end

/-- The STANDING shows the fields as they stand. -/
theorem standing_shows (n : Node) : Shows n (n.standing n.shownHolder) := by
  have hgroup : (n.standing n.shownHolder).ventGroup =
      if n.hsq.mode = .normal then n.cfg.ventGroup else 0 := by simp [Node.standing, Node.normal]
  have hwanted : (n.standing n.shownHolder).wanted =
      if n.rcl.bid = .queued ∨ n.rcl.bid = .placed then n.rcl.n else 0 := by
    simp [Node.standing, Rcl.shownWanted, claims_iff]
  have hholder : ∀ h, n.cfg.holder = some h → (n.standing n.shownHolder).bidHolder = h := by
    intro h hh; simp [Node.standing, Node.shownHolder, hh]
  refine ⟨rfl, rfl, rfl, rfl, rfl, rfl, rfl, hgroup, hwanted, hholder, rfl, fun hb => ?_, fun hb => ?_⟩
  · exact holderPart_none (by simpa using mt Node.hasReserve_iff.1 hb)
  · have hb := Node.hasReserve_iff.2 hb
    cases hm : n.hsq.mode with
    | normal =>
      have hready : n.freeReserve = allChans.filter (fun d =>
          (n.chan d).role = .reserve ∧ (n.chan d).state = .ready) := by
        simp [Node.freeReserve, Node.chansWith]
      exact ⟨_, holderPart_normal hb hm, rfl, fun _ => ⟨congrArg List.length hready, rfl⟩, nofun⟩
    | fallback => exact ⟨_, holderPart_fallback hb hm, rfl, nofun, fun _ => ⟨rfl, rfl⟩⟩

/-- A waiting STANDING that is next is offered. -/
theorem offers_standing {d : Option Nat} {s : State} (hr : s.node.running = true)
    (hf : s.node.lkc.inFlight = none) (hc : s.node.lkc.clash = false)
    (ho : s.node.lkc.link = .joined → nextOther s.node.id s.node.lkc.outbox = none)
    (hs : s.node.lkc.outbox.standing = true) :
    ∃ c : Standing, Offers d s (.standing s.node.id c) { s.node.lkc.outbox with standing := false } ∧
      Shows s.node c := by
  refine ⟨_, offers_next hr hf ((nextOffer_standing hc ho).trans (if_pos hs)) ?_, standing_shows _⟩
  change { s.node.lkc.outbox with standing := true } = _
  rw [← hs]

/-- Settles O32: the offer follows `nextOffer`, which takes the first kind of the order. -/
theorem offerTakesTheFirstKind : Obligations.OfferTakesTheFirstKind := by
  intro s d hr n o me ends offered standing
  refine ⟨fun h => ?_, fun hf hc hl => ?_, fun hf hc hl hs =>
    offers_standing hr hf hc (fun hj => absurd hj hl) hs⟩
  · refine endsWith_no_offer hr ?_
    rcases h with hf | hc | hbox | ⟨hl, hs⟩
    · exact .inl hf
    · exact .inr (nextOffer_clashed hc)
    · have hbox : n.lkc.outbox = Outbox.empty := hbox
      exact .inr (nextOffer_unqueued (by rw [hbox]; rfl) fun _ => by rw [hbox]; rfl)
    · exact .inr (nextOffer_unqueued hs fun hj => absurd hj hl)
  · have hnext {f : Frame} {rest : Outbox} (h : nextOther me o = some (f, rest)) : offered f rest :=
      offers_next hr hf (nextOffer_joined hc hl h) (returnFrame_nextOther h)
    refine ⟨fun a ha => hnext ?_, fun hfed => ⟨fun w hw => hnext ?_, fun hway =>
      ⟨fun h hy => hnext ?_, fun hyield => ⟨fun g hg => hnext ?_, fun hfree =>
      ⟨fun b hb => hnext ?_, fun hbid => ⟨fun g hg => hnext ?_, fun hvent hs =>
      offers_standing hr hf hc (fun _ => ?_) hs⟩⟩⟩⟩⟩⟩
    · simp [nextOther, ha, Answer.frame]
    · simp [nextOther, hfed, hw]
    · simp [nextOther, hfed, hway, hy]
    · simp [nextOther, hfed, hway, hyield, hg]
    · simp [nextOther, hfed, hway, hyield, hfree, hb]
    · simp [nextOther, hfed, hway, hyield, hfree, hbid, hg]
    · change nextOther me o = none
      simp [nextOther, hfed, hway, hyield, hfree, hbid, hvent]

end Sys2Proof.Machine

/-! # A frame heard in JOINED, and an entry that leaves the bid queue (O35) -/

namespace Sys2Proof.Machine

/-! ## A frame heard in JOINED -/

/-- The node that a frame heard in JOINED is handed to: heard, with the placement timer as it is left. -/
def Node.heardFor (n : Node) (p : Option Time) : Node := { n.heard with lkc.placement := p }

theorem countHeard_joined {n : Node} (hl : n.lkc.link = .joined) :
    countHeard n = { n with lkc.silence := some (n.now + 3 * n.cfg.period) } := by
  unfold countHeard; rw [hl]

/-- The echo stops the placement timer, and is handed on and reported placed (R86). -/
theorem hear_own {n : Node} {f : Frame} (hv : f.valid = true) (hc : n.lkc.clash = false)
    (hl : n.lkc.link = .joined) (hf : n.lkc.inFlight = some f) :
    hear f n = reportPlaced f (handOn f (n.heardFor none)) := by
  have hheard : countHeard { n with lkc.inFlight := none, lkc.placement := none } = n.heardFor none :=
    countHeard_joined hl
  rw [hear_echo hv hc hf, hearEcho, hheard]

/-- A frame of another node, or the own echo, is handed on; the echo is reported placed. -/
theorem hear_joined {n : Node} {f : Frame} (hv : f.valid = true) (hc : n.lkc.clash = false)
    (hl : n.lkc.link = .joined) (hf : heardOrEchoed f n) :
    ∃ p, hear f n = handOn f (n.heardFor p) ∨ hear f n = reportPlaced f (handOn f (n.heardFor p)) := by
  rcases hf with ⟨hs, hf⟩ | hf
  · exact ⟨n.lkc.placement, .inl (hear_foreign hv hc hl hf hs)⟩
  · exact ⟨none, .inr (hear_own hv hc hl hf)⟩

theorem rvaYield_own {n : Node} (src : NodeId) (ha : n.rvaActive = true) :
    rvaYield src n.id n = removeEntry src n := if_neg (by simp [ha])

/-- A YIELD for this holder, heard: nothing is to be reported. -/
theorem hear_yield {n : Node} {src : NodeId} (hc : n.lkc.clash = false) (hl : n.lkc.link = .joined)
    (hf : heardOrEchoed (.yield src n.id) n) (ha : n.rvaActive = true) :
    ∃ p, hear (.yield src n.id) n = removeEntry src (n.heardFor p) := by
  obtain ⟨p, h | h⟩ := hear_joined (f := .yield src n.id) rfl hc hl hf
  all_goals
    exact ⟨p, h.trans ((if_pos (c := (n.heardFor p).lkc.link = .joined) hl).trans
      (rvaYield_own (n := n.heardFor p) src ha))⟩

/-! ## Channels returned and committed -/

theorem uncommit_queue (c : ChanId) (n : Node) : (uncommit c n).vcu.queue = n.vcu.queue := by
  unfold uncommit; dsimp only; split <;> rfl

theorem uncommitAll_queue (cs : List ChanId) (n : Node) : (uncommitAll cs n).vcu.queue = n.vcu.queue := by
  induction cs generalizing n with
  | nil => rfl
  | cons c cs ih => exact (ih _).trans (uncommit_queue c n)

theorem commit_queue {c : ChanId} {g : NodeId} {n m : Node} (h : commit c g n = some m) :
    m.vcu.queue = n.vcu.queue := by
  revert h; unfold commit; dsimp only; split <;> rintro ⟨⟩; rfl

theorem commitAll_queue (i : NodeId) (cs : List ChanId) (k : Nat) (n : Node) :
    (commitAll i cs (k, n)).2.vcu.queue = n.vcu.queue := by
  induction cs generalizing k n with
  | nil => rfl
  | cons c cs ih =>
    unfold commitAll; split
    next m h => exact (ih _ m).trans (commit_queue h)
    next => exact ih _ n

theorem walkList_queue (es : List BidEntry) (n : Node) : (walkList es n).2.vcu.queue = n.vcu.queue := by
  induction es generalizing n with
  | nil => rfl
  | cons e es ih => exact (ih _).trans (commitAll_queue ..)

theorem grantWalk_queue (n : Node) : (grantWalk n).vcu.queue = n.vcu.queue := by
  unfold grantWalk; split
  · rfl
  · exact walkList_queue n.rva.bids n

/-! ## A grant lapsed -/

theorem committedTo_lapsed {n : Node} {i : NodeId} : (lapseGrant i n).committedTo i = [] :=
  Node.committedTo_nil fun c hc =>
    (grantWalk_committed hc).elim (returnEntry_committed i n c) (returnEntry_bidders i n)

theorem bidders_returned (i : NodeId) (n : Node) :
    (returnEntry i n).bidders = n.bidders.filter (fun j => j ≠ i) := by
  unfold Node.bidders; rw [returnEntry_bids, List.filter_map]; rfl

theorem lapseGrant_bidders (i : NodeId) (n : Node) :
    (lapseGrant i n).bidders = n.bidders.filter (fun j => j ≠ i) :=
  (grantWalk_bidders _).trans (bidders_returned i n)

/-- A lapse leaves the feeds, the answers and the pulse queue. -/
theorem lapseGrant_keeps (i : NodeId) (n : Node) :
    (lapseGrant i n).rva.feedQueue = n.rva.feedQueue ∧ (lapseGrant i n).rva.feed = n.rva.feed ∧
      (lapseGrant i n).rva.answers = n.rva.answers ∧ (lapseGrant i n).vcu.queue = n.vcu.queue := by
  have hrva : (returnEntry i n).rva = { n.rva with bids := (returnEntry i n).rva.bids } := by
    unfold returnEntry dropEntry; rw [uncommitAll_rva]
  obtain ⟨hfeed, hqueue, hanswers, _⟩ := grantWalk_bank (returnEntry i n)
  refine ⟨hqueue.trans ?_, hfeed.trans ?_, hanswers.trans ?_,
    (grantWalk_queue _).trans (uncommitAll_queue _ n)⟩ <;> rw [hrva]

theorem grantOver_due {n : Node} {i : NodeId} {e : BidEntry} {ends : Time} (he : n.entry i = some e)
    (hh : e.hold = some ends) (hd : ends ≤ n.now) : grantOver i n = lapseGrant i n := by
  unfold grantOver; rw [he]; exact if_pos (by simp [due, hh, hd])

/-- Settles O35: a YIELD removes the entry, and the expiry lapses the grant; in both the channels go back
before the walk, which commits none to a node without an entry. -/
theorem yieldAndGrantHoldExpiryRemoveTheEntry : Obligations.YieldAndGrantHoldExpiryRemoveTheEntry := by
  refine ⟨fun s src hr hc hl hf ha => ?_, fun s i e ends hr he hh hd => ?_⟩
  · obtain ⟨p, hear⟩ := hear_yield hc hl hf ha
    refine ⟨_, if_pos (c := s.node.running = true) hr, ?_, fun hp => ⟨?_, ?_⟩, fun hn => ?_⟩
    · rw [finish_entry, hear]; exact Node.entry_none.2 (removeEntry_bidders src _)
    · rw [finish_committedTo, hear]
      exact Node.committedTo_nil (removeEntry_committed (n := s.node.heardFor p) hp)
    · rw [finish_rva, hear]; exact removeEntry_feedQueue (n := s.node.heardFor p) hp
    · have hstay : removeEntry src (s.node.heardFor p) = s.node.heardFor p := by
        unfold removeEntry; rw [show (s.node.heardFor p).entry src = none from hn]
      rw [finish_rva, finish_vcu, hear, hstay]; exact ⟨rfl, rfl⟩
  · have hover := grantOver_due he hh hd
    obtain ⟨hqueue, hfeed, hanswers, hvcu⟩ := lapseGrant_keeps i s.node
    have hbidders := lapseGrant_bidders i s.node
    refine ⟨_, if_pos (c := s.node.running = true) hr, ?_⟩
    rw [finish_entry, finish_committedTo, finish_rva, finish_vcu, hover]
    refine ⟨Node.entry_none.2 ?_, committedTo_lapsed, hqueue, hfeed, hanswers, hvcu, hbidders⟩
    rw [hbidders]; simp

end Sys2Proof.Machine

/-! # A WAYOPEN at the holder (O36) -/

namespace Sys2Proof.Machine

/-! ## The WAYOPEN that a node already has -/

/-- The node's own feed runs, not orphaned. -/
def Node.feeds (n : Node) (i : NodeId) : Prop :=
  ∃ f, n.rva.feed = some f ∧ f.grantee = i ∧ f.orphaned = false

/-- A WAYOPEN of the node waits in the feed queue. -/
def Node.waits (n : Node) (i : NodeId) : Prop := ∃ w ∈ n.rva.feedQueue, w.1 = i

section
variable {n : Node} {src : NodeId} {count : Nat}

theorem feeds_iff : n.feeds src ↔
    (match n.rva.feed with | some f => decide (f.grantee = src) && !f.orphaned | none => false) = true := by
  unfold Node.feeds
  cases n.rva.feed <;> simp

theorem waits_iff : n.waits src ↔ n.rva.feedQueue.any (fun w => w.1 = src) = true := by
  simp [Node.waits]

/-- RVA's part of a WAYOPEN from a node without one (R115). -/
def wayopenNew (src : NodeId) (count : Nat) (n : Node) : Node :=
  if n.isolate then sendAnswer (addAnswer (zeroAnswer src .refused) n)
  else match n.entry src with
    | none => sendAnswer (addAnswer (zeroAnswer src .lapsed) n)
    | some e =>
      if e.granted = 0 then sendAnswer (addAnswer (zeroAnswer src .lapsed) n)
      else
        let m := modEntry src (fun e => { e with taken := .waiting, hold := none }) n
        feedTest { m with rva.feedQueue := m.rva.feedQueue ++ [(src, count)] }

theorem rvaWayopen_feeds (ha : n.rvaActive = true) (hf : n.feeds src) :
    rvaWayopen src n.id count n = n :=
  (if_neg (by simp [ha])).trans (if_pos (feeds_iff.1 hf))

theorem rvaWayopen_waits (ha : n.rvaActive = true) (hf : ¬ n.feeds src) (hw : n.waits src) :
    rvaWayopen src n.id count n = { n with
      rva.feedQueue := n.rva.feedQueue.map (fun w => if w.1 = src then (src, count) else w) } :=
  (if_neg (by simp [ha])).trans ((if_neg (mt feeds_iff.2 hf)).trans (if_pos (waits_iff.1 hw)))

theorem rvaWayopen_new (ha : n.rvaActive = true) (hf : ¬ n.feeds src) (hw : ¬ n.waits src) :
    rvaWayopen src n.id count n = wayopenNew src count n :=
  (if_neg (by simp [ha])).trans ((if_neg (mt feeds_iff.2 hf)).trans (if_neg (mt waits_iff.2 hw)))

/-- The node with a WAYOPEN at the tail of the feed queue and its entry's hold stopped (R110, R116). -/
def wayopenTaken (src : NodeId) (count : Nat) (n : Node) : Node :=
  { n with rva := { n.rva with
    feedQueue := n.rva.feedQueue ++ [(src, count)],
    bids := n.rva.bids.map (fun x =>
      if x.node = src then { x with taken := .waiting, hold := none } else x) } }

theorem wayopenNew_refused (hi : n.isolate = true) :
    wayopenNew src count n = sendAnswer (addAnswer (zeroAnswer src .refused) n) := if_pos hi

theorem wayopenNew_lapsed (hi : n.isolate = false) (he : ∀ e, n.entry src = some e → e.granted = 0) :
    wayopenNew src count n = sendAnswer (addAnswer (zeroAnswer src .lapsed) n) := by
  refine (if_neg (by simp [hi])).trans ?_
  cases h : n.entry src with
  | none => rfl
  | some e => exact if_pos (he e h)

theorem wayopenNew_taken {e : BidEntry} (hi : n.isolate = false) (he : n.entry src = some e)
    (hg : 0 < e.granted) : wayopenNew src count n = feedTest (wayopenTaken src count n) := by
  refine (if_neg (by simp [hi])).trans ?_
  rw [he]; exact if_neg hg.ne'

end

/-! ## The WAYOPEN heard -/

/-- A WAYOPEN for this holder, heard: nothing is to be reported. -/
theorem hear_wayopen {n : Node} {src : NodeId} {count : Nat} (hc : n.lkc.clash = false)
    (hl : n.lkc.link = .joined) (hf : heardOrEchoed (.wayopen src n.id count) n) (h1 : 1 ≤ count)
    (h8 : count ≤ 8) : ∃ p, hear (.wayopen src n.id count) n = rvaWayopen src n.id count (n.heardFor p) := by
  have hv : (Frame.wayopen src n.id count).valid = true := by simp [Frame.valid, h1, h8]
  obtain ⟨p, h | h⟩ := hear_joined hv hc hl hf
  all_goals exact ⟨p, h.trans (if_pos (c := (n.heardFor p).lkc.link = .joined) hl)⟩

/-- What the end of every event writes is not seen in `endsWith`. -/
theorem endsWith_of_bare {c : Instr} {s : State} {m n : Node} (h : endsWith c s m) (hb : m.bare = n.bare)
    (ho : m.lkc.outbox = n.lkc.outbox) : endsWith c s n := by
  obtain ⟨t, ht, hp, hsnap, hbare, hout⟩ := h
  exact ⟨t, ht, hp, hsnap, hbare.trans hb, hout.trans ho⟩

/-- An answer of a node with none waiting and none in flight goes to LKC at once (R119). -/
theorem answer_handed {n : Node} (a : Answer) (ha : n.rva.answers = []) (ho : n.lkc.outbox.fed = none)
    (hf : n.lkc.inFlight = none) (hl : n.lkc.link = .joined) :
    let t := sendAnswer (addAnswer a n)
    t.lkc.outbox.fed = some a ∧ t.rva.feed = n.rva.feed ∧ t.rva.feedQueue = n.rva.feedQueue ∧
      t.rva.bids = n.rva.bids ∧ t.vcu = n.vcu := by
  have hlkc := addAnswer_lkc a n
  have hanswers : (addAnswer a n).rva.answers = [a] := by rw [addAnswer_answers, ha]; rfl
  have hfed := sendAnswer_fed (n := addAnswer a n) (by rw [hlkc, ho]) (by rw [hlkc, hf])
    (by rw [hlkc, hl]; decide)
  dsimp only
  rw [hfed, hanswers, sendAnswer_rva, sendAnswer_vcu, addAnswer_vcu, addAnswer_feed, addAnswer_feedQueue,
    addAnswer_bids]
  exact ⟨rfl, rfl, rfl, rfl, rfl⟩

/-! ## The feed that starts at once -/

section
variable {n : Node} {i : NodeId}

theorem requestCommitted_accepted {c : ChanId} (hrole : (n.chan c).role = .reserve)
    (hc : n.committedAt i c) : requestCommitted c i n =
      some (enqueue c { n.chan c with requester := .rva, feedGrantee := some i } n) :=
  if_pos ⟨hrole, hc⟩

/-- Distinct channels committed to the grantee are all accepted, in order, at the tail of the queue. -/
theorem requestPlaces_accepts {cs : List ChanId} {n : Node} (hnodup : cs.Nodup)
    (hready : ∀ c ∈ cs, (n.chan c).role = .reserve ∧ n.committedAt i c) :
    let t := requestPlaces i cs n
    t.vcu.queue = n.vcu.queue ++ cs ∧ t.rva = n.rva ∧
      (∀ c ∈ cs, (t.chan c).state = .queued ∧ (t.chan c).requester = .rva ∧
        (t.chan c).feedGrantee = some i) ∧
      ∀ d, d ∉ cs → t.chan d = n.chan d := by
  induction cs generalizing n with
  | nil => exact ⟨(List.append_nil _).symm, rfl, by simp, fun _ _ => rfl⟩
  | cons c cs ih =>
    obtain ⟨hc, hcs⟩ := List.nodup_cons.1 hnodup
    obtain ⟨hrole, hst⟩ := hready c List.mem_cons_self
    let q := enqueue c { n.chan c with requester := .rva, feedGrantee := some i } n
    have hother : ∀ d, d ≠ c → q.chan d = n.chan d := fun d hd => enqueue_chan_other _ n hd
    obtain ⟨hq, hrva, hin, hout⟩ := ih (n := q) hcs fun d hd => by
      have hd' := hother d fun he => hc (he ▸ hd)
      rw [Node.committedAt, hd']; exact hready d (List.mem_cons_of_mem c hd)
    have he : requestPlaces i (c :: cs) n = requestPlaces i cs q := by
      rw [requestPlaces, requestCommitted_accepted hrole hst]
    dsimp only; rw [he]
    refine ⟨hq.trans (List.append_assoc ..), hrva, ?_, fun d hd => ?_⟩
    · refine List.forall_mem_cons.2 ⟨?_, hin⟩
      rw [hout c hc, enqueue_chan_same]; exact ⟨rfl, rfl, rfl⟩
    · obtain ⟨hdc, hdcs⟩ := not_or.1 (List.mem_cons.not.1 hd)
      rw [hout d hdcs, hother d hdc]

theorem Node.committedTo_nodup (n : Node) (i : NodeId) : (n.committedTo i).Nodup :=
  List.Nodup.filter (fun c => decide ((n.chan c).state = .committed) && decide ((n.chan c).committedTo = some i))
    allChans_nodup

theorem Node.entry_node {e : BidEntry} (h : n.entry i = some e) : e.node = i := by
  simpa using List.find?_some h

/-- An entry whose feed of `k` channels has started (R116). -/
def BidEntry.feeding (k : Nat) (e : BidEntry) : BidEntry :=
  { e with granted := e.granted - k, inFeed := k, taken := .running, hold := none }

/-- A feed that has just started on channels `cs`. -/
def freshFeed (i : NodeId) (cs : List ChanId) : Feed :=
  { grantee := i, places := cs.map (fun c => { channel := c, status := .pending }),
    confirmed := 0, failed := 0, cancelledSeen := false, orphaned := false, used := cs }

/-- A started feed: its channels are queued in order, and its entry waits for it. -/
theorem startFeed_starts {e : BidEntry} {k : Nat} (he : e.node = i) (hx : n.entry i = some e)
    (hrole : ∀ d ∈ n.committedTo i, (n.chan d).role = .reserve) :
    let cs := (n.committedTo i).take (min k e.granted)
    let t := startFeed e k n
    t.vcu.queue = n.vcu.queue ++ cs ∧
      (∀ d ∈ cs, (t.chan d).state = .queued ∧ (t.chan d).requester = .rva ∧
        (t.chan d).feedGrantee = some i) ∧
      t.rva.feed = some (freshFeed i cs) ∧ t.entry i = some (e.feeding (min k e.granted)) := by
  subst he
  let cs := (n.committedTo e.node).take (min k e.granted)
  let m : Node := { modEntry e.node (BidEntry.feeding (min k e.granted)) n with
    rva.feed := some (freshFeed e.node cs) }
  obtain ⟨hq, hrva, hin, -⟩ := requestPlaces_accepts (i := e.node) (cs := cs) (n := m)
    ((n.committedTo_nodup e.node).sublist (List.take_sublist _ _)) fun d hd =>
      ⟨hrole d (List.mem_of_mem_take hd), Node.mem_committedTo.1 (List.mem_of_mem_take hd)⟩
  have hentry : m.entry e.node = some (e.feeding (min k e.granted)) :=
    (modEntry_entry (f := BidEntry.feeding (min k e.granted)) (fun _ => rfl) n).trans (by rw [hx]; rfl)
  exact ⟨hq, hin, congrArg Rva.feed hrva, (entry_of_rva hrva e.node).trans hentry⟩

/-- With no feed and the key NORMAL, a round takes the head WAYOPEN (R116). -/
theorem feedRounds_takes {k count : Nat} {rest : List (NodeId × Nat)} (hf : n.rva.feed = none)
    (hi : n.isolate = false) (hq : n.rva.feedQueue = (i, count) :: rest) :
    feedRounds (k + 1) n = feedRounds k (takeWayopen i count { n with rva.feedQueue := rest }) := by
  rw [feedRounds, hf, hq]; exact if_neg (by simp [hi])

/-- While a place of the feed waits, no round follows. -/
theorem feedRounds_pending {k : Nat} {f : Feed} (hf : n.rva.feed = some f)
    (hp : ∃ x ∈ f.places, x.status = .pending) : feedRounds k n = n := by
  cases k with
  | zero => rfl
  | succ k => rw [feedRounds, hf]; exact if_pos (by simpa using hp)

/-- An entry whose WAYOPEN waits (R104, R110). -/
def BidEntry.waiting (e : BidEntry) : BidEntry := { e with taken := .waiting, hold := none }

/-- The node of a WAYOPEN with nothing ahead of it, as its feed starts. -/
def wayopenAlone (i : NodeId) (n : Node) : Node := modEntry i BidEntry.waiting n

/-- With nothing ahead of it the WAYOPEN starts its feed. -/
theorem feedTest_starts {e : BidEntry} {count : Nat} (hf : n.rva.feed = none) (hq : n.rva.feedQueue = [])
    (hi : n.isolate = false) (he : n.entry i = some e) (hg : 0 < e.granted) (h1 : 1 ≤ count)
    (hlen : (n.committedTo i).length = e.granted)
    (hrole : ∀ d ∈ n.committedTo i, (n.chan d).role = .reserve) :
    feedTest (wayopenTaken i count n) = sendAnswer (startFeed e.waiting count (wayopenAlone i n)) := by
  let m := wayopenAlone i n
  have hentry : m.entry i = some e.waiting :=
    (modEntry_entry (f := BidEntry.waiting) (fun _ => rfl) n).trans (by rw [he]; rfl)
  have hnode : e.node = i := Node.entry_node he
  obtain ⟨-, -, hfeed, -⟩ := startFeed_starts (k := count) (e := e.waiting) hnode hentry hrole
  have hplace : ∃ x ∈ (freshFeed i ((m.committedTo i).take (min count e.granted))).places,
      x.status = .pending := by
    obtain ⟨d, hd⟩ := List.exists_mem_of_length_pos (l := (n.committedTo i).take (min count e.granted))
      (by rw [List.length_take]; omega)
    exact ⟨_, List.mem_map_of_mem hd, rfl⟩
  have htake : takeWayopen i count m = startFeed e.waiting count m := by
    unfold takeWayopen; rw [hentry]; exact if_neg hg.ne'
  have hqueue : (wayopenTaken i count n).rva.feedQueue = [(i, count)] :=
    congrArg (· ++ [(i, count)]) hq
  have hrest : ({ wayopenTaken i count n with rva.feedQueue := [] } : Node) = m := by
    change _ = { m with rva.feedQueue := n.rva.feedQueue }
    rw [hq]; rfl
  rw [feedTest, hqueue]
  change sendAnswer (feedRounds (3 + 1) _) = _
  rw [feedRounds_takes (n := wayopenTaken i count n) hf hi hqueue, hrest, htake,
    feedRounds_pending hfeed hplace]

end

/-- Settles O36, by the rows of R115's table. -/
theorem wayopenIsAnsweredOrStartsAFeed : Obligations.WayopenIsAnsweredOrStartsAFeed := by
  intro s src count hr hc hl hf h1 h8 ha n c feeds waits answered
  obtain ⟨p, hheard⟩ := hear_wayopen hc hl hf h1 h8
  have hends (m : Node) (h : rvaWayopen src n.id count (n.heardFor p) = m)
      (hs : m.standing 0 = n.standing 0) : endsWith c s m :=
    endsWith_inRun _ (exec_of_frame s rfl) hr (hheard.trans h) hs
  have hnew (hnf : ¬ feeds) (hnw : ¬ waits) :
      hear (.wayopen src n.id count) n = wayopenNew src count (n.heardFor p) :=
    hheard.trans (rvaWayopen_new (n := n.heardFor p) ha hnf hnw)
  have hanswered (o : FedOutcome) (h : hear (.wayopen src n.id count) n =
      sendAnswer (addAnswer (zeroAnswer src o) (n.heardFor p))) : answered o := by
    intro hans hout
    obtain ⟨hfed, hfeed, hqueue, hbids, hvcu⟩ :=
      answer_handed (n := n.heardFor p) (zeroAnswer src o) hans hout rfl hl
    refine ⟨_, if_pos (c := s.node.running = true) hr, ?_⟩
    rw [finish_fed, finish_rva, finish_vcu, h]
    exact ⟨hfed, hfeed, hqueue, hbids, hvcu⟩
  refine ⟨fun h => ?_, fun hnf hw => ?_, fun hnf hnw hk => ?_, fun hnf hnw hk he => ?_,
    fun e hnf hnw hk he hg => ?_, fun e f hnf hnw hk he hg hrun hp => ?_,
    fun e hnone hempty hk he hg hlen hrole => ?_⟩
  · exact endsWith_of_bare (hends _ (rvaWayopen_feeds (n := n.heardFor p) ha h) rfl) rfl rfl
  · exact endsWith_of_bare (hends _ (rvaWayopen_waits (n := n.heardFor p) ha hnf hw) rfl) rfl rfl
  · exact hanswered .refused ((hnew hnf hnw).trans (wayopenNew_refused (n := n.heardFor p) (Node.isolate_iff.2 hk)))
  · refine hanswered .lapsed ((hnew hnf hnw).trans
      (wayopenNew_lapsed (n := n.heardFor p) (Node.not_isolate_iff.2 hk) fun e h => ?_))
    exact absurd (h.symm.trans he) nofun
  · refine hanswered .lapsed ((hnew hnf hnw).trans
      (wayopenNew_lapsed (n := n.heardFor p) (Node.not_isolate_iff.2 hk) fun x h => ?_))
    cases h.symm.trans he; exact hg
  · have hwait := (hnew hnf hnw).trans
      (wayopenNew_taken (n := n.heardFor p) (Node.not_isolate_iff.2 hk) he hg)
    rw [feedTest_waits (n := wayopenTaken src count (n.heardFor p)) hrun hp] at hwait
    refine ⟨_, if_pos (c := s.node.running = true) hr, ?_, ?_⟩
    · rw [finish_vcu, hwait, sendAnswer_vcu]; rfl
    · rw [finish_rva, hwait, sendAnswer_rva]; rfl
  · have hi : (n.heardFor p).isolate = false := Node.not_isolate_iff.2 hk
    have hnf : ¬ feeds := fun ⟨f, h, _⟩ => absurd (hnone.symm.trans h) nofun
    have hnw : ¬ waits := fun ⟨w, h, _⟩ => by rw [hempty] at h; exact absurd h List.not_mem_nil
    have hstart := (hnew hnf hnw).trans ((wayopenNew_taken (n := n.heardFor p) hi he hg).trans
      (feedTest_starts (n := n.heardFor p) hnone hempty hi he hg h1 hlen hrole))
    have hnode : e.node = src := Node.entry_node he
    have hentry : (wayopenAlone src (n.heardFor p)).entry src = some e.waiting :=
      (modEntry_entry (f := BidEntry.waiting) (fun _ => rfl) (n.heardFor p)).trans
        (by rw [show (n.heardFor p).entry src = some e from he]; rfl)
    obtain ⟨hqueue, hchan, hfeed, hx⟩ := startFeed_starts (k := count) (i := src) (e := e.waiting)
      (n := wayopenAlone src (n.heardFor p)) hnode hentry hrole
    have hk : ((n.committedTo src).take (min count e.granted)).length = min count e.granted := by
      rw [List.length_take, hlen]; omega
    refine ⟨_, if_pos (c := s.node.running = true) hr, ?_, fun d hd => ?_,
      ⟨freshFeed src ((n.committedTo src).take (min count e.granted)), ?_, rfl, rfl, rfl, rfl⟩,
      e.waiting.feeding (min count e.granted), ?_, ?_, ?_, rfl, rfl⟩
    · rw [finish_vcu, hstart, sendAnswer_vcu]; exact hqueue
    · unfold Node.chan; rw [finish_vcu, hstart, sendAnswer_vcu]; exact hchan d hd
    · rw [finish_rva, hstart, sendAnswer_rva]; exact hfeed
    · rw [finish_entry, hstart, entry_of_rva (sendAnswer_rva _)]; exact hx
    · exact congrArg (e.granted - ·) hk.symm
    · exact hk.symm

end Sys2Proof.Machine

/-! # What the grant walk gives an entry -/

namespace Sys2Proof.Machine

/-! ## The channels committed -/

theorem Node.mem_freeReserve {n : Node} {c : ChanId} :
    c ∈ n.freeReserve ↔ (n.chan c).role = .reserve ∧ (n.chan c).state = .ready := by
  simp [Node.freeReserve, Node.chansWith, mem_allChans]

theorem Node.freeReserve_nodup (n : Node) : n.freeReserve.Nodup :=
  List.Nodup.filter (fun c => decide ((n.chan c).role = .reserve) && decide ((n.chan c).state = .ready))
    allChans_nodup

/-- Distinct free channels are all committed. -/
theorem commitAll_accepts {i : NodeId} {cs : List ChanId} {k : Nat} {n : Node} (hnodup : cs.Nodup)
    (hfree : ∀ c ∈ cs, c ∈ n.freeReserve) : (commitAll i cs (k, n)).1 = k + cs.length := by
  induction cs generalizing k n with
  | nil => rfl
  | cons c cs ih =>
    obtain ⟨hc, hcs⟩ := List.nodup_cons.1 hnodup
    let m := n.setChan c { n.chan c with state := .committed, committedTo := some i }
    have hm : commit c i n = some m := if_pos (Node.mem_freeReserve.1 (hfree c List.mem_cons_self))
    have hrest : ∀ d ∈ cs, d ∈ m.freeReserve := fun d hd => by
      have hdc : d ≠ c := fun he => hc (he ▸ hd)
      rw [Node.mem_freeReserve, Node.chan_setChan_other n c d _ hdc, ← Node.mem_freeReserve]
      exact hfree d (List.mem_cons_of_mem c hd)
    rw [commitAll, hm]
    exact (ih hcs hrest).trans (by rw [List.length_cons]; omega)

/-- What the walk makes of an entry that it grants `k` more channels (R107). -/
def BidEntry.walked (ends : Time) (k : Nat) (e : BidEntry) : BidEntry :=
  { e with granted := e.granted + k, hold := if 0 < k ∧ e.taken = .no then some ends else e.hold }

/-- The walk gives an entry the smaller of its outstanding count and the free channels. -/
theorem walkEntry_entry (e : BidEntry) (n : Node) : (walkEntry e n).1 =
    e.walked (n.now + 1000 * n.cfg.grantHold) (min e.outstanding n.freeReserve.length) := by
  have hk : (commitAll e.node (n.freeReserve.take e.outstanding) (0, n)).1 =
      min e.outstanding n.freeReserve.length := by
    rw [commitAll_accepts (n.freeReserve_nodup.sublist (List.take_sublist _ _))
      fun c hc => List.mem_of_mem_take hc, List.length_take, Nat.zero_add]
  rw [← hk]; rfl

/-- An entry with nothing outstanding commits no channel. -/
theorem walkEntry_met {e : BidEntry} (h : e.outstanding = 0) (n : Node) : (walkEntry e n).2 = n := by
  unfold walkEntry; rw [h]; rfl

/-- The walk over a list, at the first entry of a node: the node it is walked in is the one before the walk
where no other claim is open. -/
theorem walkList_entry {es : List BidEntry} {n : Node} {i : NodeId} {x : BidEntry}
    (h : es.find? (fun e => e.node = i) = some x) : ∃ m : Node, m.sansBank = n.sansBank ∧
      (walkList es n).1.find? (fun e => e.node = i) = some (walkEntry x m).1 ∧
      ((∀ y ∈ es, y.node ≠ i → y.outstanding = 0) → m = n) := by
  induction es generalizing n with
  | nil => cases h
  | cons e es ih =>
    have hnode : (walkEntry e n).1.node = e.node := rfl
    have hlist : (walkList (e :: es) n).1 = (walkEntry e n).1 :: (walkList es (walkEntry e n).2).1 := rfl
    rw [hlist]
    by_cases he : e.node = i
    · rw [List.find?_cons_of_pos (by simpa using he)] at h
      obtain rfl : e = x := Option.some.inj h
      exact ⟨n, rfl, List.find?_cons_of_pos (by simpa [hnode] using he), fun _ => rfl⟩
    · rw [List.find?_cons_of_neg (by simpa using he)] at h
      rw [List.find?_cons_of_neg (by simpa [hnode] using he)]
      obtain ⟨m, hm, hx, hmet⟩ := ih (n := (walkEntry e n).2) h
      refine ⟨m, hm.trans (walkEntry_sansBank e n), hx, fun hy => ?_⟩
      obtain ⟨hhead, htail⟩ := List.forall_mem_cons.1 hy
      rw [hmet htail, walkEntry_met (hhead he)]

/-- The walk at an entry (R107, R112). -/
theorem grantWalk_walked {n : Node} {i : NodeId} {x : BidEntry} (h : n.entry i = some x) :
    ∃ k, (grantWalk n).entry i = some (x.walked (n.now + 1000 * n.cfg.grantHold) k) ∧
      k ≤ x.outstanding ∧ (n.isolate = true → k = 0) ∧
      (n.isolate = false → (∀ y ∈ n.rva.bids, y.node ≠ i → y.outstanding = 0) →
        k = min x.outstanding n.freeReserve.length) := by
  cases hi : n.isolate with
  | true =>
    rw [grantWalk_isolated hi]
    exact ⟨0, h, Nat.zero_le _, fun _ => rfl, nofun⟩
  | false =>
    obtain ⟨m, hm, hx, hmet⟩ := walkList_entry (n := n) h
    have hnow : m.now = n.now := congrArg (fun m => m.now) hm
    have hcfg : m.cfg = n.cfg := congrArg (fun m => m.cfg) hm
    rw [walkEntry_entry, hnow, hcfg] at hx
    have hwalk : grantWalk n =
        { (walkList n.rva.bids n).2 with rva.bids := (walkList n.rva.bids n).1 } := if_neg (by simp [hi])
    rw [hwalk]
    exact ⟨_, hx, Nat.min_le_left .., nofun, fun _ hy => by rw [hmet hy]⟩

/-! ## The channels of a node whose claim is met -/

theorem walkList_commits {es : List BidEntry} {n : Node} {j : NodeId} {d : ChanId}
    (h : (walkList es n).2.committedAt j d) :
    n.committedAt j d ∨ ∃ e ∈ es, e.node = j ∧ e.outstanding ≠ 0 := by
  induction es generalizing n with
  | nil => exact .inl h
  | cons e es ih =>
    rcases ih h with h' | ⟨x, hx, hj⟩
    · by_cases he : e.outstanding = 0
      · exact .inl (walkEntry_met he n ▸ h')
      · exact (commitAll_committed h').imp_right fun hj => ⟨e, List.mem_cons_self, hj, he⟩
    · exact .inr ⟨x, List.mem_cons_of_mem _ hx, hj⟩

theorem committedTo_of_committedAt {m n : Node} {i : NodeId} {p : ChanId → Bool}
    (h : ∀ c, m.committedAt i c ↔ n.committedAt i c ∧ p c = true) :
    m.committedTo i = (n.committedTo i).filter p := by
  unfold Node.committedTo Node.chansWith
  rw [List.filter_filter]
  refine List.filter_congr fun c _ => ?_
  rw [Bool.eq_iff_iff]
  simpa [Node.committedAt, and_comm] using h c

/-- The walk leaves the channels committed to a node whose entries have nothing outstanding. -/
theorem grantWalk_committedTo {n : Node} {i : NodeId}
    (h : ∀ e ∈ n.rva.bids, e.node = i → e.outstanding = 0) :
    (grantWalk n).committedTo i = n.committedTo i := by
  refine (committedTo_of_committedAt (n := n) (p := fun _ => true) fun c => ?_).trans (List.filter_true _)
  rw [and_iff_left rfl]
  constructor
  · intro hc
    unfold grantWalk at hc; split at hc
    · exact hc
    · exact (walkList_commits hc).resolve_right fun ⟨e, he, hi, ho⟩ => ho (h e he hi)
  · intro hc
    rcases grantWalk_walkedTo n c with hw | ⟨hready, -⟩
    · unfold Node.committedAt; rw [hw]; exact hc
    · exact absurd (hready.symm.trans hc.1) nofun

/-! ## The channels returned -/

theorem uncommitAll_chan_other {cs : List ChanId} {n : Node} {c : ChanId} (h : c ∉ cs) :
    (uncommitAll cs n).chan c = n.chan c := by
  induction cs generalizing n with
  | nil => rfl
  | cons d ds ih =>
    obtain ⟨hd, hds⟩ := not_or.1 (List.mem_cons.not.1 h)
    exact (ih hds (n := uncommit d n)).trans (uncommit_chan_other hd)

theorem uncommitAll_committedAt {cs : List ChanId} {n : Node} {i : NodeId} {c : ChanId} :
    (uncommitAll cs n).committedAt i c ↔ n.committedAt i c ∧ c ∉ cs := by
  constructor
  · intro h
    obtain ⟨hc, he⟩ := uncommitAll_committed h.1
    unfold Node.committedAt at h; rw [he] at h; exact ⟨h, hc⟩
  · rintro ⟨h, hc⟩
    unfold Node.committedAt; rw [uncommitAll_chan_other hc]; exact h

theorem uncommitAll_committedTo (cs : List ChanId) (n : Node) (i : NodeId) :
    (uncommitAll cs n).committedTo i = (n.committedTo i).filter (fun c => c ∉ cs) :=
  committedTo_of_committedAt fun c => by simp [uncommitAll_committedAt]

/-- A list without the last `k` of its elements, where none comes twice. -/
theorem filter_reverse_take {α : Type} [DecidableEq α] {l : List α} (h : l.Nodup) (k : Nat) :
    l.filter (fun c => c ∉ l.reverse.take k) = l.take (l.length - k) := by
  rw [List.take_reverse]
  generalize l.length - k = j
  have hd := List.disjoint_of_nodup_append ((List.take_append_drop j l).symm ▸ h)
  conv_lhs => rw [← List.take_append_drop j l]
  rw [List.filter_append, List.filter_eq_self.2, List.filter_eq_nil_iff.2, List.append_nil]
  all_goals simp only [List.take_append_drop, List.mem_reverse, decide_eq_true_eq, not_not]
  · exact fun a ha => ha
  · exact fun a ha hb => hd ha hb

end Sys2Proof.Machine

/-! # A BID at the holder (O34) -/

namespace Sys2Proof.Machine

/-! ## A node's only entry -/

/-- `x` is the only entry of the node `i` in the bid queue. -/
def Node.soleEntry (n : Node) (i : NodeId) (x : BidEntry) : Prop :=
  x ∈ n.rva.bids ∧ x.node = i ∧ ∀ y ∈ n.rva.bids, y.node = i → y = x

section
variable {n : Node} {i : NodeId} {x : BidEntry}

theorem soleEntry_of_filter (h : n.rva.bids.filter (fun y => y.node = i) = [x]) : n.soleEntry i x := by
  have hmem (y : BidEntry) : y ∈ n.rva.bids ∧ y.node = i ↔ y = x := by
    simpa using congrArg (y ∈ ·) h
  obtain ⟨hx, hi⟩ := (hmem x).2 rfl
  exact ⟨hx, hi, fun y hy hyi => (hmem y).1 ⟨hy, hyi⟩⟩

theorem Node.soleEntry.entry (h : n.soleEntry i x) : n.entry i = some x := by
  obtain ⟨hx, hi, hu⟩ := h
  cases hf : n.entry i with
  | none =>
    unfold Node.entry at hf
    exact absurd hi (by simpa using List.find?_eq_none.1 hf x hx)
  | some y => rw [hu y (List.mem_of_find?_eq_some hf) (Node.entry_node hf)]

theorem Node.soleEntry.modEntry {f : BidEntry → BidEntry} (h : n.soleEntry i x)
    (hf : ∀ e, (f e).node = e.node) : (modEntry i f n).soleEntry i (f x) := by
  obtain ⟨hx, hi, hu⟩ := h
  refine ⟨List.mem_map.2 ⟨x, hx, if_pos hi⟩, (hf x).trans hi, fun y hy hyi => ?_⟩
  obtain ⟨z, hz, rfl⟩ := List.mem_map.1 hy
  by_cases hzi : z.node = i
  · rw [if_pos hzi, hu z hz hzi]
  · rw [if_neg hzi] at hyi; exact absurd hyi hzi

/-- A change of one node's entries leaves the others. -/
theorem modEntry_others {f : BidEntry → BidEntry} (hf : ∀ e, (f e).node = e.node) {y : BidEntry}
    (hy : y ∈ (modEntry i f n).rva.bids) (hi : y.node ≠ i) : y ∈ n.rva.bids := by
  obtain ⟨z, hz, rfl⟩ := List.mem_map.1 hy
  by_cases hzi : z.node = i
  · rw [if_pos hzi] at hi; exact absurd ((hf z).trans hzi) hi
  · rw [if_neg hzi]; exact hz

theorem modEntry_bidders {f : BidEntry → BidEntry} (hf : ∀ e, (f e).node = e.node) :
    (modEntry i f n).bidders = n.bidders := by
  unfold Node.bidders modEntry; dsimp only
  rw [List.map_map]
  refine List.map_congr_left fun e _ => ?_
  dsimp only [Function.comp]; split
  · exact hf e
  · rfl

end

/-! ## The place of an entry -/

/-- The bid queue's nodes with `src` in the place of its class, the others in their order (R105). -/
def placedIn (cls : BidClass) (src : NodeId) (es : List BidEntry) : List NodeId :=
  match cls with
  | .elevated => (es.filter (fun e => e.cls = .elevated ∧ e.node ≠ src)).map BidEntry.node ++ [src] ++
      (es.filter (fun e => e.cls = .ordinary ∧ e.node ≠ src)).map BidEntry.node
  | .ordinary => (es.filter (fun e => e.node ≠ src)).map BidEntry.node ++ [src]

theorem insertEntry_nodes (e : BidEntry) (es : List BidEntry) :
    (insertEntry e (es.filter (fun x => x.node ≠ e.node))).map BidEntry.node = placedIn e.cls e.node es := by
  unfold insertEntry placedIn
  cases e.cls <;> simp [List.filter_filter]

theorem mem_insertEntry {e y : BidEntry} {es : List BidEntry} : y ∈ insertEntry e es ↔ y = e ∨ y ∈ es := by
  unfold insertEntry
  cases e.cls with
  | ordinary => simp [or_comm]
  | elevated => cases hy : y.cls <;> simp [hy, or_comm]

/-- The node with an entry set into the bid queue, in place of those of its node. -/
def entryPlaced (e : BidEntry) (n : Node) : Node :=
  { n with rva.bids := insertEntry e (n.rva.bids.filter (fun x => x.node ≠ e.node)) }

section
variable {n : Node} {src : NodeId} {wanted : Nat} {cls : BidClass}

theorem entryPlaced_sole (e : BidEntry) : (entryPlaced e n).soleEntry e.node e := by
  refine ⟨mem_insertEntry.2 (.inl rfl), rfl, fun y hy hi => (mem_insertEntry.1 hy).resolve_right fun h => ?_⟩
  exact absurd hi (by simpa using (List.mem_filter.1 h).2)

theorem entryPlaced_others {e y : BidEntry} (hy : y ∈ (entryPlaced e n).rva.bids) (hi : y.node ≠ e.node) :
    y ∈ n.rva.bids := by
  rcases mem_insertEntry.1 hy with rfl | h
  · exact absurd rfl hi
  · exact List.mem_of_mem_filter h

theorem filter_absent (h : n.entry src = none) :
    n.rva.bids.filter (fun x => x.node ≠ src) = n.rva.bids := by
  unfold Node.entry at h
  exact List.filter_eq_self.2 fun y hy => by simpa using List.find?_eq_none.1 h y hy

/-! ## A BID of a node without an entry -/

/-- The entry that a BID creates. -/
def Node.bidEntry (n : Node) (src : NodeId) (wanted : Nat) (cls : BidClass) : BidEntry :=
  freshEntry src wanted cls (n.takenOf src)

theorem rvaBid_new (ha : n.rvaActive = true) (h : n.entry src = none) :
    rvaBid src n.id wanted cls n = grantWalk (entryPlaced (n.bidEntry src wanted cls) n) := by
  have hnode : (n.bidEntry src wanted cls).node = src := rfl
  unfold entryPlaced; rw [hnode, filter_absent h]
  refine (if_neg (by simp [ha])).trans ?_
  rw [h]; rfl

/-- A BID creates an entry in its class's place, and the walk grants it (R105, R107, R112). -/
theorem rvaBid_creates (ha : n.rvaActive = true) (h : n.entry src = none) :
    ∃ k, (rvaBid src n.id wanted cls n).bidders = placedIn cls src n.rva.bids ∧
      (rvaBid src n.id wanted cls n).entry src =
        some ((n.bidEntry src wanted cls).walked (n.now + 1000 * n.cfg.grantHold) k) ∧
      k ≤ wanted ∧ (n.isolate = true → k = 0) ∧
      (n.isolate = false → (∀ y ∈ n.rva.bids, y.node ≠ src → y.outstanding = 0) →
        k = min wanted n.freeReserve.length) := by
  rw [rvaBid_new ha h]
  obtain ⟨k, hk, hle, hiso, hnormal⟩ := grantWalk_walked (entryPlaced_sole (n.bidEntry src wanted cls)).entry
  refine ⟨k, ?_, hk, hle, hiso, fun hi hy => hnormal hi fun y hm hne => hy y (entryPlaced_others hm hne) hne⟩
  rw [grantWalk_bidders]; exact insertEntry_nodes ..

/-! ## A BID of a node with an entry -/

/-- An entry with its new count and class (R106). -/
def BidEntry.rebid (wanted : Nat) (cls : BidClass) (e : BidEntry) : BidEntry :=
  { e with wanted := wanted, cls := cls }

/-- The new count and class change the queue alone, and the class the entry's place. -/
theorem updateBid_sole {x : BidEntry} (h : n.soleEntry src x) :
    (∃ bs, updateBid src wanted cls n = { n with rva.bids := bs }) ∧
      (updateBid src wanted cls n).soleEntry src (x.rebid wanted cls) ∧
      (updateBid src wanted cls n).bidders = (if x.cls = cls then n.bidders else placedIn cls src n.rva.bids) ∧
      ∀ y ∈ (updateBid src wanted cls n).rva.bids, y.node ≠ src → y ∈ n.rva.bids := by
  obtain ⟨hx, hi, hu⟩ := h
  have hentry := Node.soleEntry.entry ⟨hx, hi, hu⟩
  by_cases hc : x.cls = cls
  · let f : BidEntry → BidEntry := fun e => { e with wanted := wanted }
    have hupdate : updateBid src wanted cls n = modEntry src f n := by
      unfold updateBid; rw [hentry]; exact if_pos hc
    have hrebid : x.rebid wanted cls = f x := by unfold BidEntry.rebid; rw [← hc]
    rw [hupdate, if_pos hc, hrebid]
    exact ⟨⟨_, rfl⟩, Node.soleEntry.modEntry ⟨hx, hi, hu⟩ fun _ => rfl, modEntry_bidders fun _ => rfl,
      fun y hy hne => modEntry_others (f := f) (fun _ => rfl) hy hne⟩
  · subst hi
    have hupdate : updateBid x.node wanted cls n = entryPlaced (x.rebid wanted cls) n := by
      unfold updateBid; rw [hentry]; exact if_neg hc
    rw [hupdate, if_neg hc]
    exact ⟨⟨_, rfl⟩, entryPlaced_sole (x.rebid wanted cls), insertEntry_nodes ..,
      fun y hy => entryPlaced_others (e := x.rebid wanted cls) hy⟩

/-- An entry once `back` of its channels are returned (R106). -/
def BidEntry.lessened (back : Nat) (e : BidEntry) : BidEntry :=
  { e with granted := e.granted - back, hold := if e.granted - back = 0 then none else e.hold }

/-- How far an entry's channels exceed its count (R106). -/
def BidEntry.surplus (e : BidEntry) : Nat := e.granted + e.inFeed + e.fed - e.wanted

/-- The channels that an entry's surplus gives back: the highest-numbered (R106). -/
def Node.surplusOf (n : Node) (e : BidEntry) : List ChanId := (n.committedTo e.node).reverse.take e.surplus

theorem returnSurplus_sole {y : BidEntry} (h : n.soleEntry src y) : returnSurplus src n =
    modEntry src (BidEntry.lessened (n.surplusOf y).length) (uncommitAll (n.surplusOf y) n) := by
  have hsettle : ∀ k, (fun e : BidEntry => { e with granted := e.granted - k }.settleHold) =
      BidEntry.lessened k := by
    intro k; funext e; unfold BidEntry.settleHold BidEntry.lessened; dsimp only; split <;> rfl
  unfold returnSurplus; rw [h.entry]; dsimp only
  rw [hsettle, Node.surplusOf, BidEntry.surplus, h.2.1]

theorem surplusOf_length {y : BidEntry} (hi : y.node = src) :
    (n.surplusOf y).length = min y.surplus (n.committedTo src).length := by
  rw [Node.surplusOf, hi, List.length_take, List.length_reverse]

/-- The return of the surplus leaves the queue's order, the other entries, and the channels below. -/
theorem returnSurplus_rest {y : BidEntry} (h : n.soleEntry src y) :
    (returnSurplus src n).soleEntry src (y.lessened (n.surplusOf y).length) ∧
      (returnSurplus src n).bidders = n.bidders ∧
      (∀ z ∈ (returnSurplus src n).rva.bids, z.node ≠ src → z ∈ n.rva.bids) ∧
      (returnSurplus src n).committedTo src =
        (n.committedTo src).take ((n.committedTo src).length - y.surplus) := by
  let m := uncommitAll (n.surplusOf y) n
  let f := BidEntry.lessened (n.surplusOf y).length
  have hrva : m.rva = n.rva := uncommitAll_rva ..
  have hsole : m.soleEntry src y := by unfold Node.soleEntry; rw [hrva]; exact h
  rw [returnSurplus_sole h]
  refine ⟨hsole.modEntry fun _ => rfl, ?_, fun z hz hne => ?_, ?_⟩
  · exact (modEntry_bidders (f := f) fun _ => rfl).trans (congrArg (fun r => r.bids.map BidEntry.node) hrva)
  · rw [← hrva]; exact modEntry_others (f := f) (fun _ => rfl) hz hne
  · refine (uncommitAll_committedTo _ n src).trans ?_
    rw [Node.surplusOf, h.2.1, filter_reverse_take (n.committedTo_nodup src)]

/-- With no surplus no channel is returned. -/
theorem returnSurplus_none {y : BidEntry} (h : n.soleEntry src y) (hs : y.surplus = 0) :
    (returnSurplus src n).freeReserve = n.freeReserve := by
  rw [returnSurplus_sole h, Node.surplusOf, hs]; rfl

/-- An entry with its new count and class, less what its surplus gives back. -/
def Node.renewed (n : Node) (wanted : Nat) (cls : BidClass) (x : BidEntry) : BidEntry :=
  (x.rebid wanted cls).lessened (n.surplusOf (x.rebid wanted cls)).length

/-- The node once its bid is renewed, before the walk. -/
def bidRenewedAt (src : NodeId) (wanted : Nat) (cls : BidClass) (n : Node) : Node :=
  returnSurplus src (updateBid src wanted cls n)

theorem rvaBid_again {x : BidEntry} (ha : n.rvaActive = true) (h : n.entry src = some x) :
    rvaBid src n.id wanted cls n = grantWalk (dropIfFed src (bidRenewedAt src wanted cls n)) := by
  refine (if_neg (by simp [ha])).trans ?_
  rw [h]; rfl

/-- The renewed bid before the walk. -/
theorem bidRenewedAt_sole {x : BidEntry} (h : n.soleEntry src x) :
    let q := bidRenewedAt src wanted cls n
    q.soleEntry src (n.renewed wanted cls x) ∧
      q.bidders = (if x.cls = cls then n.bidders else placedIn cls src n.rva.bids) ∧
      (∀ y ∈ q.rva.bids, y.node ≠ src → y ∈ n.rva.bids) ∧
      q.committedTo src = (n.committedTo src).take
        ((n.committedTo src).length - (x.rebid wanted cls).surplus) ∧
      ((x.rebid wanted cls).surplus = 0 → q.freeReserve = n.freeReserve) ∧ q.sansBank = n.sansBank := by
  obtain ⟨⟨bs, hbs⟩, hsole, hbidders, hothers⟩ := updateBid_sole (wanted := wanted) (cls := cls) h
  obtain ⟨hsole', hbidders', hothers', hcommitted⟩ := returnSurplus_rest hsole
  have hfree := returnSurplus_none hsole
  have hsans : (bidRenewedAt src wanted cls n).sansBank = n.sansBank :=
    (returnSurplus_sansBank _ _).trans (updateBid_sansBank ..)
  have hsurplus : (updateBid src wanted cls n).surplusOf = n.surplusOf := by rw [hbs]; rfl
  have hcommittedTo : (updateBid src wanted cls n).committedTo src = n.committedTo src := by rw [hbs]; rfl
  rw [hsurplus] at hsole'
  rw [hcommittedTo] at hcommitted
  refine ⟨hsole', hbidders'.trans hbidders, fun y hy hne => hothers y (hothers' y hy hne) hne, hcommitted,
    fun hs => (hfree hs).trans ?_, hsans⟩
  rw [hbs]; rfl

theorem dropIfFed_fed {x : BidEntry} (h : n.entry src = some x) (hw : x.wanted ≤ x.fed ∧ x.inFeed = 0) :
    dropIfFed src n = returnEntry src n := by
  unfold dropIfFed; rw [h]; exact if_pos hw

theorem dropIfFed_open {x : BidEntry} (h : n.entry src = some x) (hw : ¬ (x.wanted ≤ x.fed ∧ x.inFeed = 0)) :
    dropIfFed src n = n := by
  unfold dropIfFed; rw [h]; exact if_neg hw

/-- A BID that leaves the entry fully fed removes it with its channels (R106). -/
theorem rvaBid_fed {x : BidEntry} (ha : n.rvaActive = true) (h : n.soleEntry src x)
    (hw : wanted ≤ x.fed ∧ x.inFeed = 0) : (rvaBid src n.id wanted cls n).entry src = none ∧
      (rvaBid src n.id wanted cls n).committedTo src = [] := by
  obtain ⟨hsole, -⟩ := bidRenewedAt_sole (wanted := wanted) (cls := cls) h
  rw [rvaBid_again ha h.entry, dropIfFed_fed hsole.entry hw]
  refine ⟨Node.entry_none.2 ?_, committedTo_lapsed⟩
  rw [grantWalk_bidders]; exact returnEntry_bidders src _

/-- A BID that leaves something to feed renews the entry, and the walk grants it what is still open (R106,
R107, R112). -/
theorem rvaBid_renews {x : BidEntry} (ha : n.rvaActive = true) (h : n.soleEntry src x)
    (hw : ¬ (wanted ≤ x.fed ∧ x.inFeed = 0)) :
    let u := rvaBid src n.id wanted cls n
    let y := n.renewed wanted cls x
    ∃ k, u.bidders = (if x.cls = cls then n.bidders else placedIn cls src n.rva.bids) ∧
      u.entry src = some (y.walked (n.now + 1000 * n.cfg.grantHold) k) ∧ k ≤ y.outstanding ∧
      (n.isolate = true → k = 0) ∧
      (y.outstanding = 0 → u.committedTo src = (n.committedTo src).take
        ((n.committedTo src).length - (x.rebid wanted cls).surplus)) ∧
      ((x.rebid wanted cls).surplus = 0 → n.isolate = false →
        (∀ z ∈ n.rva.bids, z.node ≠ src → z.outstanding = 0) →
        k = min y.outstanding n.freeReserve.length) := by
  intro u y
  obtain ⟨hsole, hbidders, hothers, hcommitted, hfree, hsans⟩ :=
    bidRenewedAt_sole (wanted := wanted) (cls := cls) h
  let q := bidRenewedAt src wanted cls n
  have hu : u = grantWalk q := by
    change rvaBid src n.id wanted cls n = _
    rw [rvaBid_again ha h.entry, dropIfFed_open hsole.entry hw]
  have hnow : q.now = n.now := congrArg (fun m => m.now) hsans
  have hcfg : q.cfg = n.cfg := congrArg (fun m => m.cfg) hsans
  have hiso : q.isolate = n.isolate := congrArg (fun m => m.isolate) hsans
  obtain ⟨k, hk, hle, hzero, hnormal⟩ := grantWalk_walked hsole.entry
  rw [hu]
  refine ⟨k, (grantWalk_bidders q).trans hbidders, ?_, hle, fun hi => hzero (hiso.trans hi), fun ho => ?_,
    fun hs hi hy => ?_⟩
  · rw [← hnow, ← hcfg]; exact hk
  · refine (grantWalk_committedTo fun e he hei => ?_).trans hcommitted
    rw [hsole.2.2 e he hei]; exact ho
  · rw [← hfree hs]
    exact hnormal (hiso.trans hi) fun z hz hne => hy z (hothers z hz hne) hne

end

/-! ## The BID heard -/

theorem bidPlaced_bank (n : Node) : (bidPlaced n).rva = n.rva ∧ (bidPlaced n).vcu = n.vcu := by
  unfold bidPlaced; split <;> exact ⟨rfl, rfl⟩

/-- A BID for this holder, heard: RVA and VCU take no part in the report of an echo. -/
theorem hear_bid {n : Node} {src : NodeId} {wanted : Nat} {cls : BidClass} (hc : n.lkc.clash = false)
    (hl : n.lkc.link = .joined) (hf : heardOrEchoed (.bid src n.id wanted cls) n) (h1 : 1 ≤ wanted)
    (h8 : wanted ≤ 8) : ∃ p, let u := rvaBid src n.id wanted cls (n.heardFor p)
      (hear (.bid src n.id wanted cls) n).rva = u.rva ∧ (hear (.bid src n.id wanted cls) n).vcu = u.vcu := by
  have hv : (Frame.bid src n.id wanted cls).valid = true := by simp [Frame.valid, h1, h8]
  obtain ⟨p, h | h⟩ := hear_joined hv hc hl hf
  all_goals
    have hand : handOn (.bid src n.id wanted cls) (n.heardFor p) = rvaBid src n.id wanted cls (n.heardFor p) :=
      if_pos (c := (n.heardFor p).lkc.link = .joined) hl
    rw [h, hand]
  · exact ⟨p, rfl, rfl⟩
  · exact ⟨p, bidPlaced_bank _⟩

theorem committedTo_of_vcu {a b : Node} (h : a.vcu = b.vcu) (i : NodeId) : a.committedTo i = b.committedTo i := by
  unfold Node.committedTo Node.chansWith Node.chan; rw [h]

/-! ## What runs or waits for a node (R104; log 50) -/

section
variable {n : Node} {i : NodeId}

theorem runs_iff : n.rva.feed.any (fun f => decide (f.grantee = i) && !f.orphaned) = true ↔ n.feeds i := by
  unfold Node.feeds; cases n.rva.feed <;> simp

theorem takenOf_running (h : n.feeds i) : n.takenOf i = .running := if_pos (runs_iff.2 h)

theorem takenOf_waiting (h : ¬ n.feeds i) (hw : n.waits i) : n.takenOf i = .waiting :=
  (if_neg (mt runs_iff.1 h)).trans (if_pos (waits_iff.1 hw))

theorem takenOf_no (h : ¬ n.feeds i) (hw : ¬ n.waits i) : n.takenOf i = .no :=
  (if_neg (mt runs_iff.1 h)).trans (if_neg (mt waits_iff.2 hw))

end

/-- Settles O34: without an entry the BID places a fresh one; with one it renews it, which returns the surplus;
then the walk grants what is open. -/
theorem bidCreatesAnEntryInItsPlace : Obligations.BidCreatesAnEntryInItsPlace := by
  intro s src wanted cls hr hc hl hf h1 h8 ha n nodesOf placed othersMet holdUntil command
  obtain ⟨p, hrva, hvcu⟩ := hear_bid hc hl hf h1 h8
  let m := n.heardFor p
  let u := rvaBid src m.id wanted cls m
  let t : State := { s with node := finish n (hear (.bid src n.id wanted cls) n) }
  have hexec : exec command s = .next t := if_pos (c := n.running = true) hr
  have hbids : t.node.rva.bids.map BidEntry.node = u.bidders :=
    congrArg (fun r => r.bids.map BidEntry.node) ((finish_rva ..).trans hrva)
  have hentry : t.node.entry src = u.entry src := (finish_entry ..).trans (entry_of_rva hrva src)
  have hcommitted : t.node.committedTo src = u.committedTo src :=
    (finish_committedTo ..).trans (committedTo_of_vcu hvcu src)
  refine ⟨fun hnone => ?_, fun x hx => ?_⟩
  · obtain ⟨k, hb, he, hle, hiso, hnormal⟩ := rvaBid_creates (n := m) (wanted := wanted) (cls := cls) ha hnone
    let e := (m.bidEntry src wanted cls).walked (m.now + 1000 * m.cfg.grantHold) k
    have hgranted : e.granted = k := Nat.zero_add k
    refine ⟨t, e, hexec, hbids.trans hb, hentry.trans he, rfl, rfl, rfl, rfl, ?_, ?_, ?_, ?_, ?_⟩
    · change n.takenOf src = _
      split_ifs with hrun hwait
      · exact takenOf_running hrun
      · exact takenOf_waiting hrun hwait
      · exact takenOf_no hrun hwait
    · rw [hgranted]; rfl
    · rw [hgranted]; exact hle
    · rw [hgranted]; exact fun hk => hiso (Node.isolate_iff.2 hk)
    · rw [hgranted]; exact fun hk ho => hnormal (Node.not_isolate_iff.2 hk) ho
  · intro surplus back kept
    have hsole : m.soleEntry src x := soleEntry_of_filter (n := m) hx
    refine ⟨fun hw hi => ?_, fun hw => ?_⟩
    · obtain ⟨he, hcom⟩ := rvaBid_fed (n := m) (cls := cls) ha hsole ⟨hw, hi⟩
      exact ⟨t, hexec, hentry.trans he, hcommitted.trans hcom⟩
    · obtain ⟨k, hb, he, hle, hiso, hcom, hnormal⟩ :=
        rvaBid_renews (n := m) (cls := cls) (wanted := wanted) ha hsole (by omega)
      have hback : (m.surplusOf (x.rebid wanted cls)).length = back := surplusOf_length hsole.2.1
      have hy : m.renewed wanted cls x = (x.rebid wanted cls).lessened back := by rw [Node.renewed, hback]
      rw [hy] at he hle hcom hnormal
      have hout : ((x.rebid wanted cls).lessened back).outstanding = wanted - kept - x.inFeed - x.fed := rfl
      rw [hout] at hle hcom hnormal
      have hsur : (x.rebid wanted cls).surplus = surplus := rfl
      have hkept : kept = x.granted - min (x.granted + x.inFeed + x.fed - wanted) (n.committedTo src).length := rfl
      have hs : surplus = x.granted + x.inFeed + x.fed - wanted := rfl
      rw [hsur] at hcom hnormal
      let e := ((x.rebid wanted cls).lessened back).walked (m.now + 1000 * m.cfg.grantHold) k
      have hgranted : e.granted = kept + k := rfl
      refine ⟨t, e, hexec, hbids.trans hb, hentry.trans he, rfl, rfl, rfl, rfl, rfl, ?_, ?_, ?_, ?_, ?_⟩
      all_goals rw [hgranted]
      · exact Nat.le_add_right ..
      · simp only [lt_add_iff_pos_right]; rfl
      · intro hk
        rw [hiso (Node.isolate_iff.2 hk)]; rfl
      · intro hpos
        have hmet : wanted - kept - x.inFeed - x.fed = 0 := by omega
        have htake : (n.committedTo src).length - back = (n.committedTo src).length - surplus := by
          change _ - min surplus _ = _; omega
        rw [htake]
        exact ⟨by omega, hcommitted.trans (hcom hmet)⟩
      · intro hzero hk ho
        have hall : kept = x.granted := by omega
        rw [hnormal hzero (Node.not_isolate_iff.2 hk) ho, hall]; rfl

end Sys2Proof.Machine

/-! # The echo of an own frame (O33) -/

namespace Sys2Proof.Machine

/-! ## The own BID -/

/-- The echo of the own BID: its own arbiter takes it, and the bid is PLACED (R121). -/
theorem hear_own_bid {n : Node} {holder : NodeId} {wanted : Nat} {cls : BidClass} (hc : n.lkc.clash = false)
    (hl : n.lkc.link = .joined) (h1 : 1 ≤ wanted) (h8 : wanted ≤ 8)
    (hf : n.lkc.inFlight = some (.bid n.id holder wanted cls)) (hb : n.rcl.bid = .queued)
    (ho : n.lkc.outbox.bid = none) :
    let m := rvaBid n.id holder wanted cls (n.heardFor none)
    hear (.bid n.id holder wanted cls) n = { m with rcl.bid := .placed } ∧ m.lkc.inFlight = none ∧
      m.lkc.silence = some (n.now + 3 * n.cfg.period) := by
  intro m
  have hv : (Frame.bid n.id holder wanted cls).valid = true := by simp [Frame.valid, h1, h8]
  have hand : handOn (.bid n.id holder wanted cls) (n.heardFor none) = m :=
    if_pos (c := (n.heardFor none).lkc.link = .joined) hl
  have hm : m.sansBank = (n.heardFor none).sansBank := rvaBid_sansBank ..
  have hbid : m.rcl.bid = .queued := (congrArg (fun k => k.rcl.bid) hm).trans hb
  have hbox : m.lkc.outbox.bid = none := (congrArg (fun k => k.lkc.outbox.bid) hm).trans ho
  refine ⟨?_, congrArg (fun k => k.lkc.inFlight) hm, congrArg (fun k => k.lkc.silence) hm⟩
  rw [hear_own hv hc hl hf, hand]
  exact if_pos ⟨hbid, hbox⟩

/-! ## The own VENT -/

/-- What a slot held report needs (R136). -/
def Node.slotDue (n : Node) : Prop := n.holdsSlot = true ∧ n.vsu.sought = true ∧ n.hsq.hall = .awaitSlot

theorem ventReeval_due {n : Node} (h : n.slotDue) : ventReeval n =
    ({ n with vsu := { n.vsu with sought := false, slotWait := none, status := n.ventStatusNow } }, true) := by
  obtain ⟨hs, hw, hh⟩ := h
  have hheld : (n.holdsSlot && n.vsu.sought && decide (n.hsq.hall = .awaitSlot)) = true := by simp [hs, hw, hh]
  unfold ventReeval; dsimp only; rw [hheld]; rfl

theorem ventReeval_undue {n : Node} (h : ¬ n.slotDue) :
    ventReeval n = ({ n with vsu.status := n.ventStatusNow }, false) := by
  have hheld : (n.holdsSlot && n.vsu.sought && decide (n.hsq.hall = .awaitSlot)) = false := by
    simpa [Node.slotDue] using h
  unfold ventReeval; dsimp only; rw [hheld]; rfl

/-- The entry to DISCHARGING leaves a waiting VENT. -/
theorem enterDischarging_vent (n : Node) : (enterDischarging n).lkc.outbox.vent = n.lkc.outbox.vent := by
  have hopen : (openReserve (dischargeFired n)).lkc.outbox.vent = (dischargeFired n).lkc.outbox.vent :=
    congrArg (fun m => m.lkc.outbox.vent) (openReserve_sansClient _)
  have hfired : (dischargeFired n).lkc = (dischargeWritten n).lkc :=
    congrArg (fun m => m.lkc) (fireOwn_sansFire _ _)
  rw [enterDischarging_eq]
  refine hopen.trans ?_
  rw [hfired, dischargeWritten, releaseWrite_eq]; rfl

theorem takeSlot_vent (r : Node × Bool) : (takeSlot r).lkc.outbox.vent = r.1.lkc.outbox.vent := by
  unfold takeSlot slotHeld; repeat' split
  · exact enterDischarging_vent _
  all_goals rfl

/-- A node re-evaluated, with the slot taken that it may give. -/
def slotTried (n : Node) : Node := takeSlot (ventReeval n)

section
variable {n : Node}

theorem slotTried_due (h : n.slotDue) : slotTried n = enterDischarging { n with
    vsu := { n.vsu with sought := false, slotWait := none, status := n.ventStatusNow } } := by
  rw [slotTried, ventReeval_due h]; exact takeSlot_true rfl h.2.2

theorem slotTried_undue (h : ¬ n.slotDue) : slotTried n = { n with vsu.status := n.ventStatusNow } := by
  rw [slotTried, ventReeval_undue h]; rfl

/-- The slot given or not, the queue and the own VENT stay and the status follows them (R136). -/
theorem slotTried_vsu (n : Node) : (slotTried n).vsu.own = n.vsu.own ∧ (slotTried n).vsu.queue = n.vsu.queue ∧
    (slotTried n).vsu.status = n.ventStatusNow := by
  by_cases h : n.slotDue
  · rw [slotTried_due h, enterDischarging_vsu]; exact ⟨rfl, rfl, rfl⟩
  · rw [slotTried_undue h]; exact ⟨rfl, rfl, rfl⟩

theorem slotTried_vent (n : Node) : (slotTried n).lkc.outbox.vent = n.lkc.outbox.vent :=
  (takeSlot_vent _).trans (by unfold ventReeval; dsimp only; split <;> rfl)

theorem slotTried_sansCourse (n : Node) : (slotTried n).sansCourse = n.sansCourse :=
  (takeSlot_sansCourse _).trans (sansCourse_of_sansVent (ventReeval_sansVent n))

/-- A slot that is due is taken: the hall discharges, and the slot wait is over. -/
theorem slotTried_takes (h : n.slotDue) :
    (slotTried n).hsq.hall = .discharging ∧ (slotTried n).vsu.slotWait = none := by
  rw [slotTried_due h, enterDischarging_hall, enterDischarging_vsu]; exact ⟨rfl, rfl⟩

theorem slotTried_waits (h : ¬ n.slotDue) : (slotTried n).hsq = n.hsq ∧
    (slotTried n).vsu.slotWait = n.vsu.slotWait ∧ (slotTried n).vsu.sought = n.vsu.sought := by
  rw [slotTried_undue h]; exact ⟨rfl, rfl, rfl⟩

/-- A node in the queue holds a slot by its place (R136). -/
theorem holdsSlot_iff (hin : n.id ∈ n.vsu.queue) : n.holdsSlot = true ↔
    n.vsu.queue.findIdx (fun i => i = n.id) < n.cfg.ventCapacity := by
  have hpos : n.ventPosition = some (n.vsu.queue.findIdx (fun i => i = n.id)) := by
    unfold Node.ventPosition
    rw [List.findIdx?_eq_some_iff_findIdx_eq]
    exact ⟨List.findIdx_lt_length_of_exists ⟨n.id, hin, by simp⟩, rfl⟩
  unfold Node.holdsSlot; rw [hpos]; simp

theorem holdsSlot_absent (h : n.id ∉ n.vsu.queue) : n.holdsSlot = false := by
  have hpos : n.ventPosition = none := List.findIdx?_eq_none_iff.2 fun i hi => by
    simpa using fun he : i = n.id => h (he ▸ hi)
  unfold Node.holdsSlot; rw [hpos]

end

/-- The vent queue with the own id in it: where it is, or at the tail (R133). -/
def Node.ventJoined (n : Node) : List NodeId :=
  if n.id ∈ n.vsu.queue then n.vsu.queue else n.vsu.queue ++ [n.id]

/-- The own id's place in it. -/
def Node.ventPlace (n : Node) : Nat := n.ventJoined.findIdx (fun i => i = n.id)

theorem Node.mem_ventJoined (n : Node) : n.id ∈ n.ventJoined := by
  unfold Node.ventJoined; split
  · assumption
  · simp

/-- The node once its own VENT is in the queue, before the VENT is reported placed. -/
def ownAppended (n : Node) : Node := takeSlot (ventAppend n.id n)

/-- The own VENT in the queue: it stays QUEUED, and a slot that its place gives is taken at once. -/
theorem ownAppended_facts (n : Node) :
    (ownAppended n).vsu.own = n.vsu.own ∧ (ownAppended n).vsu.queue = n.ventJoined ∧
      (ownAppended n).lkc.outbox.vent = n.lkc.outbox.vent ∧ (ownAppended n).sansCourse = n.sansCourse ∧
      (((ownAppended n).hsq = n.hsq ∧ (ownAppended n).vsu.slotWait = n.vsu.slotWait ∧
          (ownAppended n).vsu.sought = n.vsu.sought) ∨
        n.ventPlace < n.cfg.ventCapacity ∧ (ownAppended n).hsq.hall = .discharging ∧
          (ownAppended n).vsu.slotWait = none) := by
  by_cases hin : n.id ∈ n.vsu.queue
  · have hown : ownAppended n = n := by
      unfold ownAppended ventAppend; rw [if_pos hin]; rfl
    have hqueue : n.ventJoined = n.vsu.queue := if_pos hin
    rw [hown, hqueue]; exact ⟨rfl, rfl, rfl, rfl, .inl ⟨rfl, rfl, rfl⟩⟩
  · let k : Node := { n with vsu.queue := n.ventJoined }
    have hqueue : n.ventJoined = n.vsu.queue ++ [n.id] := if_neg hin
    have hown : ownAppended n = slotTried k := by
      unfold ownAppended ventAppend; rw [if_neg hin, ← hqueue]; rfl
    obtain ⟨h1, h2, -⟩ := slotTried_vsu k
    rw [hown]
    refine ⟨h1, h2, slotTried_vent k, slotTried_sansCourse k, ?_⟩
    by_cases hdue : k.slotDue
    · exact .inr ⟨(holdsSlot_iff (n := k) n.mem_ventJoined).1 hdue.1, slotTried_takes hdue⟩
    · exact .inl (slotTried_waits hdue)

/-- The echo of the own VENT as its two steps. -/
theorem hear_own_vent {n : Node} (hc : n.lkc.clash = false) (hl : n.lkc.link = .joined)
    (h1 : 1 ≤ n.cfg.ventGroup) (h15 : n.cfg.ventGroup ≤ 15) (ha : n.vsuActive = true)
    (hf : n.lkc.inFlight = some (.vent n.id n.cfg.ventGroup)) (hown : n.vsu.own = .queued)
    (ho : n.lkc.outbox.vent = none) : hear (.vent n.id n.cfg.ventGroup) n =
      slotTried { ownAppended (n.heardFor none) with vsu.own := .placed } := by
  let m := n.heardFor none
  have hv : (Frame.vent n.id n.cfg.ventGroup).valid = true := by simp [Frame.valid, h1, h15]
  have htakes : (m.vsuTakes && decide (n.cfg.ventGroup = m.cfg.ventGroup)) = true := by
    have hact : m.vsuActive = true := ha
    have hlink : m.lkc.link = .joined := hl
    have hgroup : n.cfg.ventGroup = m.cfg.ventGroup := rfl
    simp [Node.vsuTakes, hact, hlink, hgroup]
  have hand : handOn (.vent n.id n.cfg.ventGroup) m = ownAppended m :=
    (if_pos (c := m.lkc.link = .joined) hl).trans (congrArg takeSlot (if_pos htakes))
  obtain ⟨hq, -, hbox, -⟩ := ownAppended_facts m
  rw [hear_own hv hc hl hf, hand]
  exact congrArg takeSlot (if_pos ⟨hq.trans hown, hbox.trans ho⟩)

/-- The own VENT placed: the queue, the status by the place, and the slot that it may give. -/
theorem own_vent_placed (n : Node) :
    let t := slotTried { ownAppended n with vsu.own := .placed }
    t.vsu.own = .placed ∧ t.vsu.queue = n.ventJoined ∧ t.sansCourse = n.sansCourse ∧
      t.vsu.status = (if n.ventPlace < n.cfg.ventCapacity then .holding else .waiting) ∧
      (n.hsq.hall = .awaitSlot → n.vsu.sought = true →
        (n.ventPlace < n.cfg.ventCapacity → t.hsq.hall = .discharging ∧ t.vsu.slotWait = none) ∧
        (n.cfg.ventCapacity ≤ n.ventPlace → t.hsq.hall = .awaitSlot ∧ t.vsu.slotWait = n.vsu.slotWait)) := by
  intro t
  obtain ⟨-, hqueue, -, hsans, hslot⟩ := ownAppended_facts n
  let k : Node := { ownAppended n with vsu.own := .placed }
  have hid : k.id = n.id := id_of_cfs (cfs_of_sansCourse hsans)
  have hcfg : k.cfg = n.cfg := cfg_of_cfs (cfs_of_sansCourse hsans)
  have hkq : k.vsu.queue = n.ventJoined := hqueue
  have hholds : k.holdsSlot = true ↔ n.ventPlace < n.cfg.ventCapacity := by
    have h := holdsSlot_iff (n := k) (by rw [hkq, hid]; exact n.mem_ventJoined)
    rwa [hkq, hid, hcfg] at h
  obtain ⟨hown, hq, hst⟩ := slotTried_vsu k
  have hstatus : k.ventStatusNow = if n.ventPlace < n.cfg.ventCapacity then .holding else .waiting :=
    (if_pos (c := k.vsu.own = .placed) rfl).trans (if_congr hholds rfl rfl)
  refine ⟨hown, hq.trans hqueue, (slotTried_sansCourse k).trans hsans, hst.trans hstatus,
    fun hh hw => ⟨fun hp => ?_, fun hp => ?_⟩⟩
  · rcases hslot with ⟨hhsq, -, hsought⟩ | ⟨-, hhall, hwait⟩
    · exact slotTried_takes ⟨hholds.2 hp, hsought.trans hw, (congrArg Hsq.hall hhsq).trans hh⟩
    · have hundue : ¬ k.slotDue := fun ⟨_, _, h⟩ => absurd (hhall.symm.trans h) nofun
      obtain ⟨hhsq, hsw, -⟩ := slotTried_waits hundue
      exact ⟨(congrArg Hsq.hall hhsq).trans hhall, hsw.trans hwait⟩
  · rcases hslot with ⟨hhsq, hwait, -⟩ | ⟨hlt, -⟩
    · have hundue : ¬ k.slotDue := fun ⟨h, _⟩ => absurd (hholds.1 h) (by omega)
      obtain ⟨hhsq', hsw, -⟩ := slotTried_waits hundue
      exact ⟨(congrArg Hsq.hall (hhsq'.trans hhsq)).trans hh, hsw.trans hwait⟩
    · omega

end Sys2Proof.Machine

/-! # The other echoes, and the own id in a frame that is no echo (O33) -/

namespace Sys2Proof.Machine

/-! ## The own FED -/

theorem fedTaken_sansCourse (k : Nat) (n : Node) : (fedTaken k n).sansCourse = n.sansCourse := by
  have hhall : (n.fedHall k).sansCourse = n.hsq.sansCourse := by
    unfold Node.fedHall; split <;> rfl
  unfold fedTaken Node.sansCourse; dsimp only; rw [hhall]

theorem rclFed_sansCourse (k : Nat) (o : FedOutcome) (n : Node) : (rclFed k o n).sansCourse = n.sansCourse := by
  have htaken := fedTaken_sansCourse k n
  rw [rclFed_eq]
  cases n.rcl.phase
  case requested => exact (sansCourse_of_sansClient (fedAnswer_sansClient o _)).trans htaken
  case idle | done => exact htaken
  case waitingGrant | opening => dsimp only; split <;> simpa using htaken

/-- With none waiting or in flight the head answer goes to LKC, and nothing else moves (R119). -/
theorem sendAnswer_hands {n : Node} (ho : n.lkc.outbox.fed = none) (hf : n.lkc.inFlight = none)
    (hl : n.lkc.link = .joined) :
    sendAnswer n = n.modOutbox fun o => { o with fed := n.rva.answers.head? } := by
  cases ha : n.rva.answers with
  | nil =>
    have hkeep : n.modOutbox (fun o => { o with fed := none }) = n := by
      unfold Node.modOutbox; rw [← ho]
    rw [sendAnswer_empty ha]; exact hkeep.symm
  | cons a as =>
    have hfree : (n.lkc.outbox.fed.isSome || n.fedInFlight) = false := by
      unfold Node.fedInFlight; rw [ho, hf]; rfl
    unfold sendAnswer; rw [ha]
    refine (if_neg (by simp [hfree])).trans ?_
    unfold queueFed; exact if_neg (by simp [Node.refusesFrames, hl])

/-- The node that the own FED's echo is handed on to: an answer to this node, or none. -/
def ownFedTaken (g : NodeId) (k : Nat) (o : FedOutcome) (n : Node) : Node :=
  if n.cfg.holder = some n.id ∧ g = n.id then soakTest (rclFed k o n) else n

theorem ownFedTaken_sansCourse (g : NodeId) (k : Nat) (o : FedOutcome) (n : Node) :
    (ownFedTaken g k o n).sansCourse = n.sansCourse := by
  unfold ownFedTaken; split
  · exact (soakTest_sansCourse _).trans (rclFed_sansCourse ..)
  · rfl

/-- The echo of the own FED: the head answer leaves the list, and the next is handed over (R119). -/
theorem hear_own_fed {n : Node} {g : NodeId} {k f : Nat} {o : FedOutcome} (hc : n.lkc.clash = false)
    (hl : n.lkc.link = .joined) (hk : k ≤ 8) (h8 : f ≤ 8)
    (hf : n.lkc.inFlight = some (.fed n.id g k f o)) (ho : n.lkc.outbox.fed = none) :
    let m := ownFedTaken g k o (n.heardFor none)
    hear (.fed n.id g k f o) n = { m with
      rva.answers := n.rva.answers.tail, lkc.outbox.fed := n.rva.answers.tail.head? } ∧ m.rva = n.rva ∧
      m.lkc.inFlight = none := by
  intro m
  have hand : handOn (.fed n.id g k f o) (n.heardFor none) = m :=
    if_congr (and_iff_right (a := (n.heardFor none).lkc.link = .joined) hl) rfl rfl
  have hm : m.sansCourse = (n.heardFor none).sansCourse := ownFedTaken_sansCourse ..
  have hrva : m.rva = n.rva := congrArg (fun q => q.rva) hm
  have hflight : m.lkc.inFlight = none := congrArg (fun q => q.lkc.inFlight) hm
  have hfed : m.lkc.outbox.fed = none := (congrArg (fun q => q.lkc.outbox.fed) hm).trans ho
  have hlink : m.lkc.link = .joined := (congrArg (fun q => q.lkc.link) hm).trans hl
  refine ⟨?_, hrva, hflight⟩
  rw [hear_own (heard_fed_valid hk h8) hc hl hf, hand, ← hrva]
  exact sendAnswer_hands (n := { m with rva.answers := m.rva.answers.tail }) hfed hflight hlink

/-! ## The own YIELD, WAYOPEN and VENTFREE -/

section
variable {n : Node} {src : NodeId}

theorem rvaYield_elsewhere {holder : NodeId} (h : holder ≠ n.id ∨ n.rvaActive = false) :
    rvaYield src holder n = n := if_pos (by rcases h with h | h <;> simp [h])

theorem rvaWayopen_elsewhere {holder : NodeId} {count : Nat} (h : holder ≠ n.id ∨ n.rvaActive = false) :
    rvaWayopen src holder count n = n := if_pos (by rcases h with h | h <;> simp [h])

theorem vsuVentfree_elsewhere {group : Nat}
    (h : group ≠ n.cfg.ventGroup ∨ n.vsuActive = false ∨ src ∉ n.vsu.queue) :
    vsuVentfree src group n = (n, false) := by
  unfold vsuVentfree; split
  next ht =>
    simp only [Node.vsuTakes, Bool.and_eq_true, decide_eq_true_eq] at ht
    obtain ⟨⟨ha, -⟩, hg⟩ := ht
    have hin : src ∉ n.vsu.queue :=
      (h.resolve_left fun hne => hne hg).resolve_left fun hoff => by simp [ha] at hoff
    exact if_neg hin
  · rfl

/-- The own id out of the vent queue: the status follows, and no slot is held (R134, R136). -/
theorem vsuVentfree_own (hg : src = n.id) (ha : n.vsuActive = true) (hl : n.lkc.link = .joined)
    (hin : src ∈ n.vsu.queue) : takeSlot (vsuVentfree src n.cfg.ventGroup n) = { n with vsu := { n.vsu with
      queue := n.vsu.queue.filter (· ≠ src),
      status := if n.vsu.own = .placed then .waiting else .none } } := by
  subst hg
  let k : Node := { n with vsu.queue := n.vsu.queue.filter (· ≠ n.id) }
  have htakes : (n.vsuTakes && decide (n.cfg.ventGroup = n.cfg.ventGroup)) = true := by
    simp [Node.vsuTakes, ha, hl]
  have hremove : vsuVentfree n.id n.cfg.ventGroup n = ventReeval k := (if_pos htakes).trans (if_pos hin)
  have hslot : k.holdsSlot = false := holdsSlot_absent (n := k) (by simp [k])
  have hundue : ¬ k.slotDue := fun ⟨h, _⟩ => by simp [hslot] at h
  have hstatus : k.ventStatusNow = if n.vsu.own = .placed then .waiting else .none := by
    unfold Node.ventStatusNow; rw [hslot]; rfl
  rw [hremove]
  refine (slotTried_undue hundue).trans ?_
  rw [hstatus]

end

/-! ## The own id in a frame that is no echo -/

/-- It only counts as heard, and the frame in flight returns (R86, R88). -/
theorem hear_own_id {n : Node} {f : Frame} (hv : f.valid = true) (hc : n.lkc.clash = false)
    (hl : n.lkc.link = .joined) (hs : ∀ src x, f ≠ .standing src x) (hid : frameSource f = n.id)
    (hf : n.lkc.inFlight ≠ some f) : hear f n = { n with lkc := { n.lkc with
      silence := some (n.now + 3 * n.cfg.period), inFlight := none, outbox := n.returned } } := by
  rw [hear_unechoed hv hc hf, hearForeign_own hs hid, returnInFlight_eq]
  exact countHeard_joined hl

/-- The own YIELD, WAYOPEN and VENTFREE heard again: handed on in JOINED, and nothing is to be reported. -/
theorem hear_own_handed {n m : Node} {f : Frame} (hv : f.valid = true) (hc : n.lkc.clash = false)
    (hl : n.lkc.link = .joined) (hf : n.lkc.inFlight = some f) (hr : ∀ k, reportPlaced f k = k)
    (hand : handOn f (n.heardFor none) = m) : hear f n = m := by
  rw [hear_own hv hc hl hf, hr, hand]

/-- A frame heard without effect: all that remains is that it was heard. -/
theorem endsWith_heard {c : Instr} {f : Frame} {s : State} (hframe : c.frame? = some f)
    (hr : s.node.running = true) (h : hear f s.node = s.node.heardFor none) : endsWith c s s.node.heard :=
  endsWith_of_bare (endsWith_inRun _ (exec_of_frame s hframe) hr h rfl) rfl rfl

/-- Settles O33: each echo is handed on like any other node's frame, and then reported to the block that
queued it. -/
theorem echoPlacesTheBid : Obligations.EchoPlacesTheBid := by
  refine ⟨fun s holder wanted cls hr hc hl h1 h8 hf hb ho => ?_,
    fun s group hr hc hl hg h1 h15 ha hf hown ho => ?_,
    fun s g k f o hr hc hl hk h8 hf ho => ?_, fun s hr hc hl => ?_,
    fun c f s hr hc hl hframe hkind hid hv hf => ?_⟩
  · obtain ⟨hear, hflight, hsilence⟩ := hear_own_bid hc hl h1 h8 hf hb ho
    refine ⟨_, if_pos (c := s.node.running = true) hr, ?_, ?_, ?_, fun hh ha hnone => ?_⟩
    · rw [finish_rcl, hear]
    · rw [finish_inFlight, hear]; exact hflight
    · rw [finish_silence, hear]; exact hsilence
    · let m := s.node.heardFor none
      obtain ⟨k, -, he, -⟩ := rvaBid_creates (n := m) (src := m.id) (wanted := wanted) (cls := cls) ha hnone
      refine ⟨(m.bidEntry m.id wanted cls).walked (m.now + 1000 * m.cfg.grantHold) k,
        (finish_entry ..).trans ?_, rfl, rfl⟩
      rw [hear, hh]; exact he
  · subst hg
    intro n place
    have hear := hear_own_vent hc hl h1 h15 ha hf hown ho
    obtain ⟨hplaced, hqueue, hsans, hstatus, hslot⟩ := own_vent_placed (n.heardFor none)
    refine ⟨_, if_pos (c := s.node.running = true) hr, ?_⟩
    rw [finish_vsu, finish_inFlight, finish_silence, finish_hsq, hear]
    exact ⟨hplaced, congrArg (fun m => m.lkc.inFlight) hsans, congrArg (fun m => m.lkc.silence) hsans,
      hqueue, hstatus, hslot⟩
  · intro n c next
    obtain ⟨hear, hrva, hflight⟩ := hear_own_fed hc hl hk h8 hf ho
    refine ⟨⟨_, if_pos (c := s.node.running = true) hr, ?_, ?_, ?_⟩, fun hno => ?_⟩
    · rw [finish_rva, hear, hrva]
    · rw [finish_fed, hear]
    · rw [finish_inFlight, hear]; exact hflight
    · have hnone : ownFedTaken g k o (n.heardFor none) = n.heardFor none :=
        if_neg fun ⟨hh, hg⟩ => hno.elim (fun h => h hh) (fun h => h hg)
      rw [hnone] at hear
      exact endsWith_of_bare (endsWith_inRun _ (exec_of_frame s rfl) hr hear rfl) rfl rfl
  · intro n flies
    let m := n.heardFor none
    have hlink : m.lkc.link = .joined := hl
    refine ⟨fun holder hf => ⟨fun h => ?_, ?_⟩, fun holder count hf h1 h8 h => ?_,
      fun group hf h1 h15 => ?_⟩
    · exact endsWith_heard rfl hr (hear_own_handed rfl hc hl hf (fun _ => rfl)
        ((if_pos hlink).trans (rvaYield_elsewhere (n := m) h)))
    · rintro rfl ha
      obtain ⟨p, hear⟩ := hear_yield hc hl (.inr hf) ha
      refine ⟨_, if_pos (c := s.node.running = true) hr, ?_, ?_⟩
      · rw [finish_entry, hear]; exact Node.entry_none.2 (removeEntry_bidders n.id _)
      · rw [finish_inFlight, hear]
        exact congrArg (fun m => m.lkc.inFlight) (removeEntry_sansBank n.id (n.heardFor p))
    · have hv : (Frame.wayopen n.id holder count).valid = true := by simp [Frame.valid, h1, h8]
      exact endsWith_heard rfl hr (hear_own_handed hv hc hl hf (fun _ => rfl)
        ((if_pos hlink).trans (rvaWayopen_elsewhere (n := m) h)))
    · have hv : (Frame.ventfree n.id group).valid = true := by simp [Frame.valid, h1, h15]
      refine ⟨fun h => ?_, ?_⟩
      · exact endsWith_heard rfl hr (hear_own_handed hv hc hl hf (fun _ => rfl)
          ((if_pos hlink).trans (congrArg takeSlot (vsuVentfree_elsewhere (n := m) h))))
      · rintro rfl ha hin
        have hear := hear_own_handed hv hc hl hf (fun _ => rfl)
          ((if_pos hlink).trans (vsuVentfree_own (n := m) (src := n.id) rfl ha hl hin))
        refine endsAs_inRun _ (exec_of_frame s rfl) hr ?_
        rw [hear]; rfl
  · have hs : ∀ src x, f ≠ .standing src x := fun src x h => hkind src x (frame?_standing (h ▸ hframe))
    exact endsWith_inRun _ (exec_of_frame s hframe) hr (hear_own_id hv hc hl hs hid hf) rfl

end Sys2Proof.Machine

/-! # The entry to JOINED (O25) -/

namespace Sys2Proof.Machine

section
variable {n : Node}

/-! ## The bid queue rebuilt -/

/-- The nodes of one class that the peer table shows with a bid at this holder, ascending (R114). -/
def Node.biddersOf (n : Node) (cls : BidClass) : List NodeId :=
  allNodes.filter (fun i => (n.peer i).present && decide (0 < (n.peer i).wanted) &&
    decide ((n.peer i).bidHolder = n.id) && decide ((n.peer i).cls = cls))

theorem rebuildClass_nodes (n : Node) (cls : BidClass) :
    (rebuildClass n cls).map BidEntry.node = n.biddersOf cls := by
  unfold rebuildClass Node.biddersOf
  rw [List.map_map]; exact List.map_id _

/-- The rebuild takes the bid queue from the peer table, ELEVATED before ORDINARY. -/
theorem rvaRebuild_bidders (ha : n.rvaActive = true) :
    (rvaRebuild n).bidders = n.biddersOf .elevated ++ n.biddersOf .ordinary := by
  unfold rvaRebuild; rw [if_pos ha, grantWalk_bidders]
  refine (List.map_append ..).trans ?_
  rw [rebuildClass_nodes, rebuildClass_nodes]

/-! ## The vent queue rebuilt, and a held VENT -/

theorem vsuJoined_queue (ha : n.vsuActive = true) :
    (vsuJoined n).1.vsu.queue = n.groupWith .holding ++ n.groupWith .waiting := by
  let k : Node := { n with vsu.queue := n.groupWith .holding ++ n.groupWith .waiting }
  have hqueue : (ventReeval k).1.vsu.queue = k.vsu.queue := ventReeval_queue k
  unfold vsuJoined; rw [if_pos ha]; dsimp only; split
  · rw [queueVent_vsu]; exact hqueue
  · exact hqueue

theorem ventReeval_own (n : Node) : (ventReeval n).1.vsu.own = n.vsu.own := by
  unfold ventReeval; dsimp only; split <;> rfl

/-- A held VENT is handed over (R137). -/
theorem vsuJoined_held (ha : n.vsuActive = true) (ho : n.vsu.own = .held) (hl : n.lkc.link ≠ .lost) :
    (vsuJoined n).1.vsu.own = .queued ∧ (vsuJoined n).1.lkc.outbox.vent = some n.cfg.ventGroup := by
  let k : Node := { n with vsu.queue := n.groupWith .holding ++ n.groupWith .waiting }
  have hsans : (ventReeval k).1.sansVent = k.sansVent := ventReeval_sansVent k
  have hown : (ventReeval k).1.vsu.own = .held := (ventReeval_own k).trans ho
  have hlink : (ventReeval k).1.lkc.link ≠ .lost := by
    rw [show (ventReeval k).1.lkc.link = n.lkc.link from congrArg (fun m => m.lkc.link) hsans]; exact hl
  have hcfg : (ventReeval k).1.cfg = n.cfg := congrArg (fun m => m.cfg) hsans
  unfold vsuJoined; rw [if_pos ha]; dsimp only
  rw [if_pos hown, queueVent_eq (n := { (ventReeval k).1 with vsu.own := .queued }) _ hlink, hcfg]
  exact ⟨rfl, rfl⟩

theorem takeSlot_own (r : Node × Bool) : (takeSlot r).vsu.own = r.1.vsu.own := by
  unfold takeSlot slotHeld; repeat' split
  · rw [enterDischarging_vsu]
  all_goals rfl

/-! ## The entry to JOINED, stage by stage -/

/-- The node in JOINED, before the report to the blocks. -/
def linkJoined (n : Node) : Node := { n with lkc.link := .joined, lkc.listen := none }

/-- Once RCL and RVA are told. -/
def joinRebuilt (n : Node) : Node := rvaRebuild (retryBid (linkJoined n))

theorem joinLink_eq (n : Node) : joinLink n = takeSlot (vsuJoined (joinRebuilt n)) := rfl

theorem joinLink_still (n : Node) : (joinLink n).still = (linkJoined n).still := by
  rw [joinLink_eq, takeSlot_still, vsuJoined_still, joinRebuilt, rvaRebuild_still, retryBid_still]

theorem joinLink_rva (n : Node) : (joinLink n).rva = (joinRebuilt n).rva :=
  (congrArg (fun m => m.rva) (takeSlot_sansCourse _)).trans (congrArg (fun m => m.rva) (vsuJoined_sansVent _))

/-- What neither RCL nor RVA writes at the entry. -/
theorem joinRebuilt_vsu (n : Node) : (joinRebuilt n).vsu = n.vsu :=
  (congrArg (fun m => m.vsu) (rvaRebuild_sansBank _)).trans (congrArg (fun m => m.vsu) (retryBid_sansClient _))

theorem joinRebuilt_vsuActive (n : Node) : (joinRebuilt n).vsuActive = n.vsuActive :=
  (congrArg (fun m => m.vsuActive) (rvaRebuild_sansBank _)).trans
    (congrArg (fun m => m.vsuActive) (retryBid_sansClient (linkJoined n)))

theorem joinRebuilt_groupWith (n : Node) (st : VentStatus) : (joinRebuilt n).groupWith st = n.groupWith st :=
  (congrArg (fun m => m.groupWith st) (rvaRebuild_sansBank _)).trans
    (congrArg (fun m => m.groupWith st) (retryBid_sansClient (linkJoined n)))

theorem joinRebuilt_link (n : Node) : (joinRebuilt n).lkc.link = .joined :=
  (congrArg (fun m => m.lkc.link) (rvaRebuild_sansBank _)).trans
    (congrArg (fun m => m.lkc.link) (retryBid_sansClient (linkJoined n)))

theorem joinRebuilt_cfg (n : Node) : (joinRebuilt n).cfg = n.cfg :=
  (congrArg (fun m => m.cfg) (rvaRebuild_sansBank _)).trans
    (congrArg (fun m => m.cfg) (retryBid_sansClient (linkJoined n)))

theorem joinRebuilt_bidPart (n : Node) : (joinRebuilt n).bidPart = (retryBid (linkJoined n)).bidPart :=
  congrArg (fun m => m.bidPart) (rvaRebuild_sansBank (retryBid (linkJoined n)))

theorem joinRebuilt_selector (n : Node) : (joinRebuilt n).vcu.selector = (retryBid (linkJoined n)).vcu.selector :=
  congrArg (fun m => m.vcu.selector) (rvaRebuild_sansBank (retryBid (linkJoined n)))

/-- RCL's part is written by RCL and the selector alone. -/
theorem joinLink_bidPart (h : (joinRebuilt n).vcu.selector.state ≠ .jammed) :
    (joinLink n).bidPart = (retryBid (linkJoined n)).bidPart := by
  have hsans : (vsuJoined (joinRebuilt n)).1.sansVent = (joinRebuilt n).sansVent := vsuJoined_sansVent _
  have hselector : (vsuJoined (joinRebuilt n)).1.vcu.selector = (joinRebuilt n).vcu.selector :=
    congrArg (fun m => m.vcu.selector) hsans
  rw [joinLink_eq, takeSlot_keeps_bid (.inl (by rw [hselector]; exact h)), ← joinRebuilt_bidPart]
  exact congrArg (fun m => m.bidPart) hsans

/-! ## What the entry leaves -/

theorem joinLink_bidders (ha : n.rvaActive = true) :
    (joinLink n).bidders = n.biddersOf .elevated ++ n.biddersOf .ordinary := by
  have hsans := retryBid_sansClient (linkJoined n)
  have hact : (retryBid (linkJoined n)).rvaActive = n.rvaActive := congrArg (fun m => m.rvaActive) hsans
  have hof (cls : BidClass) : (retryBid (linkJoined n)).biddersOf cls = n.biddersOf cls :=
    congrArg (fun m => m.biddersOf cls) hsans
  rw [bidders_of_rva (congrArg Rva.bids (joinLink_rva n)), joinRebuilt, rvaRebuild_bidders (hact.trans ha),
    hof, hof]

theorem joinLink_queue (ha : n.vsuActive = true) :
    (joinLink n).vsu.queue = n.groupWith .holding ++ n.groupWith .waiting := by
  rw [joinLink_eq, takeSlot_queue, vsuJoined_queue ((joinRebuilt_vsuActive n).trans ha),
    joinRebuilt_groupWith, joinRebuilt_groupWith]

theorem joinLink_held (ha : n.vsuActive = true) (ho : n.vsu.own = .held) :
    (joinLink n).vsu.own = .queued ∧ (joinLink n).lkc.outbox.vent = some n.cfg.ventGroup := by
  rw [joinLink_eq, takeSlot_own, takeSlot_vent, ← joinRebuilt_cfg]
  exact vsuJoined_held ((joinRebuilt_vsuActive n).trans ha) (by rw [joinRebuilt_vsu]; exact ho)
    (by rw [joinRebuilt_link]; decide)

/-- A held bid that can be placed is placed (R121). -/
theorem joinLink_bid {h : NodeId} (hb : n.rcl.bid = .held) (hh : n.cfg.holder = some h)
    (hp : (n.peer h).present = true) (hpart : (n.peer h).holderPart.isSome = true)
    (hj : n.vcu.selector.state ≠ .jammed) : (joinLink n).rcl.bid = .queued ∧
      (joinLink n).lkc.outbox.bid = some { holder := h, wanted := n.rcl.n, cls := n.cfg.cls } := by
  have hretried : (linkJoined n).bidRetried :=
    ⟨⟨rfl, hj, h, hh, hp, Option.isSome_iff_ne_none.1 hpart⟩, .inl hb⟩
  have hsent : retryBid (linkJoined n) = { linkJoined n with
      rcl.bid := .queued, rcl.rebid := false, lkc.outbox.bid := some ((linkJoined n).bidFor h) } :=
    (retryBid_sends hretried).trans (sendBid_of_joined (n := linkJoined n) hh (nofun : LinkState.joined ≠ .lost))
  have hselector : (joinRebuilt n).vcu.selector = n.vcu.selector := by
    rw [joinRebuilt_selector, hsent]; rfl
  have hpartBid := joinLink_bidPart (n := n) (by rw [hselector]; exact hj)
  rw [hsent] at hpartBid
  exact ⟨congrArg (fun b => b.1) hpartBid, congrArg (fun b => b.2.2.1) hpartBid⟩

end

/-- Settles O25: the entry to JOINED tells RCL, RVA and VSU in turn, and each rebuilds its own part. -/
theorem listenExpiryJoinsAndRebuilds : Obligations.ListenExpiryJoinsAndRebuilds := by
  intro s ends hr hlisten hends hl n bids vents
  have hover : listenOver n = joinLink n := if_pos (by simp [n, due, hlisten, hends, hl])
  have hstill := joinLink_still n
  refine ⟨_, if_pos (c := s.node.running = true) hr, ?_, ?_, fun ha => ?_, fun ha => ⟨?_, fun ho => ?_⟩,
    fun h hb hh hp hpart hj => ?_⟩
  · rw [finish_link, hover]; exact congrArg (fun m => m.lkc.link) hstill
  · rw [finish_listen, hover]; exact congrArg (fun m => m.lkc.listen) hstill
  · rw [finish_rva, hover]; exact joinLink_bidders ha
  · rw [finish_vsu, hover]; exact joinLink_queue ha
  · rw [finish_vsu, finish_vent, hover]; exact joinLink_held ha ho
  · rw [finish_rcl, finish_bid, hover]; exact joinLink_bid hb hh hp hpart hj

end Sys2Proof.Machine
